-- ==== Sys2Proof/Word.lean ====
section
/-! DEFINITION. The machine's word types and the one table type the state is made of. -/

namespace Sys2Proof

/-- A 64-bit word: scalar registers, addresses while they are computed (R35). -/
abbrev Word := BitVec 64
/-- The smallest unit of memory (R3). -/
abbrev Byte := BitVec 8
/-- A 32-bit lane, a counting flag, an instruction word (R39, R47, R120). -/
abbrev W32 := BitVec 32
/-- A vector register: 512 bytes, byte b in bits [8b+7:8b] (R39). -/
abbrev VReg := BitVec 4096
/-- A predicate register: bit b governs byte b (R40). -/
abbrev PReg := BitVec 512

/-- A sparse table: (key, value) pairs, keys strictly rising when built by `Tbl.set` from `[]`. -/
abbrev Tbl (α : Type) := List (Nat × α)

/-- The value at a key; an absent key reads as `d`. -/
def Tbl.get {α : Type} (d : α) : Tbl α → Nat → α
  | [], _ => d
  | (k, v) :: t, n => if k = n then v else Tbl.get d t n

/-- Sets a key, keeping the keys in rising order. -/
def Tbl.set {α : Type} : Tbl α → Nat → α → Tbl α
  | [], n, v => [(n, v)]
  | (k, w) :: t, n, v =>
    if k = n then (k, v) :: t
    else if n < k then (n, v) :: (k, w) :: t
    else (k, w) :: Tbl.set t n v

/-- The value at a key, if it is present. -/
def Tbl.find? {α : Type} : Tbl α → Nat → Option α
  | [], _ => none
  | (k, v) :: t, n => if k = n then some v else Tbl.find? t n

/-- Removes a key. -/
def Tbl.erase {α : Type} : Tbl α → Nat → Tbl α
  | [], _ => []
  | (k, v) :: t, n => if k = n then Tbl.erase t n else (k, v) :: Tbl.erase t n

/-- Applies a function to the value of every present key. -/
def Tbl.mapVal {α : Type} (f : Nat → α → α) : Tbl α → Tbl α
  | [] => []
  | (k, v) :: t => (k, f k v) :: Tbl.mapVal f t

end Sys2Proof
end

