-- ==== Sys2Proof/Config.lean ====
section
/-! DEFINITION. What an implementation fixes and the values the spec leaves open. A free value is a constant with no
body, applied to the state's counter of free values (log 5) or to the operands it depends on: nothing can evaluate it,
so a claim holds whatever it is. -/
namespace Sys2Proof

/-- A word the spec leaves open, fresh at each count (log 5). -/
opaque freeWord : Nat → Word

/-- Bytes the spec leaves open, fresh at each count: the second argument is the position (DESIGN CHOICE, log 5). -/
opaque freeByte : Nat → Nat → Byte

/-- The length that a firmware image's header of 16 bytes carries: the spec gives no layout (R376; log 10). -/
opaque freeImageLen : List Byte → Nat

/-- The CRC-32 that a firmware image's header carries is right or wrong: the spec gives no polynomial (R376; log 10). -/
opaque freeCrcOk : List Byte → Bool

/-- The snapshot registers that a capture latches: the spec does not give their layout (R380; log 11). -/
opaque freeSnapshot : Nat → List Byte

/-- What each source contributes to the cause word of a capture: the spec does not give its layout (R380; log 11). -/
opaque freeCauseBit : Nat → Word

/-- SNAPT's cause tag as the cause word holds it (R380; log 11). -/
opaque freeCauseTag : BitVec 16 → Word

end Sys2Proof
end

