-- ==== Sys2Proof/Syntax.lean ====
section
/-! DEFINITION. The instruction set as syntax: one constructor of Instr per row of spec/opcode_table.json.
The first 253 constructors are encoded instructions of the two strands (06_encoding_and_assembly.md); nine of
them (END, RDV, GCLR, NOP, TRET, ISYNC, SRET, XRDV, ME.GO) read no register and ignore E (R124), so E is not kept;
ME.GO's extension word is read from the strand that fetched it (log entry 14). The
last 91 are the hardware's and the hosts' own steps, which have no encoding: they run when the agenda names them, on
the operands that the machine state holds for the step (EvArgs). -/
namespace Sys2Proof

/-- A scalar register number s0-s63 (R123). -/
abbrev Reg := BitVec 6
/-- A vector register number v0-v63 (R39). -/
abbrev VNo := BitVec 6
/-- A predicate register number p0-p15 (R40). -/
abbrev PNo := BitVec 4
/-- A core of the package: [5:0] core within die, [7:6] die (Table 02.4, COREID). -/
abbrev CoreId := BitVec 8
/-- A partition, named by its lowest die (Table 19.4), or a die. -/
abbrev PartId := BitVec 2
/-- A host port (R373). -/
abbrev PortId := BitVec 1

/-- The two strands of a core (R17). -/
inductive Strand
  | a | x
  deriving DecidableEq, Repr

/-- Scopes, codes 0-4 (Table 05.1). -/
inductive Scope
  | core | group | die | pkg | sys
  deriving DecidableEq, Repr

/-- AMO operations, codes 0-9 (R130). -/
inductive AmoOp
  | add | and | or | xor | smin | smax | umin | umax | swap | cas
  deriving DecidableEq, Repr

/-- Rounding modes, codes 0-5 (Table 04.3). -/
inductive Rmode
  | rne | rz | ru | rd | rna | sr
  deriving DecidableEq, Repr

/-- Element codes 0-13 (Table 04.1). -/
inductive Elem
  | fp32 | fp16 | bf16 | e4m3 | e5m2 | e3m2 | e2m3 | e2m1 | e2m1x | int8 | uint8 | int4 | uint4 | bin1
  deriving DecidableEq, Repr

/-- The three store queues SQ0-SQ2 (R38). -/
inductive Sq
  | sq0 | sq1 | sq2
  deriving DecidableEq, Repr

/-- The extension word of a long form (Table 06.1). -/
structure Ext where
  stamp : BitVec 12
  prod : BitVec 5
  cona : BitVec 5
  conb : BitVec 5
  conc : BitVec 5
  deriving DecidableEq, Repr

/-- Fault codes 0x20-0x2F (Table 16.5). -/
inductive FCode
  | illegal | wrongStrand | priv | align | page | prot | fmtPair | fmtCode | slotState | tokenBusy
  | lrState | peerLost | poison | taskTimeout | engine | saveFail
  deriving DecidableEq, Repr

/-- Who issued a command of Scheduling hardware or Pre-emption: the supervisor or a host port (R375). -/
inductive Agent
  | sup
  | port (n : PortId)
  deriving DecidableEq, Repr

/-- The protected structures of Table 21.6. -/
inductive Structure
  | files                       -- scalar, vector and predicate files, queues (code 1)
  | scratchpad (addr : BitVec 16)  -- 8-byte word number of the scratchpad (code 2)
  | accumulators                -- code 3
  | operandSlot (n : BitVec 3)
  | signatureRow
  | cache                       -- instruction cache, TLB and mask cache of a core
  | dieTlb                      -- the shared TLB of the core's die (R350)
  | l2 (line : BitVec 45) (dirty : Bool)
  | hbm (line : BitVec 45)
  | queueSram
  deriving DecidableEq, Repr

/-- A register that REGISTER_WRITE may write: a partition register by its number (R288) or a register of
the I/O-die page by its offset, through a host port (Table 21.1). -/
inductive RegTarget
  | sup (part : PartId) (num : BitVec 12)
  | window (port : PortId) (part : PartId) (num : BitVec 12)
  | io (port : PortId) (offset : BitVec 16)
  deriving DecidableEq, Repr

/-- A packet from the network: whether it uses only supported options (R358), the UET job id, and the
message it completes. -/
structure Packet where
  pdc : W32 := 0                 -- the packet delivery context that carries it (R358)
  supported : Bool
  job : BitVec 24
  message : List Byte
  deriving DecidableEq, Repr

/-- A CXL device found by enumeration: whether it is supported, and its size in bytes (R379). -/
structure CxlDevice where
  port : PortId := 0
  supported : Bool
  bytes : Nat
  deriving DecidableEq, Repr

/-- The units whose single failure the accepted-work guarantee covers (R344). -/
inductive FailUnit
  | die (d : BitVec 2)
  | stack (k : BitVec 3)
  | baseDie (k : BitVec 3)
  deriving DecidableEq, Repr

/-- The instructions and steps of spec/opcode_table.json. -/
inductive Instr
  /-- ADD (R141): Writes s[a] + s[b] modulo 2^64 to d. -/
  | add (d : Reg) (a : Reg) (b : Reg) (e : Bool)
  /-- SUB (R141): Writes s[a] − s[b] modulo 2^64 to d. -/
  | sub (d : Reg) (a : Reg) (b : Reg) (e : Bool)
  /-- MUL (R141): Writes the low 64 bits of s[a] × s[b] to d. -/
  | mul (d : Reg) (a : Reg) (b : Reg) (e : Bool)
  /-- MULH (R141): Writes the high 64 bits of the signed product to d. -/
  | mulh (d : Reg) (a : Reg) (b : Reg) (e : Bool)
  /-- MULHU (R141): Writes the high 64 bits of the unsigned product to d. -/
  | mulhu (d : Reg) (a : Reg) (b : Reg) (e : Bool)
  /-- DIVU (R141): Writes the unsigned quotient, all ones on division by zero. -/
  | divu (d : Reg) (a : Reg) (b : Reg) (e : Bool)
  /-- REMU (R141): Writes the unsigned remainder, s[a] on division by zero. -/
  | remu (d : Reg) (a : Reg) (b : Reg) (e : Bool)
  /-- AND (R141): Writes the bitwise AND of s[a] and s[b]. -/
  | and (d : Reg) (a : Reg) (b : Reg) (e : Bool)
  /-- OR (R141): Writes the bitwise OR of s[a] and s[b]. -/
  | or (d : Reg) (a : Reg) (b : Reg) (e : Bool)
  /-- XOR (R141): Writes the bitwise XOR of s[a] and s[b]. -/
  | xor (d : Reg) (a : Reg) (b : Reg) (e : Bool)
  /-- ANDN (R141): Writes s[a] AND NOT s[b]. -/
  | andn (d : Reg) (a : Reg) (b : Reg) (e : Bool)
  /-- ORN (R141): Writes s[a] OR NOT s[b]. -/
  | orn (d : Reg) (a : Reg) (b : Reg) (e : Bool)
  /-- SHL (R141): Shifts s[a] left by s[b][5:0]. -/
  | shl (d : Reg) (a : Reg) (b : Reg) (e : Bool)
  /-- SHR (R141): Shifts s[a] right by s[b][5:0], zeros in. -/
  | shr (d : Reg) (a : Reg) (b : Reg) (e : Bool)
  /-- SAR (R141): Shifts s[a] right by s[b][5:0], sign in. -/
  | sar (d : Reg) (a : Reg) (b : Reg) (e : Bool)
  /-- ROTR (R141): Rotates s[a] right by s[b][5:0]. -/
  | rotr (d : Reg) (a : Reg) (b : Reg) (e : Bool)
  /-- MIN (R141): Writes the signed minimum of s[a] and s[b]. -/
  | min (d : Reg) (a : Reg) (b : Reg) (e : Bool)
  /-- MAX (R141): Writes the signed maximum of s[a] and s[b]. -/
  | max (d : Reg) (a : Reg) (b : Reg) (e : Bool)
  /-- MINU (R141): Writes the unsigned minimum of s[a] and s[b]. -/
  | minu (d : Reg) (a : Reg) (b : Reg) (e : Bool)
  /-- MAXU (R141): Writes the unsigned maximum of s[a] and s[b]. -/
  | maxu (d : Reg) (a : Reg) (b : Reg) (e : Bool)
  /-- SLT (R141): Writes 1 if s[a] < s[b] signed, else 0. -/
  | slt (d : Reg) (a : Reg) (b : Reg) (e : Bool)
  /-- SLTU (R141): Writes 1 if s[a] < s[b] unsigned, else 0. -/
  | sltu (d : Reg) (a : Reg) (b : Reg) (e : Bool)
  /-- SEQ (R141): Writes 1 if s[a] equals s[b], else 0. -/
  | seq (d : Reg) (a : Reg) (b : Reg) (e : Bool)
  /-- SNE (R141): Writes 1 if s[a] differs from s[b], else 0. -/
  | sne (d : Reg) (a : Reg) (b : Reg) (e : Bool)
  /-- CLZ (R141): Writes the number of leading zeros of s[a]. -/
  | clz (d : Reg) (a : Reg) (e : Bool)
  /-- CTZ (R141): Writes the number of trailing zeros of s[a]. -/
  | ctz (d : Reg) (a : Reg) (e : Bool)
  /-- POPC (R141): Writes the number of set bits of s[a]. -/
  | popc (d : Reg) (a : Reg) (e : Bool)
  /-- BFX (R142): Extracts a sign-extended bit field of s[a] at the position and width in s[b]. -/
  | bfx (d : Reg) (a : Reg) (b : Reg) (e : Bool)
  /-- BFXU (R142): Extracts a zero-extended bit field of s[a]. -/
  | bfxu (d : Reg) (a : Reg) (b : Reg) (e : Bool)
  /-- BFI (R142): Inserts the low bits of s[a] into a field of s[d]. -/
  | bfi (d : Reg) (a : Reg) (b : Reg) (e : Bool)
  /-- SELNZ (R141): Writes s[a] if s[d] is non-zero, else s[b]. -/
  | selnz (d : Reg) (a : Reg) (b : Reg) (e : Bool)
  /-- ADDI (R143): Writes s[a] plus the sign-extended immediate. -/
  | addi (d : Reg) (a : Reg) (i : BitVec 13)
  /-- ANDI (R143): Writes s[a] AND the zero-extended immediate. -/
  | andi (d : Reg) (a : Reg) (i : BitVec 13)
  /-- ORI (R143): Writes s[a] OR the zero-extended immediate. -/
  | ori (d : Reg) (a : Reg) (i : BitVec 13)
  /-- XORI (R143): Writes s[a] XOR the zero-extended immediate. -/
  | xori (d : Reg) (a : Reg) (i : BitVec 13)
  /-- SHLI (R143): Shifts s[a] left by an immediate count. -/
  | shli (d : Reg) (a : Reg) (c : BitVec 6)
  /-- SHRI (R143): Shifts s[a] right by an immediate count, zeros in. -/
  | shri (d : Reg) (a : Reg) (c : BitVec 6)
  /-- SARI (R143): Shifts s[a] right by an immediate count, sign in. -/
  | sari (d : Reg) (a : Reg) (c : BitVec 6)
  /-- SLTI (R143): Writes 1 if s[a] is less than the signed immediate, else 0. -/
  | slti (d : Reg) (a : Reg) (i : BitVec 13)
  /-- LIH (R143): Writes the sign-extended imm19 shifted left by 13. -/
  | lih (d : Reg) (i : BitVec 19)
  /-- LDB (R147): Loads a sign-extended byte from global memory, marking d empty until it returns. -/
  | ldb (d : Reg) (a : Reg) (c : BitVec 4) (o : BitVec 9)
  /-- LDBU (R147): Loads a zero-extended byte from global memory. -/
  | ldbu (d : Reg) (a : Reg) (c : BitVec 4) (o : BitVec 9)
  /-- LDH (R147): Loads a sign-extended halfword from global memory. -/
  | ldh (d : Reg) (a : Reg) (c : BitVec 4) (o : BitVec 9)
  /-- LDHU (R147): Loads a zero-extended halfword from global memory. -/
  | ldhu (d : Reg) (a : Reg) (c : BitVec 4) (o : BitVec 9)
  /-- LDW (R147): Loads a sign-extended word from global memory. -/
  | ldw (d : Reg) (a : Reg) (c : BitVec 4) (o : BitVec 9)
  /-- LDWU (R147): Loads a zero-extended word from global memory. -/
  | ldwu (d : Reg) (a : Reg) (c : BitVec 4) (o : BitVec 9)
  /-- LDD (R147): Loads a doubleword from global memory. -/
  | ldd (d : Reg) (a : Reg) (c : BitVec 4) (o : BitVec 9)
  /-- STB (R147): Stores the low byte of s[d] to global memory. -/
  | stb (d : Reg) (a : Reg) (c : BitVec 4) (o : BitVec 9)
  /-- STH (R147): Stores the low halfword of s[d] to global memory. -/
  | sth (d : Reg) (a : Reg) (c : BitVec 4) (o : BitVec 9)
  /-- STW (R147): Stores the low word of s[d] to global memory. -/
  | stw (d : Reg) (a : Reg) (c : BitVec 4) (o : BitVec 9)
  /-- STD (R147): Stores s[d] as a doubleword to global memory. -/
  | std (d : Reg) (a : Reg) (c : BitVec 4) (o : BitVec 9)
  /-- AMO (R150): Performs an atomic read-modify-write of 8 bytes at s[a], returning the old value to d. -/
  | amo (d : Reg) (a : Reg) (b : Reg) (op : AmoOp) (sc : Scope)
  /-- AMORR (R151): Performs an atomic read-modify-write whose old value is delivered to a scratchpad described by s[d]. -/
  | amorr (d : Reg) (a : Reg) (b : Reg) (op : AmoOp) (sc : Scope)
  /-- LDACQ (R149): Reads 8 bytes as an acquire at the given class and scope. -/
  | ldacq (d : Reg) (a : Reg) (c : BitVec 4) (sc : Scope) (o : BitVec 6)
  /-- STREL (R149): Writes 8 bytes as a release at the given class and scope. -/
  | strel (d : Reg) (a : Reg) (c : BitVec 4) (sc : Scope) (o : BitVec 6)
  /-- FENCE (R105): Orders the strand's accesses in the covered classes at a scope. -/
  | fence (m : BitVec 16) (sc : Scope)
  /-- SPLDB (R153): Loads a zero-extended byte from scratchpad. -/
  | spldb (d : Reg) (a : Reg) (b : Reg) (e : Bool)
  /-- SPLDH (R153): Loads a zero-extended halfword from scratchpad. -/
  | spldh (d : Reg) (a : Reg) (b : Reg) (e : Bool)
  /-- SPLDW (R153): Loads a zero-extended word from scratchpad. -/
  | spldw (d : Reg) (a : Reg) (b : Reg) (e : Bool)
  /-- SPLDD (R153): Loads a doubleword from scratchpad. -/
  | spldd (d : Reg) (a : Reg) (b : Reg) (e : Bool)
  /-- SPSTB (R153): Stores the low byte of s[d] to scratchpad. -/
  | spstb (d : Reg) (a : Reg) (b : Reg) (e : Bool)
  /-- SPSTH (R153): Stores the low halfword of s[d] to scratchpad. -/
  | spsth (d : Reg) (a : Reg) (b : Reg) (e : Bool)
  /-- SPSTW (R153): Stores the low word of s[d] to scratchpad. -/
  | spstw (d : Reg) (a : Reg) (b : Reg) (e : Bool)
  /-- SPSTD (R153): Stores s[d] as a doubleword to scratchpad. -/
  | spstd (d : Reg) (a : Reg) (b : Reg) (e : Bool)
  /-- SPMARKF (R153): Sets the full bits of s[b] scratchpad lines from line s[a] >> 7. -/
  | spmarkf (a : Reg) (b : Reg) (e : Bool)
  /-- SPMARKE (R153): Clears the full bits of s[b] scratchpad lines from line s[a] >> 7. -/
  | spmarke (a : Reg) (b : Reg) (e : Bool)
  /-- SPTESTF (R153): Writes the full bit of the line holding s[a] + s[b] to d. -/
  | sptestf (d : Reg) (a : Reg) (b : Reg) (e : Bool)
  /-- VLD (R154): Reads 512 bytes of own or peer scratchpad and pushes them to a load queue. -/
  | vld (q : BitVec 2) (a : Reg) (b : Reg) (e : Bool)
  /-- VLD_DEC (R155): Decodes 128 scratchpad elements to FP32 under a decode descriptor and pushes them to a load queue. -/
  | vldDec (q : BitVec 2) (a : Reg) (b : Reg) (e : Bool)
  /-- VLDF (R156): Waits until four scratchpad lines are full, then reads and pushes them to a load queue. -/
  | vldf (q : BitVec 2) (a : Reg) (b : Reg) (e : Bool)
  /-- VLDFC (R156): As VLDF, and clears the four full bits. -/
  | vldfc (q : BitVec 2) (a : Reg) (b : Reg) (e : Bool)
  /-- VST (R154): Pops a store queue and writes its enabled bytes to own scratchpad. -/
  | vst (q : Sq) (a : Reg) (b : Reg) (e : Bool)
  /-- VSTF (R156): Waits until four scratchpad lines are empty, then writes a popped store-queue entry. -/
  | vstf (q : Sq) (a : Reg) (b : Reg) (e : Bool)
  /-- VGTH (R157): Issues a 128-lane gather from global memory into a reserved load-queue entry under a completion bitmap. -/
  | vgth (q : BitVec 2) (a : Reg) (m : BitVec 3) (e : Bool)
  /-- VSCT (R157): Issues a 128-lane scatter of a popped store-queue entry to global memory under a completion bitmap. -/
  | vsct (q : Sq) (a : Reg) (m : BitVec 3) (e : Bool)
  /-- VLDG (R154): Reads 512 bytes of global memory in class 0 and pushes them to a load queue. -/
  | vldg (q : BitVec 2) (a : Reg) (b : Reg) (e : Bool)
  /-- VSTG (R154): Pops a store queue and writes its enabled bytes to global memory in class 0. -/
  | vstg (q : Sq) (a : Reg) (b : Reg) (e : Bool)
  /-- QBIND (R159): Binds a queue port to the queue that s[a] describes. -/
  | qbind (d : Reg) (a : Reg) (e : Bool)
  /-- QUNBIND (R161): Leaves a queue port unbound. -/
  | qunbind (d : Reg) (e : Bool)
  /-- QWAIT (R162): Waits, with a limit, until a port can complete one pop or push. -/
  | qwait (d : Reg) (a : Reg) (e : Bool)
  /-- QSTAT (R161): Writes a port's available count, bound bit and direction to d. -/
  | qstat (d : Reg) (a : Reg) (e : Bool)
  /-- LRPATCH (R163): Provisionally writes a patchable field of a launch record. -/
  | lrpatch (d : Reg) (a : Reg) (b : Reg) (e : Bool)
  /-- LRARM (R163): Provisionally arms a launch record. -/
  | lrarm (a : Reg) (e : Bool)
  /-- LRSTAT (R164): Reads a status or continuation word of a launch record. -/
  | lrstat (d : Reg) (a : Reg) (b : Reg) (e : Bool)
  /-- JDEC (R27): Makes one provisional decrement of a launch record's join counter. -/
  | jdec (a : Reg) (e : Bool)
  /-- TSELF (R163): Writes the index of the releasing launch record to d. -/
  | tself (d : Reg) (e : Bool)
  /-- GBAR (R166): Arrives at a barrier group and then waits for its phase, with a limit. -/
  | gbar (d : Reg) (a : Reg) (e : Bool)
  /-- GARR (R166): Arrives at a barrier group's current phase. -/
  | garr (d : Reg) (e : Bool)
  /-- GWAIT (R166): Waits, with a limit, until the barrier's phase reaches the task's phase number. -/
  | gwait (d : Reg) (a : Reg) (e : Bool)
  /-- GPEER (R165): Selects the peer core for peer scratchpad reads. -/
  | gpeer (d : Reg) (a : Reg) (e : Bool)
  /-- FINC (R165): Adds s[a][31:0] to a counting flag. -/
  | finc (d : Reg) (a : Reg) (e : Bool)
  /-- FWAIT (R167): Waits, with a limit, until a flag reaches a threshold, then subtracts it atomically. -/
  | fwait (d : Reg) (a : Reg) (b : Reg) (e : Bool)
  /-- FRD (R165): Reads a counting flag into d. -/
  | frd (d : Reg) (a : Reg) (e : Bool)
  /-- FCLR (R165): Clears a counting flag atomically. -/
  | fclr (d : Reg) (e : Bool)
  /-- TWAIT (R168): Waits, with a limit, for a dependence token to leave PENDING, faulting ENGINE on FAULTED. -/
  | twait (d : Reg) (a : Reg) (e : Bool)
  /-- TTEST (R168): Writes a token's state and sub-code to d without waiting. -/
  | ttest (d : Reg) (a : Reg) (e : Bool)
  /-- FORK (R169): Starts the X-strand at s[a] after waiting for it to be idle. -/
  | fork (a : Reg) (e : Bool)
  /-- SLIP (R165): Sets the declared slip depth SLIPD. -/
  | slip (i : BitVec 12) (e : Bool)
  /-- FRAME (R165): Sets FLEN and clears FC in one step. -/
  | frame (a : Reg) (e : Bool)
  /-- GPUSH (R240): Pushes s[a][15:0] onto the grammar stack, trapping GSTK_OVF at depth 8. -/
  | gpush (a : Reg) (e : Bool)
  /-- GPOP (R240): Pops the grammar stack into d, trapping GSTK_UNF at depth 0. -/
  | gpop (d : Reg) (e : Bool)
  /-- GTOP (R240): Reads the grammar stack's top entry without changing the depth. -/
  | gtop (d : Reg) (e : Bool)
  /-- GDEPTH (R240): Writes the grammar stack depth to d. -/
  | gdepth (d : Reg) (e : Bool)
  /-- MASKF (R241): Copies a 64-byte vocabulary-slice mask from global memory to own scratchpad. -/
  | maskf (d : Reg) (a : Reg) (b : Reg) (e : Bool)
  /-- MXW (R212): Writes a shadow ME register. -/
  | mxw (d : Reg) (i : BitVec 12) (e : Bool)
  /-- MXR (R212): Reads a shadow ME register or MXST. -/
  | mxr (d : Reg) (i : BitVec 12) (e : Bool)
  /-- ME_MODE (R213): Accepts an ME command setting the narrowing rounding mode and SR seed. -/
  | meMode (a : Reg) (b : Reg) (e : Bool) (x : Ext)
  /-- ME_MSK (R213): Accepts an ME command loading the mask block from scratchpad. -/
  | meMsk (a : Reg) (e : Bool) (x : Ext)
  /-- OCLAIM (R215): Moves an operand slot or FP32 pair from FREE to CLAIMED. -/
  | oclaim (pair : Bool) (n : BitVec 3) (e : Bool)
  /-- ORELS (R215): Releases an operand slot to FREE, deferred while a nest names it. -/
  | orels (n : BitVec 3) (e : Bool)
  /-- OSTAT (R215): Writes the state of every operand slot to d. -/
  | ostat (d : Reg) (e : Bool)
  /-- CE_GO (R227): Accepts a transfer-record chain on a copy-engine channel. -/
  | ceGo (d : Reg) (a : Reg) (e : Bool) (x : Ext)
  /-- CE_ABORT (R228): Discards the pending chain and stops the running chain of a channel. -/
  | ceAbort (d : Reg) (e : Bool)
  /-- CE_STAT (R228): Writes a channel's status to d. -/
  | ceStat (d : Reg) (a : Reg) (e : Bool)
  /-- SE_INS (R235): Accepts a search-engine command inserting or replacing a signature row. -/
  | seIns (a : Reg) (b : Reg) (e : Bool) (x : Ext)
  /-- SE_DEL (R235): Accepts a search-engine command removing one row or every row of a tag. -/
  | seDel (a : Reg) (e : Bool)
  /-- SE_AGE (R235): Accepts a search-engine command ageing a tag's rows by a result list. -/
  | seAge (a : Reg) (b : Reg) (e : Bool)
  /-- SE_SEL (R236): Accepts a search-engine command selecting pages into a result list. -/
  | seSel (a : Reg) (e : Bool) (x : Ext)
  /-- SE_CNT (R235): Accepts a search-engine command counting a tag's rows into d. -/
  | seCnt (d : Reg) (a : Reg) (e : Bool)
  /-- SE_QUOTA (R235): Sets SEQUOTA within the grant and writes it to d. -/
  | seQuota (d : Reg) (a : Reg) (e : Bool)
  /-- SPERMIT (R242): Requests speculation permits and writes the grant to d. -/
  | spermit (d : Reg) (a : Reg) (e : Bool)
  /-- SPRET (R242): Returns speculation permits. -/
  | spret (a : Reg) (e : Bool)
  /-- FLTARM (R243): Checks a descriptor and opens a logit-filter window. -/
  | fltarm (d : Reg) (a : Reg) (e : Bool) (x : Ext)
  /-- FLTCLOSE (R244): Waits for a window's result blocks, then closes it. -/
  | fltclose (d : Reg) (e : Bool)
  /-- TRAP (R171): Raises user trap 0x07 with TINFO0 := n. -/
  | trap (i : BitVec 12) (e : Bool)
  /-- SCALL (R173): Calls the partition supervisor and waits for its return. -/
  | scall (i : BitVec 12) (e : Bool)
  /-- RDCTL (R50): Reads a user control register into d. -/
  | rdctl (d : Reg) (i : BitVec 12) (e : Bool)
  /-- WRCTL (R50): Writes s[d] to a user control register. -/
  | wrctl (d : Reg) (i : BitVec 12) (e : Bool)
  /-- IFLUSH (R174): Invalidates the partition's instruction caches over a range. -/
  | iflush (a : Reg) (b : Reg) (e : Bool)
  /-- SRDCTL (R288): Reads a supervisor control register into d. -/
  | srdctl (d : Reg) (i : BitVec 12) (e : Bool)
  /-- SWRCTL (R288): Writes s[d] to a supervisor control register. -/
  | swrctl (d : Reg) (i : BitVec 12) (e : Bool)
  /-- TLBINV (R289): Removes matching entries from every TLB of the partition. -/
  | tlbinv (a : Reg) (b : Reg) (e : Bool)
  /-- SESPALL (R290): Moves every signature row of a context into the Spillway. -/
  | sespall (a : Reg) (e : Bool)
  /-- SNAPT (R291): Fires the snapshot trigger fabric and writes the snapshot id to d. -/
  | snapt (d : Reg) (a : Reg) (e : Bool)
  /-- CORESTOP (R292): Takes a task core out of service or returns it to service. -/
  | corestop (d : Reg) (a : Reg) (e : Bool)
  /-- BEQ (R144): Branches if s[a] equals s[b]. -/
  | beq (a : Reg) (b : Reg) (o : BitVec 13)
  /-- BNE (R144): Branches if s[a] differs from s[b]. -/
  | bne (a : Reg) (b : Reg) (o : BitVec 13)
  /-- BLT (R144): Branches if s[a] < s[b] signed. -/
  | blt (a : Reg) (b : Reg) (o : BitVec 13)
  /-- BGE (R144): Branches if s[a] ≥ s[b] signed. -/
  | bge (a : Reg) (b : Reg) (o : BitVec 13)
  /-- BLTU (R144): Branches if s[a] < s[b] unsigned. -/
  | bltu (a : Reg) (b : Reg) (o : BitVec 13)
  /-- BGEU (R144): Branches if s[a] ≥ s[b] unsigned. -/
  | bgeu (a : Reg) (b : Reg) (o : BitVec 13)
  /-- JAL (R145): Writes PC + 4 to d and jumps PC-relative. -/
  | jal (d : Reg) (o : BitVec 19)
  /-- JALR (R145): Writes PC + 4 to d and jumps to s[a] plus an offset. -/
  | jalr (d : Reg) (a : Reg) (i : BitVec 13)
  /-- LOOP (R146): Decrements s[d] and branches while it is non-zero. -/
  | loop (d : Reg) (o : BitVec 13)
  /-- VADD_F32 (R181): Adds FP32 lanes. -/
  | vaddF32 (d : VNo) (a : VNo) (b : VNo) (p : PNo) (e : Bool)
  /-- VSUB_F32 (R181): Subtracts FP32 lanes. -/
  | vsubF32 (d : VNo) (a : VNo) (b : VNo) (p : PNo) (e : Bool)
  /-- VMUL_F32 (R181): Multiplies FP32 lanes. -/
  | vmulF32 (d : VNo) (a : VNo) (b : VNo) (p : PNo) (e : Bool)
  /-- VMIN_F32 (R181): Takes the FP32 minimum of lanes. -/
  | vminF32 (d : VNo) (a : VNo) (b : VNo) (p : PNo) (e : Bool)
  /-- VMAX_F32 (R181): Takes the FP32 maximum of lanes. -/
  | vmaxF32 (d : VNo) (a : VNo) (b : VNo) (p : PNo) (e : Bool)
  /-- VFMA_F32 (R181): Fused multiply-add of FP32 lanes into vd. -/
  | vfmaF32 (d : VNo) (a : VNo) (b : VNo) (p : PNo) (e : Bool)
  /-- VFNMA_F32 (R181): Fused negative multiply-add of FP32 lanes into vd. -/
  | vfnmaF32 (d : VNo) (a : VNo) (b : VNo) (p : PNo) (e : Bool)
  /-- VCPSGN_F32 (R181): Copies the sign of vb into va's FP32 lanes. -/
  | vcpsgnF32 (d : VNo) (a : VNo) (b : VNo) (p : PNo) (e : Bool)
  /-- VADD_F16 (R181): Adds FP16 lanes. -/
  | vaddF16 (d : VNo) (a : VNo) (b : VNo) (p : PNo) (e : Bool)
  /-- VSUB_F16 (R181): Subtracts FP16 lanes. -/
  | vsubF16 (d : VNo) (a : VNo) (b : VNo) (p : PNo) (e : Bool)
  /-- VMUL_F16 (R181): Multiplies FP16 lanes. -/
  | vmulF16 (d : VNo) (a : VNo) (b : VNo) (p : PNo) (e : Bool)
  /-- VMIN_F16 (R181): Takes the FP16 minimum of lanes. -/
  | vminF16 (d : VNo) (a : VNo) (b : VNo) (p : PNo) (e : Bool)
  /-- VMAX_F16 (R181): Takes the FP16 maximum of lanes. -/
  | vmaxF16 (d : VNo) (a : VNo) (b : VNo) (p : PNo) (e : Bool)
  /-- VFMA_F16 (R181): Fused multiply-add of FP16 lanes. -/
  | vfmaF16 (d : VNo) (a : VNo) (b : VNo) (p : PNo) (e : Bool)
  /-- VFNMA_F16 (R181): Fused negative multiply-add of FP16 lanes. -/
  | vfnmaF16 (d : VNo) (a : VNo) (b : VNo) (p : PNo) (e : Bool)
  /-- VCPSGN_F16 (R181): Copies signs into FP16 lanes. -/
  | vcpsgnF16 (d : VNo) (a : VNo) (b : VNo) (p : PNo) (e : Bool)
  /-- VADD_BF16 (R181): Adds BF16 lanes. -/
  | vaddBF16 (d : VNo) (a : VNo) (b : VNo) (p : PNo) (e : Bool)
  /-- VSUB_BF16 (R181): Subtracts BF16 lanes. -/
  | vsubBF16 (d : VNo) (a : VNo) (b : VNo) (p : PNo) (e : Bool)
  /-- VMUL_BF16 (R181): Multiplies BF16 lanes. -/
  | vmulBF16 (d : VNo) (a : VNo) (b : VNo) (p : PNo) (e : Bool)
  /-- VMIN_BF16 (R181): Takes the BF16 minimum of lanes. -/
  | vminBF16 (d : VNo) (a : VNo) (b : VNo) (p : PNo) (e : Bool)
  /-- VMAX_BF16 (R181): Takes the BF16 maximum of lanes. -/
  | vmaxBF16 (d : VNo) (a : VNo) (b : VNo) (p : PNo) (e : Bool)
  /-- VFMA_BF16 (R181): Fused multiply-add of BF16 lanes. -/
  | vfmaBF16 (d : VNo) (a : VNo) (b : VNo) (p : PNo) (e : Bool)
  /-- VFNMA_BF16 (R181): Fused negative multiply-add of BF16 lanes. -/
  | vfnmaBF16 (d : VNo) (a : VNo) (b : VNo) (p : PNo) (e : Bool)
  /-- VCPSGN_BF16 (R181): Copies signs into BF16 lanes. -/
  | vcpsgnBF16 (d : VNo) (a : VNo) (b : VNo) (p : PNo) (e : Bool)
  /-- VADD_I32 (R182): Adds 32-bit integer lanes modulo 2^32. -/
  | vaddI32 (d : VNo) (a : VNo) (b : VNo) (p : PNo) (e : Bool)
  /-- VSUB_I32 (R182): Subtracts 32-bit integer lanes modulo 2^32. -/
  | vsubI32 (d : VNo) (a : VNo) (b : VNo) (p : PNo) (e : Bool)
  /-- VMUL_I32 (R182): Multiplies 32-bit integer lanes modulo 2^32. -/
  | vmulI32 (d : VNo) (a : VNo) (b : VNo) (p : PNo) (e : Bool)
  /-- VMULH_I32 (R182): Writes the high word of the signed 64-bit lane product. -/
  | vmulhI32 (d : VNo) (a : VNo) (b : VNo) (p : PNo) (e : Bool)
  /-- VMIN_I32 (R182): Signed minimum of 32-bit lanes. -/
  | vminI32 (d : VNo) (a : VNo) (b : VNo) (p : PNo) (e : Bool)
  /-- VMAX_I32 (R182): Signed maximum of 32-bit lanes. -/
  | vmaxI32 (d : VNo) (a : VNo) (b : VNo) (p : PNo) (e : Bool)
  /-- VMIN_UI32 (R182): Unsigned minimum of 32-bit lanes. -/
  | vminUI32 (d : VNo) (a : VNo) (b : VNo) (p : PNo) (e : Bool)
  /-- VMAX_UI32 (R182): Unsigned maximum of 32-bit lanes. -/
  | vmaxUI32 (d : VNo) (a : VNo) (b : VNo) (p : PNo) (e : Bool)
  /-- VADD_I16 (R183): Adds 16-bit lanes, wrapping. -/
  | vaddI16 (d : VNo) (a : VNo) (b : VNo) (p : PNo) (e : Bool)
  /-- VSUB_I16 (R183): Subtracts 16-bit lanes, wrapping. -/
  | vsubI16 (d : VNo) (a : VNo) (b : VNo) (p : PNo) (e : Bool)
  /-- VADDS_I16 (R183): Adds 16-bit lanes with saturation. -/
  | vaddsI16 (d : VNo) (a : VNo) (b : VNo) (p : PNo) (e : Bool)
  /-- VSUBS_I16 (R183): Subtracts 16-bit lanes with saturation. -/
  | vsubsI16 (d : VNo) (a : VNo) (b : VNo) (p : PNo) (e : Bool)
  /-- VADD_I8 (R183): Adds 8-bit lanes, wrapping. -/
  | vaddI8 (d : VNo) (a : VNo) (b : VNo) (p : PNo) (e : Bool)
  /-- VSUB_I8 (R183): Subtracts 8-bit lanes, wrapping. -/
  | vsubI8 (d : VNo) (a : VNo) (b : VNo) (p : PNo) (e : Bool)
  /-- VADDS_I8 (R183): Adds 8-bit lanes with saturation. -/
  | vaddsI8 (d : VNo) (a : VNo) (b : VNo) (p : PNo) (e : Bool)
  /-- VSUBS_I8 (R183): Subtracts 8-bit lanes with saturation. -/
  | vsubsI8 (d : VNo) (a : VNo) (b : VNo) (p : PNo) (e : Bool)
  /-- VAND (R184): Bytewise AND of two registers. -/
  | vand (d : VNo) (a : VNo) (b : VNo) (p : PNo) (e : Bool)
  /-- VOR (R184): Bytewise OR of two registers. -/
  | vor (d : VNo) (a : VNo) (b : VNo) (p : PNo) (e : Bool)
  /-- VXOR (R184): Bytewise XOR of two registers. -/
  | vxor (d : VNo) (a : VNo) (b : VNo) (p : PNo) (e : Bool)
  /-- VANDN (R184): Bytewise va AND NOT vb. -/
  | vandn (d : VNo) (a : VNo) (b : VNo) (p : PNo) (e : Bool)
  /-- VSHL (R184): Shifts 32-bit lanes left by vb. -/
  | vshl (d : VNo) (a : VNo) (b : VNo) (p : PNo) (e : Bool)
  /-- VSHR (R184): Shifts 32-bit lanes right by vb, zeros in. -/
  | vshr (d : VNo) (a : VNo) (b : VNo) (p : PNo) (e : Bool)
  /-- VSAR (R184): Shifts 32-bit lanes right by vb, sign in. -/
  | vsar (d : VNo) (a : VNo) (b : VNo) (p : PNo) (e : Bool)
  /-- VNOT (R184): Bytewise complement of va. -/
  | vnot (d : VNo) (a : VNo) (p : PNo) (e : Bool)
  /-- VEQ_F32 (R185): Sets predicate lanes where FP32 lanes are equal. -/
  | veqF32 (d : PNo) (a : VNo) (b : VNo) (p : PNo) (e : Bool)
  /-- VLT_F32 (R185): Sets predicate lanes where va < vb in FP32. -/
  | vltF32 (d : PNo) (a : VNo) (b : VNo) (p : PNo) (e : Bool)
  /-- VLE_F32 (R185): Sets predicate lanes where va ≤ vb in FP32. -/
  | vleF32 (d : PNo) (a : VNo) (b : VNo) (p : PNo) (e : Bool)
  /-- VUN_F32 (R185): Sets predicate lanes where either FP32 operand is NaN. -/
  | vunF32 (d : PNo) (a : VNo) (b : VNo) (p : PNo) (e : Bool)
  /-- VEQ_I32 (R185): Sets predicate lanes where bit patterns are equal. -/
  | veqI32 (d : PNo) (a : VNo) (b : VNo) (p : PNo) (e : Bool)
  /-- VLT_I32 (R185): Sets predicate lanes where va < vb signed. -/
  | vltI32 (d : PNo) (a : VNo) (b : VNo) (p : PNo) (e : Bool)
  /-- VLT_UI32 (R185): Sets predicate lanes where va < vb unsigned. -/
  | vltUI32 (d : PNo) (a : VNo) (b : VNo) (p : PNo) (e : Bool)
  /-- VNE_I32 (R185): Sets predicate lanes where bit patterns differ. -/
  | vneI32 (d : PNo) (a : VNo) (b : VNo) (p : PNo) (e : Bool)
  /-- VSEL (R186): Selects each byte from va or vb by the predicate. -/
  | vsel (d : VNo) (a : VNo) (b : VNo) (p : PNo) (e : Bool)
  /-- VMOV (R186): Copies va to vd under the predicate. -/
  | vmov (d : VNo) (a : VNo) (p : PNo) (e : Bool)
  /-- VBCL (R186): Broadcasts lane k of va, k from vb lane 0. -/
  | vbcl (d : VNo) (a : VNo) (b : VNo) (p : PNo) (e : Bool)
  /-- VPERM (R186): Permutes va's lanes by indices in vb. -/
  | vperm (d : VNo) (a : VNo) (b : VNo) (p : PNo) (e : Bool)
  /-- VSLUP (R186): Slides va's lanes up by n. -/
  | vslup (d : VNo) (a : VNo) (b : VNo) (p : PNo) (e : Bool)
  /-- VSLDN (R186): Slides va's lanes down by n. -/
  | vsldn (d : VNo) (a : VNo) (b : VNo) (p : PNo) (e : Bool)
  /-- VTOA (R187): Pushes lanes 0 and 1 of va as one XQ entry. -/
  | vtoa (a : VNo) (e : Bool)
  /-- VRAND (R188): Fills lanes with counter-based random bits. -/
  | vrand (d : VNo) (a : VNo) (p : PNo) (e : Bool)
  /-- VCVT (R189): Converts 128 elements between element formats with a rounding mode. -/
  | vcvt (d : VNo) (a : VNo) (sat : Bool) (t : Elem) (u : Elem) (r : Rmode) (e : Bool)
  /-- VQNT (R190): Quantises one row of 128 FP32 values into a scaled format with its row-scale entry. -/
  | vqnt (d : VNo) (a : VNo) (f : Elem) (r : Rmode) (e : Bool)
  /-- VDQNT (R191): Dequantises packed scaled codes to FP32 lanes. -/
  | vdqnt (d : VNo) (a : VNo) (f : Elem) (e : Bool)
  /-- VPACK (R192): Packs the low bits of 32-bit lanes into raw codes. -/
  | vpack (d : VNo) (a : VNo) (f : Elem) (e : Bool)
  /-- VUNPK (R192): Unpacks raw codes into zero-extended 32-bit lanes. -/
  | vunpk (d : VNo) (a : VNo) (f : Elem) (e : Bool)
  /-- VSGN (R193): Appends 128 sign bits of va to a signature in vd. -/
  | vsgn (d : VNo) (a : VNo) (e : Bool)
  /-- VHAM (R194): Scores 16 signatures against the query signature in vd. -/
  | vham (d : VNo) (a : VNo) (e : Bool)
  /-- VEXP2 (R195): Computes 2^x on FP32 lanes. -/
  | vexp2 (d : VNo) (a : VNo) (p : PNo) (e : Bool)
  /-- VLOG2 (R195): Computes log2 on FP32 lanes. -/
  | vlog2 (d : VNo) (a : VNo) (p : PNo) (e : Bool)
  /-- VRCP (R195): Computes reciprocals of FP32 lanes. -/
  | vrcp (d : VNo) (a : VNo) (p : PNo) (e : Bool)
  /-- VRSQ (R195): Computes reciprocal square roots of FP32 lanes. -/
  | vrsq (d : VNo) (a : VNo) (p : PNo) (e : Bool)
  /-- VSQRT (R195): Computes square roots of FP32 lanes. -/
  | vsqrt (d : VNo) (a : VNo) (p : PNo) (e : Bool)
  /-- VDIV (R195): Divides FP32 lanes of va by vb. -/
  | vdiv (d : VNo) (a : VNo) (b : VNo) (p : PNo) (e : Bool)
  /-- VRSUM_F32 (R97): Sums active FP32 lanes over a fixed tree into lane 0. -/
  | vrsumF32 (d : VNo) (a : VNo) (p : PNo) (e : Bool)
  /-- VRMAX_F32 (R196): Writes the FP32 maximum of active lanes to lane 0. -/
  | vrmaxF32 (d : VNo) (a : VNo) (p : PNo) (e : Bool)
  /-- VRMIN_F32 (R196): Writes the FP32 minimum of active lanes to lane 0. -/
  | vrminF32 (d : VNo) (a : VNo) (p : PNo) (e : Bool)
  /-- VRMAXI_F32 (R196): Writes the FP32 maximum and its lane index. -/
  | vrmaxiF32 (d : VNo) (a : VNo) (p : PNo) (e : Bool)
  /-- VRMINI_F32 (R196): Writes the FP32 minimum and its lane index. -/
  | vrminiF32 (d : VNo) (a : VNo) (p : PNo) (e : Bool)
  /-- VRSUM_I32 (R97): Sums active 32-bit integer lanes modulo 2^32. -/
  | vrsumI32 (d : VNo) (a : VNo) (p : PNo) (e : Bool)
  /-- VRMAX_I32 (R196): Writes the signed maximum of active lanes. -/
  | vrmaxI32 (d : VNo) (a : VNo) (p : PNo) (e : Bool)
  /-- VRMAXI_I32 (R196): Writes the signed maximum and its lane index. -/
  | vrmaxiI32 (d : VNo) (a : VNo) (p : PNo) (e : Bool)
  /-- PAND (R197): ANDs two predicates. -/
  | pand (d : PNo) (a : PNo) (b : PNo) (e : Bool)
  /-- POR (R197): ORs two predicates. -/
  | por (d : PNo) (a : PNo) (b : PNo) (e : Bool)
  /-- PXOR (R197): XORs two predicates. -/
  | pxor (d : PNo) (a : PNo) (b : PNo) (e : Bool)
  /-- PNOT (R197): Complements a predicate. -/
  | pnot (d : PNo) (a : PNo) (e : Bool)
  /-- PPOPC (R197): Counts set 32-bit lanes of a predicate into vd lane 0. -/
  | ppopc (d : VNo) (a : PNo) (e : Bool)
  /-- PFFS (R197): Finds the lowest set 32-bit lane of a predicate. -/
  | pffs (d : VNo) (a : PNo) (e : Bool)
  /-- PMOV (R197): Copies a predicate. -/
  | pmov (d : PNo) (a : PNo) (e : Bool)
  /-- VFROMP (R197): Expands a predicate into a byte mask vector. -/
  | vfromp (d : VNo) (a : PNo) (e : Bool)
  /-- ACCRD (R198): Reads one accumulator row into vd. -/
  | accrd (d : VNo) (c : BitVec 2) (r : BitVec 7) (p : PNo) (e : Bool)
  /-- ACCWR (R198): Writes va into one accumulator row. -/
  | accwr (a : VNo) (c : BitVec 2) (r : BitVec 7) (p : PNo) (e : Bool)
  /-- ACCZ (R198): Zeroes the masked granules of an accumulator. -/
  | accz (m : BitVec 8) (c : BitVec 2) (e : Bool)
  /-- XLOOP (R201): Decrements LC and, while non-zero, rotates the bases and branches. -/
  | xloop (o : BitVec 18) (e : Bool)
  /-- XBR (R200): Branches if any bit of a predicate is set. -/
  | xbr (o : BitVec 18) (p : PNo) (e : Bool)
  /-- XJ (R200): Branches unconditionally. -/
  | xj (o : BitVec 18) (e : Bool)
  /-- XSETLC (R200): Writes LC from lane 0 of va. -/
  | xsetlc (a : VNo) (e : Bool)
  /-- END (R21): Waits for the X-strand, engines, tokens and stores, then commits the task's queue effects. -/
  | endTask
  /-- RDV (R17): Waits until the X-strand is idle. -/
  | rdv
  /-- GCLR (R240): Sets the grammar stack depth to 0. -/
  | gclr
  /-- ME_GO (R213): Checks and latches the shadow nest registers as an accepted ME command. -/
  | meGo
  /-- NOP (R171): Does nothing. -/
  | nop
  /-- TRET (R172): Clears the in-trap bit and resumes at TPC. -/
  | tret
  /-- ISYNC (R171): Discards every instruction the A-strand fetched before it. -/
  | isync
  /-- SRET (R287): Returns from a supervisor event to SEPC. -/
  | sret
  /-- XRDV (R200): Makes the X-strand idle. -/
  | xrdv
  /-- TASK_DISPATCH (R313): An idle core takes the first startable record of the highest priority and starts its task in the state of R15. -/
  | taskDispatch
  /-- GANG_START (R314): A gang or pipeline entry that holds all its cores and save slots starts its members or stages. -/
  | gangStart
  /-- STAGE_TASK_START (R252): A stage core starts a stage task once the next input item is committed and its output slots are free. -/
  | stageTaskStart
  /-- TASK_RESTORE (R339): A popped resume record restores the eager image parts and resumes the task. -/
  | taskRestore
  /-- BACKGROUND_FILL (R339): The X4 fills absent image parts in the background in ascending offset. -/
  | backgroundFill
  /-- END_COMMIT (R21): Once END's waits are met, the task's queue effects commit atomically and it retires. -/
  | endCommit
  /-- GANG_COMMIT (R32): When every gang member has reached END, all members' queue effects commit in one step. -/
  | gangCommit
  /-- STALL_RELEASE (R19): A strand instruction stalled on a port, register, full bit or wait resumes when its condition is met. -/
  | stallRelease
  /-- LOAD_RETURN (R36): A global load's or AMO's data returns and fills its empty destination register. -/
  | loadReturn
  /-- AMORR_RETURN (R152): The memory side writes an AMORR's old value into the target scratchpad and then increments the flag. -/
  | amorrReturn
  /-- GATHER_SCATTER_LANE (R157): One lane of a gather or scatter performs and sets its completion bit. -/
  | gatherScatterLane
  /-- X_TRAP_TAKE (R178): The A-strand takes the X-strand's pending REG_EMPTY trap at its next boundary. -/
  | xTrapTake
  /-- FAULT_RECORD_WRITE (R294): A fault, escalation, SCALL, gang or save-fail record is written to the fault ring once it has room. -/
  | faultRecordWrite
  /-- TASK_TIMEOUT (R24): A strand's watchdog counter reaches its limit and the task faults TASK_TIMEOUT. -/
  | taskTimeout
  /-- QTIMEOUT (R162): A QWAIT's limit expires and it takes user trap QTIMEOUT. -/
  | qtimeout
  /-- FWAIT_TIMEOUT (R167): An FWAIT's limit expires and it takes user trap FWAIT_TIMEOUT. -/
  | fwaitTimeout
  /-- TWAIT_TIMEOUT (R168): A TWAIT's limit expires and it takes user trap TWAIT_TIMEOUT. -/
  | twaitTimeout
  /-- GWAIT_TIMEOUT (R166): A GWAIT's or GBAR's limit expires and it takes user trap GWAIT_TIMEOUT. -/
  | gwaitTimeout
  /-- STAMP_ISSUE (R320): A stamped long form in DET mode is accepted in the tick in which FC equals its stamp. -/
  | stampIssue
  /-- STAMP_OVERRUN (R320): A stamped long form that misses its tick takes user trap STAMP_OVERRUN. -/
  | stampOverrun
  /-- PAGE_WALK (R348): A TLB miss walks three page-table levels and installs or faults the translation. -/
  | pageWalk
  /-- ME_COMMAND_START (R211): The next accepted ME command starts once its predecessor has finished and its tokens allow. -/
  | meCommandStart
  /-- ME_TILE_STEP (R207): The ME performs one tile step of a nest once its slots are FULL or IN-USE. -/
  | meTileStep
  /-- CE_CHAIN_START (R227): A channel starts its next accepted chain once the previous ended and its tokens allow. -/
  | ceChainStart
  /-- CE_RECORD (R224): The copy engine reads and performs one transfer record and writes its status. -/
  | ceRecord
  /-- SE_COMMAND_RUN (R235): The search engine runs its next accepted command in acceptance order. -/
  | seCommandRun
  /-- FILTER_RESULT (R245): The base die writes a window row's maximum, sum and shortlist to its result block. -/
  | filterResult
  /-- TIER_PAGE_IN (R354): The tier manager copies a CXL page into a reserved frame, marks it resident and makes pending increments. -/
  | tierPageIn
  /-- TIER_PAGE_OUT (R354): The tier manager clears residency, flushes TLBs and copies a page back to the expander. -/
  | tierPageOut
  /-- WEIR_INTERVAL (R313): The partition's interval counter reaches a Weir interval boundary. -/
  | weirInterval
  /-- BREEZE_TOKEN_PASS (R321): A free power token passes to the next waiting cluster, whose MEs start or resume. -/
  | breezeTokenPass
  /-- BREEZE_FORCED_PASS (R321): A holder past 65,536 clk with a waiter pauses its MEs and passes its token. -/
  | breezeForcedPass
  /-- CAP_LEVEL_RAISE (R323): The power controller steps up one cap level, cutting permits, tokens or clock. -/
  | capLevelRaise
  /-- CAP_LEVEL_LOWER (R323): The power controller steps down one cap level, restoring clock, tokens or permits. -/
  | capLevelLower
  /-- THERMAL_CAP (R383): A junction reading of 105 °C sends the package to cap level 3. -/
  | thermalCap
  /-- THERMAL_SHUTDOWN (R383): A junction reading of 115 °C removes core power. -/
  | thermalShutdown
  /-- PREEMPT_STOP (R330): A pre-emption request stops both strands and brings loads and engines to their stopping points. -/
  | preemptStop
  /-- SAVE_IMAGE_WRITE (R334): After the drains, the image is written to the other half with the next GEN, header last, and acknowledged. -/
  | saveImageWrite
  /-- EXPORT_BLOCK_WRITE (R343): After its saves, EXPORT writes the export block and removes the context's queue-logic state. -/
  | exportBlockWrite
  /-- SUPERVISOR_EVENT (R295): The supervisor core takes a ring event at its next boundary and jumps to SVEC. -/
  | supervisorEvent
  /-- SUPERVISOR_FAULT (R306): A fault of the supervisor core is taken as an event. -/
  | supervisorFault
  /-- MEMORY_ERROR_REPORT (R116): An uncorrectable error found at memory poisons the line and queues a REPORT record. -/
  | memoryErrorReport
  /-- ON_CHIP_ERROR (R381): An error found in an on-chip memory is corrected or handled per its protection. -/
  | onChipError
  /-- SCRUB (R381): Background scrubbing checks HBM and L2 lines. -/
  | scrub
  /-- CCMD_RESUME (R297): Answers a FAULT record by clearing the watchdog and re-issuing the faulting instruction. -/
  | ccmdResume
  /-- CCMD_ABANDON (R297): Answers a held record by abandoning the task. -/
  | ccmdAbandon
  /-- CCMD_SAVE (R297): Answers a held record by saving the task with the record outstanding. -/
  | ccmdSave
  /-- CCMD_RETURN (R297): Answers an SCALL by writing s8 and s9 and letting the A-strand continue. -/
  | ccmdReturn
  /-- LR_BUILD (R309): Checks a launch-record image and makes it IDLE. -/
  | lrBuild
  /-- LR_UNBUILD (R309): Moves an IDLE launch record to UNBUILT. -/
  | lrUnbuild
  /-- LR_DRAIN (R309): Closes a running pipeline's entry Rills and sets their limits. -/
  | lrDrain
  /-- QUEUE_OPEN (R311): Opens a queue-table entry. -/
  | queueOpen
  /-- QUEUE_CLOSE (R311): Closes a queue-table entry and discards its items. -/
  | queueClose
  /-- EV_SUSPEND (R329): Pre-empts every task of a context and holds its records. -/
  | evSuspend
  /-- EV_RESUME (R329): Releases the held records of a suspended context. -/
  | evResume
  /-- EV_EXPORT (R329): Suspends a context and starts writing its export block. -/
  | evExport
  /-- EV_IMPORT (R343): Reads an export block and rebuilds the context suspended. -/
  | evImport
  /-- CTX_CREATE (R353): Checks a context-table entry and makes the context ACTIVE. -/
  | ctxCreate
  /-- CTX_DESTROY (R353): Removes an idle context, its rows and TLB entries. -/
  | ctxDestroy
  /-- GROUP_BUILD (R357): Builds a group-table row from a member mask. -/
  | groupBuild
  /-- GROUP_UNBUILD (R357): Unbuilds an unused group-table row. -/
  | groupUnbuild
  /-- REGISTER_WRITE (R288): Writes a control register that has no behaviour of its own. -/
  | registerWrite
  /-- SLBASE_WRITE (R372): Sets the Sluice block address of one partition. -/
  | slbaseWrite
  /-- ENABLE (R372): Reads a Sluice context entry and starts accepting its requests. -/
  | enable
  /-- DISABLE (R372): Stops new acceptances for a Sluice context. -/
  | disable
  /-- VLOAD (R364): Checks and loads a vocabulary image into a Sluice vocabulary slot. -/
  | vload
  /-- VUNLOAD (R372): Unloads a vocabulary slot not used by any live slot. -/
  | vunload
  /-- PRUNE (R372): Removes stale childless unreferenced prefix-tree nodes and releases their pages. -/
  | prune
  /-- PACKET_RECEIVE (R358): The Sluice receives a UET packet, dropping any that uses an unsupported option. -/
  | packetReceive
  /-- REQUEST_RECEIVE (R363): The Sluice takes a request message, checks it, takes a slot and tokenises it. -/
  | requestReceive
  /-- ACCEPT_REPLY (R363): ACCEPT is sent once both queue-logic homes hold the request record. -/
  | acceptReply
  /-- ADMISSION (R367): The Sluice admits an accepted request, writing its sequence record and arming an IDLE launch record. -/
  | admission
  /-- OUTPUT_ENTRY_POP (R371): The detokeniser pops a committed output entry and turns it into UTF-8. -/
  | outputEntryPop
  /-- RELQ_PUSH (R370): The Sluice pushes a released page id to RELQ once it has room. -/
  | relqPush
  /-- HSEM_ACQUIRE (R374): A port writes HELD 1 to acquire the hardware semaphore. -/
  | hsemAcquire
  /-- HSEM_RELEASE (R374): The owning port writes HELD 0 to release the semaphore. -/
  | hsemRelease
  /-- FWLOAD (R376): The management controller loads and checks a firmware image. -/
  | fwload
  /-- BRINGUP_TRAINING (R378): After firmware load, HBM and link training and CXL enumeration run to READY. -/
  | bringupTraining
  /-- SETUP (R355): Applies a partition control block and starts its supervisor. -/
  | setup
  /-- TEARDOWN (R376): Stops a partition with no contexts and unassigns its dies. -/
  | teardown
  /-- WARMRESET (R378): Starts a warm reset that keeps HBM and queue logic. -/
  | warmreset
  /-- COLD_RESET (R378): Power-on or PERST# on both ports starts a cold reset. -/
  | coldReset
  /-- PERST_WARM_RESET (R378): PERST# on one port alone starts a warm reset. -/
  | perstWarmReset
  /-- CXL_LINK_DOWN (R379): A CXL device dropping its link poisons its range and raises MSI-X vector 1. -/
  | cxlLinkDown
  /-- SNAP_FIRE (R380): A host write of SNAPCTL FIRE triggers a snapshot capture. -/
  | snapFire
  /-- SNAP_LOCK_FREE (R380): Writing 1 to SNAPCTL LOCK frees the snapshot window. -/
  | snapLockFree
  /-- SNAP_PIN_EDGE (R380): A falling edge of SNAP_N triggers a snapshot capture. -/
  | snapPinEdge
  /-- HOST_MEMORY_WRITE (R373): A host write through BAR 2 reaches HBM if permitted. -/
  | hostMemoryWrite
  /-- HOST_MEMORY_READ (R373): A host read through BAR 2 returns HBM data, or all ones if not permitted. -/
  | hostMemoryRead
  /-- LOSS_OF_POWER (R344): The package loses power, and every state outside the warm-reset guarantee is lost until the next cold reset. -/
  | lossOfPower
  /-- SINGLE_DIE_OR_STACK_FAILURE (R344): A single compute die, HBM stack or base die fails, its queue state is served from the mirror home, and tasks lost with it are handled as failed saves. -/
  | singleDieOrStackFailure
  deriving DecidableEq, Repr

end Sys2Proof
end

