-- ==== Sys2Proof/WellFormed.lean ====
section
/-! DEFINITION. What makes an instruction of Syntax one that the hardware can hold or perform: an encoded
instruction is well formed when some word decodes to it; a step of the hardware has no fields and is well formed. -/
namespace Sys2Proof

/-- v56-v59 are load-queue ports and may not be a destination (R42, R126). -/
def vdOk (d : VNo) : Bool := d.toNat < 56 || 60 ≤ d.toNat
/-- The rows of spec/opcode_table.json that have no encoding: steps of the hardware and of the hosts. -/
def isEvent : Instr → Bool
  | .add _ _ _ _ => false
  | .sub _ _ _ _ => false
  | .mul _ _ _ _ => false
  | .mulh _ _ _ _ => false
  | .mulhu _ _ _ _ => false
  | .divu _ _ _ _ => false
  | .remu _ _ _ _ => false
  | .and _ _ _ _ => false
  | .or _ _ _ _ => false
  | .xor _ _ _ _ => false
  | .andn _ _ _ _ => false
  | .orn _ _ _ _ => false
  | .shl _ _ _ _ => false
  | .shr _ _ _ _ => false
  | .sar _ _ _ _ => false
  | .rotr _ _ _ _ => false
  | .min _ _ _ _ => false
  | .max _ _ _ _ => false
  | .minu _ _ _ _ => false
  | .maxu _ _ _ _ => false
  | .slt _ _ _ _ => false
  | .sltu _ _ _ _ => false
  | .seq _ _ _ _ => false
  | .sne _ _ _ _ => false
  | .clz _ _ _ => false
  | .ctz _ _ _ => false
  | .popc _ _ _ => false
  | .bfx _ _ _ _ => false
  | .bfxu _ _ _ _ => false
  | .bfi _ _ _ _ => false
  | .selnz _ _ _ _ => false
  | .addi _ _ _ => false
  | .andi _ _ _ => false
  | .ori _ _ _ => false
  | .xori _ _ _ => false
  | .shli _ _ _ => false
  | .shri _ _ _ => false
  | .sari _ _ _ => false
  | .slti _ _ _ => false
  | .lih _ _ => false
  | .ldb _ _ _ _ => false
  | .ldbu _ _ _ _ => false
  | .ldh _ _ _ _ => false
  | .ldhu _ _ _ _ => false
  | .ldw _ _ _ _ => false
  | .ldwu _ _ _ _ => false
  | .ldd _ _ _ _ => false
  | .stb _ _ _ _ => false
  | .sth _ _ _ _ => false
  | .stw _ _ _ _ => false
  | .std _ _ _ _ => false
  | .amo _ _ _ _ _ => false
  | .amorr _ _ _ _ _ => false
  | .ldacq _ _ _ _ _ => false
  | .strel _ _ _ _ _ => false
  | .fence _ _ => false
  | .spldb _ _ _ _ => false
  | .spldh _ _ _ _ => false
  | .spldw _ _ _ _ => false
  | .spldd _ _ _ _ => false
  | .spstb _ _ _ _ => false
  | .spsth _ _ _ _ => false
  | .spstw _ _ _ _ => false
  | .spstd _ _ _ _ => false
  | .spmarkf _ _ _ => false
  | .spmarke _ _ _ => false
  | .sptestf _ _ _ _ => false
  | .vld _ _ _ _ => false
  | .vldDec _ _ _ _ => false
  | .vldf _ _ _ _ => false
  | .vldfc _ _ _ _ => false
  | .vst _ _ _ _ => false
  | .vstf _ _ _ _ => false
  | .vgth _ _ _ _ => false
  | .vsct _ _ _ _ => false
  | .vldg _ _ _ _ => false
  | .vstg _ _ _ _ => false
  | .qbind _ _ _ => false
  | .qunbind _ _ => false
  | .qwait _ _ _ => false
  | .qstat _ _ _ => false
  | .lrpatch _ _ _ _ => false
  | .lrarm _ _ => false
  | .lrstat _ _ _ _ => false
  | .jdec _ _ => false
  | .tself _ _ => false
  | .gbar _ _ _ => false
  | .garr _ _ => false
  | .gwait _ _ _ => false
  | .gpeer _ _ _ => false
  | .finc _ _ _ => false
  | .fwait _ _ _ _ => false
  | .frd _ _ _ => false
  | .fclr _ _ => false
  | .twait _ _ _ => false
  | .ttest _ _ _ => false
  | .fork _ _ => false
  | .slip _ _ => false
  | .frame _ _ => false
  | .gpush _ _ => false
  | .gpop _ _ => false
  | .gtop _ _ => false
  | .gdepth _ _ => false
  | .maskf _ _ _ _ => false
  | .mxw _ _ _ => false
  | .mxr _ _ _ => false
  | .meMode _ _ _ _ => false
  | .meMsk _ _ _ => false
  | .oclaim _ _ _ => false
  | .orels _ _ => false
  | .ostat _ _ => false
  | .ceGo _ _ _ _ => false
  | .ceAbort _ _ => false
  | .ceStat _ _ _ => false
  | .seIns _ _ _ _ => false
  | .seDel _ _ => false
  | .seAge _ _ _ => false
  | .seSel _ _ _ => false
  | .seCnt _ _ _ => false
  | .seQuota _ _ _ => false
  | .spermit _ _ _ => false
  | .spret _ _ => false
  | .fltarm _ _ _ _ => false
  | .fltclose _ _ => false
  | .trap _ _ => false
  | .scall _ _ => false
  | .rdctl _ _ _ => false
  | .wrctl _ _ _ => false
  | .iflush _ _ _ => false
  | .srdctl _ _ _ => false
  | .swrctl _ _ _ => false
  | .tlbinv _ _ _ => false
  | .sespall _ _ => false
  | .snapt _ _ _ => false
  | .corestop _ _ _ => false
  | .beq _ _ _ => false
  | .bne _ _ _ => false
  | .blt _ _ _ => false
  | .bge _ _ _ => false
  | .bltu _ _ _ => false
  | .bgeu _ _ _ => false
  | .jal _ _ => false
  | .jalr _ _ _ => false
  | .loop _ _ => false
  | .vaddF32 _ _ _ _ _ => false
  | .vsubF32 _ _ _ _ _ => false
  | .vmulF32 _ _ _ _ _ => false
  | .vminF32 _ _ _ _ _ => false
  | .vmaxF32 _ _ _ _ _ => false
  | .vfmaF32 _ _ _ _ _ => false
  | .vfnmaF32 _ _ _ _ _ => false
  | .vcpsgnF32 _ _ _ _ _ => false
  | .vaddF16 _ _ _ _ _ => false
  | .vsubF16 _ _ _ _ _ => false
  | .vmulF16 _ _ _ _ _ => false
  | .vminF16 _ _ _ _ _ => false
  | .vmaxF16 _ _ _ _ _ => false
  | .vfmaF16 _ _ _ _ _ => false
  | .vfnmaF16 _ _ _ _ _ => false
  | .vcpsgnF16 _ _ _ _ _ => false
  | .vaddBF16 _ _ _ _ _ => false
  | .vsubBF16 _ _ _ _ _ => false
  | .vmulBF16 _ _ _ _ _ => false
  | .vminBF16 _ _ _ _ _ => false
  | .vmaxBF16 _ _ _ _ _ => false
  | .vfmaBF16 _ _ _ _ _ => false
  | .vfnmaBF16 _ _ _ _ _ => false
  | .vcpsgnBF16 _ _ _ _ _ => false
  | .vaddI32 _ _ _ _ _ => false
  | .vsubI32 _ _ _ _ _ => false
  | .vmulI32 _ _ _ _ _ => false
  | .vmulhI32 _ _ _ _ _ => false
  | .vminI32 _ _ _ _ _ => false
  | .vmaxI32 _ _ _ _ _ => false
  | .vminUI32 _ _ _ _ _ => false
  | .vmaxUI32 _ _ _ _ _ => false
  | .vaddI16 _ _ _ _ _ => false
  | .vsubI16 _ _ _ _ _ => false
  | .vaddsI16 _ _ _ _ _ => false
  | .vsubsI16 _ _ _ _ _ => false
  | .vaddI8 _ _ _ _ _ => false
  | .vsubI8 _ _ _ _ _ => false
  | .vaddsI8 _ _ _ _ _ => false
  | .vsubsI8 _ _ _ _ _ => false
  | .vand _ _ _ _ _ => false
  | .vor _ _ _ _ _ => false
  | .vxor _ _ _ _ _ => false
  | .vandn _ _ _ _ _ => false
  | .vshl _ _ _ _ _ => false
  | .vshr _ _ _ _ _ => false
  | .vsar _ _ _ _ _ => false
  | .vnot _ _ _ _ => false
  | .veqF32 _ _ _ _ _ => false
  | .vltF32 _ _ _ _ _ => false
  | .vleF32 _ _ _ _ _ => false
  | .vunF32 _ _ _ _ _ => false
  | .veqI32 _ _ _ _ _ => false
  | .vltI32 _ _ _ _ _ => false
  | .vltUI32 _ _ _ _ _ => false
  | .vneI32 _ _ _ _ _ => false
  | .vsel _ _ _ _ _ => false
  | .vmov _ _ _ _ => false
  | .vbcl _ _ _ _ _ => false
  | .vperm _ _ _ _ _ => false
  | .vslup _ _ _ _ _ => false
  | .vsldn _ _ _ _ _ => false
  | .vtoa _ _ => false
  | .vrand _ _ _ _ => false
  | .vcvt _ _ _ _ _ _ _ => false
  | .vqnt _ _ _ _ _ => false
  | .vdqnt _ _ _ _ => false
  | .vpack _ _ _ _ => false
  | .vunpk _ _ _ _ => false
  | .vsgn _ _ _ => false
  | .vham _ _ _ => false
  | .vexp2 _ _ _ _ => false
  | .vlog2 _ _ _ _ => false
  | .vrcp _ _ _ _ => false
  | .vrsq _ _ _ _ => false
  | .vsqrt _ _ _ _ => false
  | .vdiv _ _ _ _ _ => false
  | .vrsumF32 _ _ _ _ => false
  | .vrmaxF32 _ _ _ _ => false
  | .vrminF32 _ _ _ _ => false
  | .vrmaxiF32 _ _ _ _ => false
  | .vrminiF32 _ _ _ _ => false
  | .vrsumI32 _ _ _ _ => false
  | .vrmaxI32 _ _ _ _ => false
  | .vrmaxiI32 _ _ _ _ => false
  | .pand _ _ _ _ => false
  | .por _ _ _ _ => false
  | .pxor _ _ _ _ => false
  | .pnot _ _ _ => false
  | .ppopc _ _ _ => false
  | .pffs _ _ _ => false
  | .pmov _ _ _ => false
  | .vfromp _ _ _ => false
  | .accrd _ _ _ _ _ => false
  | .accwr _ _ _ _ _ => false
  | .accz _ _ _ => false
  | .xloop _ _ => false
  | .xbr _ _ _ => false
  | .xj _ _ => false
  | .xsetlc _ _ => false
  | .endTask => false
  | .rdv => false
  | .gclr => false
  | .meGo => false
  | .nop => false
  | .tret => false
  | .isync => false
  | .sret => false
  | .xrdv => false
  | .taskDispatch => true
  | .gangStart => true
  | .stageTaskStart => true
  | .taskRestore => true
  | .backgroundFill => true
  | .endCommit => true
  | .gangCommit => true
  | .stallRelease => true
  | .loadReturn => true
  | .amorrReturn => true
  | .gatherScatterLane => true
  | .xTrapTake => true
  | .faultRecordWrite => true
  | .taskTimeout => true
  | .qtimeout => true
  | .fwaitTimeout => true
  | .twaitTimeout => true
  | .gwaitTimeout => true
  | .stampIssue => true
  | .stampOverrun => true
  | .pageWalk => true
  | .meCommandStart => true
  | .meTileStep => true
  | .ceChainStart => true
  | .ceRecord => true
  | .seCommandRun => true
  | .filterResult => true
  | .tierPageIn => true
  | .tierPageOut => true
  | .weirInterval => true
  | .breezeTokenPass => true
  | .breezeForcedPass => true
  | .capLevelRaise => true
  | .capLevelLower => true
  | .thermalCap => true
  | .thermalShutdown => true
  | .preemptStop => true
  | .saveImageWrite => true
  | .exportBlockWrite => true
  | .supervisorEvent => true
  | .supervisorFault => true
  | .memoryErrorReport => true
  | .onChipError => true
  | .scrub => true
  | .ccmdResume => true
  | .ccmdAbandon => true
  | .ccmdSave => true
  | .ccmdReturn => true
  | .lrBuild => true
  | .lrUnbuild => true
  | .lrDrain => true
  | .queueOpen => true
  | .queueClose => true
  | .evSuspend => true
  | .evResume => true
  | .evExport => true
  | .evImport => true
  | .ctxCreate => true
  | .ctxDestroy => true
  | .groupBuild => true
  | .groupUnbuild => true
  | .registerWrite => true
  | .slbaseWrite => true
  | .enable => true
  | .disable => true
  | .vload => true
  | .vunload => true
  | .prune => true
  | .packetReceive => true
  | .requestReceive => true
  | .acceptReply => true
  | .admission => true
  | .outputEntryPop => true
  | .relqPush => true
  | .hsemAcquire => true
  | .hsemRelease => true
  | .fwload => true
  | .bringupTraining => true
  | .setup => true
  | .teardown => true
  | .warmreset => true
  | .coldReset => true
  | .perstWarmReset => true
  | .cxlLinkDown => true
  | .snapFire => true
  | .snapLockFree => true
  | .snapPinEdge => true
  | .hostMemoryWrite => true
  | .hostMemoryRead => true
  | .lossOfPower => true
  | .singleDieOrStackFailure => true

/-- Well-formed instructions: an X-strand destination is no load-queue port, VQNT's destination is even (R128). A step of the
hardware has no fields (log 85). -/
def Instr.wf : Instr → Bool
  | .add _ _ _ _ => true
  | .sub _ _ _ _ => true
  | .mul _ _ _ _ => true
  | .mulh _ _ _ _ => true
  | .mulhu _ _ _ _ => true
  | .divu _ _ _ _ => true
  | .remu _ _ _ _ => true
  | .and _ _ _ _ => true
  | .or _ _ _ _ => true
  | .xor _ _ _ _ => true
  | .andn _ _ _ _ => true
  | .orn _ _ _ _ => true
  | .shl _ _ _ _ => true
  | .shr _ _ _ _ => true
  | .sar _ _ _ _ => true
  | .rotr _ _ _ _ => true
  | .min _ _ _ _ => true
  | .max _ _ _ _ => true
  | .minu _ _ _ _ => true
  | .maxu _ _ _ _ => true
  | .slt _ _ _ _ => true
  | .sltu _ _ _ _ => true
  | .seq _ _ _ _ => true
  | .sne _ _ _ _ => true
  | .clz _ _ _ => true
  | .ctz _ _ _ => true
  | .popc _ _ _ => true
  | .bfx _ _ _ _ => true
  | .bfxu _ _ _ _ => true
  | .bfi _ _ _ _ => true
  | .selnz _ _ _ _ => true
  | .addi _ _ _ => true
  | .andi _ _ _ => true
  | .ori _ _ _ => true
  | .xori _ _ _ => true
  | .shli _ _ _ => true
  | .shri _ _ _ => true
  | .sari _ _ _ => true
  | .slti _ _ _ => true
  | .lih _ _ => true
  | .ldb _ _ _ _ => true
  | .ldbu _ _ _ _ => true
  | .ldh _ _ _ _ => true
  | .ldhu _ _ _ _ => true
  | .ldw _ _ _ _ => true
  | .ldwu _ _ _ _ => true
  | .ldd _ _ _ _ => true
  | .stb _ _ _ _ => true
  | .sth _ _ _ _ => true
  | .stw _ _ _ _ => true
  | .std _ _ _ _ => true
  | .amo _ _ _ _ _ => true
  | .amorr _ _ _ _ _ => true
  | .ldacq _ _ _ _ _ => true
  | .strel _ _ _ _ _ => true
  | .fence _ _ => true
  | .spldb _ _ _ _ => true
  | .spldh _ _ _ _ => true
  | .spldw _ _ _ _ => true
  | .spldd _ _ _ _ => true
  | .spstb _ _ _ _ => true
  | .spsth _ _ _ _ => true
  | .spstw _ _ _ _ => true
  | .spstd _ _ _ _ => true
  | .spmarkf _ _ _ => true
  | .spmarke _ _ _ => true
  | .sptestf _ _ _ _ => true
  | .vld _ _ _ _ => true
  | .vldDec _ _ _ _ => true
  | .vldf _ _ _ _ => true
  | .vldfc _ _ _ _ => true
  | .vst _ _ _ _ => true
  | .vstf _ _ _ _ => true
  | .vgth _ _ _ _ => true
  | .vsct _ _ _ _ => true
  | .vldg _ _ _ _ => true
  | .vstg _ _ _ _ => true
  | .qbind _ _ _ => true
  | .qunbind _ _ => true
  | .qwait _ _ _ => true
  | .qstat _ _ _ => true
  | .lrpatch _ _ _ _ => true
  | .lrarm _ _ => true
  | .lrstat _ _ _ _ => true
  | .jdec _ _ => true
  | .tself _ _ => true
  | .gbar _ _ _ => true
  | .garr _ _ => true
  | .gwait _ _ _ => true
  | .gpeer _ _ _ => true
  | .finc _ _ _ => true
  | .fwait _ _ _ _ => true
  | .frd _ _ _ => true
  | .fclr _ _ => true
  | .twait _ _ _ => true
  | .ttest _ _ _ => true
  | .fork _ _ => true
  | .slip _ _ => true
  | .frame _ _ => true
  | .gpush _ _ => true
  | .gpop _ _ => true
  | .gtop _ _ => true
  | .gdepth _ _ => true
  | .maskf _ _ _ _ => true
  | .mxw _ _ _ => true
  | .mxr _ _ _ => true
  | .meMode _ _ _ _ => true
  | .meMsk _ _ _ => true
  | .oclaim _ _ _ => true
  | .orels _ _ => true
  | .ostat _ _ => true
  | .ceGo _ _ _ _ => true
  | .ceAbort _ _ => true
  | .ceStat _ _ _ => true
  | .seIns _ _ _ _ => true
  | .seDel _ _ => true
  | .seAge _ _ _ => true
  | .seSel _ _ _ => true
  | .seCnt _ _ _ => true
  | .seQuota _ _ _ => true
  | .spermit _ _ _ => true
  | .spret _ _ => true
  | .fltarm _ _ _ _ => true
  | .fltclose _ _ => true
  | .trap _ _ => true
  | .scall _ _ => true
  | .rdctl _ _ _ => true
  | .wrctl _ _ _ => true
  | .iflush _ _ _ => true
  | .srdctl _ _ _ => true
  | .swrctl _ _ _ => true
  | .tlbinv _ _ _ => true
  | .sespall _ _ => true
  | .snapt _ _ _ => true
  | .corestop _ _ _ => true
  | .beq _ _ _ => true
  | .bne _ _ _ => true
  | .blt _ _ _ => true
  | .bge _ _ _ => true
  | .bltu _ _ _ => true
  | .bgeu _ _ _ => true
  | .jal _ _ => true
  | .jalr _ _ _ => true
  | .loop _ _ => true
  | .vaddF32 d _ _ _ _ => vdOk d
  | .vsubF32 d _ _ _ _ => vdOk d
  | .vmulF32 d _ _ _ _ => vdOk d
  | .vminF32 d _ _ _ _ => vdOk d
  | .vmaxF32 d _ _ _ _ => vdOk d
  | .vfmaF32 d _ _ _ _ => vdOk d
  | .vfnmaF32 d _ _ _ _ => vdOk d
  | .vcpsgnF32 d _ _ _ _ => vdOk d
  | .vaddF16 d _ _ _ _ => vdOk d
  | .vsubF16 d _ _ _ _ => vdOk d
  | .vmulF16 d _ _ _ _ => vdOk d
  | .vminF16 d _ _ _ _ => vdOk d
  | .vmaxF16 d _ _ _ _ => vdOk d
  | .vfmaF16 d _ _ _ _ => vdOk d
  | .vfnmaF16 d _ _ _ _ => vdOk d
  | .vcpsgnF16 d _ _ _ _ => vdOk d
  | .vaddBF16 d _ _ _ _ => vdOk d
  | .vsubBF16 d _ _ _ _ => vdOk d
  | .vmulBF16 d _ _ _ _ => vdOk d
  | .vminBF16 d _ _ _ _ => vdOk d
  | .vmaxBF16 d _ _ _ _ => vdOk d
  | .vfmaBF16 d _ _ _ _ => vdOk d
  | .vfnmaBF16 d _ _ _ _ => vdOk d
  | .vcpsgnBF16 d _ _ _ _ => vdOk d
  | .vaddI32 d _ _ _ _ => vdOk d
  | .vsubI32 d _ _ _ _ => vdOk d
  | .vmulI32 d _ _ _ _ => vdOk d
  | .vmulhI32 d _ _ _ _ => vdOk d
  | .vminI32 d _ _ _ _ => vdOk d
  | .vmaxI32 d _ _ _ _ => vdOk d
  | .vminUI32 d _ _ _ _ => vdOk d
  | .vmaxUI32 d _ _ _ _ => vdOk d
  | .vaddI16 d _ _ _ _ => vdOk d
  | .vsubI16 d _ _ _ _ => vdOk d
  | .vaddsI16 d _ _ _ _ => vdOk d
  | .vsubsI16 d _ _ _ _ => vdOk d
  | .vaddI8 d _ _ _ _ => vdOk d
  | .vsubI8 d _ _ _ _ => vdOk d
  | .vaddsI8 d _ _ _ _ => vdOk d
  | .vsubsI8 d _ _ _ _ => vdOk d
  | .vand d _ _ _ _ => vdOk d
  | .vor d _ _ _ _ => vdOk d
  | .vxor d _ _ _ _ => vdOk d
  | .vandn d _ _ _ _ => vdOk d
  | .vshl d _ _ _ _ => vdOk d
  | .vshr d _ _ _ _ => vdOk d
  | .vsar d _ _ _ _ => vdOk d
  | .vnot d _ _ _ => vdOk d
  | .veqF32 _ _ _ _ _ => true
  | .vltF32 _ _ _ _ _ => true
  | .vleF32 _ _ _ _ _ => true
  | .vunF32 _ _ _ _ _ => true
  | .veqI32 _ _ _ _ _ => true
  | .vltI32 _ _ _ _ _ => true
  | .vltUI32 _ _ _ _ _ => true
  | .vneI32 _ _ _ _ _ => true
  | .vsel d _ _ _ _ => vdOk d
  | .vmov d _ _ _ => vdOk d
  | .vbcl d _ _ _ _ => vdOk d
  | .vperm d _ _ _ _ => vdOk d
  | .vslup d _ _ _ _ => vdOk d
  | .vsldn d _ _ _ _ => vdOk d
  | .vtoa _ _ => true
  | .vrand d _ _ _ => vdOk d
  | .vcvt d _ _ _ _ _ _ => vdOk d
  | .vqnt d _ f _ _ => vdOk d && d.getLsbD 0 == false && f != .fp32 && f != .bin1
  | .vdqnt d _ f _ => vdOk d && f != .fp32
  | .vpack d _ _ _ => vdOk d
  | .vunpk d _ _ _ => vdOk d
  | .vsgn d _ _ => vdOk d
  | .vham d _ _ => vdOk d
  | .vexp2 d _ _ _ => vdOk d
  | .vlog2 d _ _ _ => vdOk d
  | .vrcp d _ _ _ => vdOk d
  | .vrsq d _ _ _ => vdOk d
  | .vsqrt d _ _ _ => vdOk d
  | .vdiv d _ _ _ _ => vdOk d
  | .vrsumF32 d _ _ _ => vdOk d
  | .vrmaxF32 d _ _ _ => vdOk d
  | .vrminF32 d _ _ _ => vdOk d
  | .vrmaxiF32 d _ _ _ => vdOk d
  | .vrminiF32 d _ _ _ => vdOk d
  | .vrsumI32 d _ _ _ => vdOk d
  | .vrmaxI32 d _ _ _ => vdOk d
  | .vrmaxiI32 d _ _ _ => vdOk d
  | .pand _ _ _ _ => true
  | .por _ _ _ _ => true
  | .pxor _ _ _ _ => true
  | .pnot _ _ _ => true
  | .ppopc d _ _ => vdOk d
  | .pffs d _ _ => vdOk d
  | .pmov _ _ _ => true
  | .vfromp d _ _ => vdOk d
  | .accrd d _ _ _ _ => vdOk d
  | .accwr _ _ _ _ _ => true
  | .accz _ _ _ => true
  | .xloop _ _ => true
  | .xbr _ _ _ => true
  | .xj _ _ => true
  | .xsetlc _ _ => true
  | .endTask  => true
  | .rdv  => true
  | .gclr  => true
  | .meGo  => true
  | .nop  => true
  | .tret  => true
  | .isync  => true
  | .sret  => true
  | .xrdv  => true
  | .taskDispatch => true
  | .gangStart => true
  | .stageTaskStart => true
  | .taskRestore => true
  | .backgroundFill => true
  | .endCommit => true
  | .gangCommit => true
  | .stallRelease => true
  | .loadReturn => true
  | .amorrReturn => true
  | .gatherScatterLane => true
  | .xTrapTake => true
  | .faultRecordWrite => true
  | .taskTimeout => true
  | .qtimeout => true
  | .fwaitTimeout => true
  | .twaitTimeout => true
  | .gwaitTimeout => true
  | .stampIssue => true
  | .stampOverrun => true
  | .pageWalk => true
  | .meCommandStart => true
  | .meTileStep => true
  | .ceChainStart => true
  | .ceRecord => true
  | .seCommandRun => true
  | .filterResult => true
  | .tierPageIn => true
  | .tierPageOut => true
  | .weirInterval => true
  | .breezeTokenPass => true
  | .breezeForcedPass => true
  | .capLevelRaise => true
  | .capLevelLower => true
  | .thermalCap => true
  | .thermalShutdown => true
  | .preemptStop => true
  | .saveImageWrite => true
  | .exportBlockWrite => true
  | .supervisorEvent => true
  | .supervisorFault => true
  | .memoryErrorReport => true
  | .onChipError => true
  | .scrub => true
  | .ccmdResume => true
  | .ccmdAbandon => true
  | .ccmdSave => true
  | .ccmdReturn => true
  | .lrBuild => true
  | .lrUnbuild => true
  | .lrDrain => true
  | .queueOpen => true
  | .queueClose => true
  | .evSuspend => true
  | .evResume => true
  | .evExport => true
  | .evImport => true
  | .ctxCreate => true
  | .ctxDestroy => true
  | .groupBuild => true
  | .groupUnbuild => true
  | .registerWrite => true
  | .slbaseWrite => true
  | .enable => true
  | .disable => true
  | .vload => true
  | .vunload => true
  | .prune => true
  | .packetReceive => true
  | .requestReceive => true
  | .acceptReply => true
  | .admission => true
  | .outputEntryPop => true
  | .relqPush => true
  | .hsemAcquire => true
  | .hsemRelease => true
  | .fwload => true
  | .bringupTraining => true
  | .setup => true
  | .teardown => true
  | .warmreset => true
  | .coldReset => true
  | .perstWarmReset => true
  | .cxlLinkDown => true
  | .snapFire => true
  | .snapLockFree => true
  | .snapPinEdge => true
  | .hostMemoryWrite => true
  | .hostMemoryRead => true
  | .lossOfPower => true
  | .singleDieOrStackFailure => true

end Sys2Proof
end

