-- ==== Sys2Proof/Decode.lean ====
section
/-! DEFINITION. Decoding (06_encoding_and_assembly.md, R120-R133) and, after it, the encoder written from the
same tables. Decoding is total on any word, and its refusals are the fault codes of Table 06.8. -/
namespace Sys2Proof

/-! ### Bit fields -/

/-- The n-bit field of a word whose lowest bit is bit lo. -/
def fld (w : W32) (lo n : Nat) : BitVec n := .ofNat n (w.toNat / 2 ^ lo)
/-- The major opcode, bits [31:26] (R120). -/
def fMajor (w : W32) : Nat := (fld w 26 6).toNat
/-- Bits [25:20]: d of the A-strand formats, vd of XV and XC (Tables 06.2, 06.3). -/
def fD (w : W32) : BitVec 6 := fld w 20 6
/-- Bits [19:14]: a. -/
def fA (w : W32) : BitVec 6 := fld w 14 6
/-- Bits [13:8]: b. -/
def fB (w : W32) : BitVec 6 := fld w 8 6
/-- Bits [7:2]: fn of AR and AV. -/
def fFn (w : W32) : Nat := (fld w 2 6).toNat
/-- Bit 1: E of AR and AV. -/
def fE (w : W32) : Bool := fld w 1 1 == 1#1
/-- Bit 0: L of the A-strand formats. -/
def fL (w : W32) : Bool := fld w 0 1 == 1#1
/-- imm12 = a ## b, bits [19:8] (R124). -/
def fImm12 (w : W32) : BitVec 12 := fld w 8 12
/-- Bit 0: E of the X-strand formats (Table 06.3). -/
def xE (w : W32) : Bool := fld w 0 1 == 1#1
/-- Bits [7:5]: fn of XV and XCTL. -/
def xFn (w : W32) : Nat := (fld w 5 3).toNat
/-- Bits [4:1]: pg. -/
def xPg (w : W32) : BitVec 4 := fld w 1 4
/-- Bits [13:9]: F1 of XC. -/
def xF1 (w : W32) : BitVec 5 := fld w 9 5
/-- Bits [8:4]: F2 of XC. -/
def xF2 (w : W32) : BitVec 5 := fld w 4 5
/-- Bits [3:1]: rm of XC. -/
def xRm (w : W32) : BitVec 3 := fld w 1 3

/-- The extension word's fields (Table 06.1). -/
def Ext.ofWord (w : W32) : Ext :=
  { stamp := fld w 20 12, prod := fld w 15 5, cona := fld w 10 5, conb := fld w 5 5, conc := fld w 0 5 }

/-- What decoding answers: an instruction, or the fault code of the first failing check. -/
abbrev Dec := Except FCode Instr

/-- Refuses with ILLEGAL unless the check holds. -/
def need (c : Bool) (r : Dec) : Dec := if c then r else .error .illegal

/-! ### Small codes -/

/-- Scope codes 0-4; 5-7 are illegal (R133). -/
def Scope.ofCode (c : BitVec 3) : Option Scope :=
  match c.toNat with
  | 0 => some .core | 1 => some .group | 2 => some .die | 3 => some .pkg | 4 => some .sys | _ => none
/-- AMO ops 0-9; 10-15 are illegal (R130). -/
def AmoOp.ofCode (c : BitVec 4) : Option AmoOp :=
  match c.toNat with
  | 0 => some .add | 1 => some .and | 2 => some .or | 3 => some .xor | 4 => some .smin | 5 => some .smax
  | 6 => some .umin | 7 => some .umax | 8 => some .swap | 9 => some .cas | _ => none
/-- Rounding modes 0-5 (Table 04.3). -/
def Rmode.ofCode (c : BitVec 3) : Option Rmode :=
  match c.toNat with
  | 0 => some .rne | 1 => some .rz | 2 => some .ru | 3 => some .rd | 4 => some .rna | 5 => some .sr | _ => none
/-- Element codes 0-13 (Table 04.1); 14 and 15 fault FMT_CODE (R72). -/
def Elem.ofCode (c : BitVec 4) : Option Elem :=
  match c.toNat with
  | 0 => some .fp32 | 1 => some .fp16 | 2 => some .bf16 | 3 => some .e4m3 | 4 => some .e5m2 | 5 => some .e3m2
  | 6 => some .e2m3 | 7 => some .e2m1 | 8 => some .e2m1x | 9 => some .int8 | 10 => some .uint8 | 11 => some .int4
  | 12 => some .uint4 | 13 => some .bin1 | _ => none
/-- Queue fields 4-6 are SQ0-SQ2 (R125). -/
def Sq.ofField (c : BitVec 4) : Option Sq :=
  match c.toNat with
  | 4 => some .sq0 | 5 => some .sq1 | 6 => some .sq2 | _ => none

/-- A scope field, else ILLEGAL. -/
def withScope (c : BitVec 3) (k : Scope → Dec) : Dec :=
  match Scope.ofCode c with
  | some s => k s
  | none => .error .illegal
/-- A rounding mode, else ILLEGAL (R78). -/
def withRm (c : BitVec 3) (k : Rmode → Dec) : Dec :=
  match Rmode.ofCode c with
  | some s => k s
  | none => .error .illegal
/-- An element code, else FMT_CODE (R72). -/
def withElem (c : BitVec 4) (k : Elem → Dec) : Dec :=
  match Elem.ofCode c with
  | some s => k s
  | none => .error .fmtCode

/-! ### One decoder per operand form
Each takes the constructor and the word, and checks L (step 5) and the reserved fields (step 6). -/

def arDAB (k : Reg → Reg → Reg → Bool → Instr) (w : W32) : Dec :=
  need (!fL w) (.ok (k (fD w) (fA w) (fB w) (fE w)))
def arDA (k : Reg → Reg → Bool → Instr) (w : W32) : Dec :=
  need (!fL w && fB w == 0#6) (.ok (k (fD w) (fA w) (fE w)))
def arD (k : Reg → Bool → Instr) (w : W32) : Dec :=
  need (!fL w && fA w == 0#6 && fB w == 0#6) (.ok (k (fD w) (fE w)))
def arA (k : Reg → Bool → Instr) (w : W32) : Dec :=
  need (!fL w && fD w == 0#6 && fB w == 0#6) (.ok (k (fA w) (fE w)))
def arAB (k : Reg → Reg → Bool → Instr) (w : W32) : Dec :=
  need (!fL w && fD w == 0#6) (.ok (k (fA w) (fB w) (fE w)))
def arN (k : Instr) (w : W32) : Dec :=
  need (!fL w && fD w == 0#6 && fA w == 0#6 && fB w == 0#6) (.ok k)
def arDI (k : Reg → BitVec 12 → Bool → Instr) (w : W32) : Dec :=
  need (!fL w) (.ok (k (fD w) (fImm12 w) (fE w)))
def arI (k : BitVec 12 → Bool → Instr) (w : W32) : Dec :=
  need (!fL w && fD w == 0#6) (.ok (k (fImm12 w) (fE w)))
/-- OCLAIM: imm12[2:0] the slot, imm12[3] the pair bit, the rest reserved (R215). -/
def arOclaim (k : Bool → BitVec 3 → Bool → Instr) (w : W32) : Dec :=
  need (!fL w && fD w == 0#6 && fld w 12 8 == 0#8) (.ok (k (fld w 11 1 == 1#1) (fld w 8 3) (fE w)))
/-- ORELS: imm12[2:0] the slot, the rest reserved (R215). -/
def arOrels (k : BitVec 3 → Bool → Instr) (w : W32) : Dec :=
  need (!fL w && fD w == 0#6 && fld w 11 9 == 0#9) (.ok (k (fld w 8 3) (fE w)))
/-- The long forms (R121): L must be 1, and the extension word follows.
ME.GO names no register; the strand holds its extension word as fetched (log 14). -/
def lgGo (k : Instr) (w _x : W32) : Dec :=
  need (fL w && fD w == 0#6 && fA w == 0#6 && fB w == 0#6) (.ok k)
def lgA (k : Reg → Bool → Ext → Instr) (w x : W32) : Dec :=
  need (fL w && fD w == 0#6 && fB w == 0#6) (.ok (k (fA w) (fE w) (Ext.ofWord x)))
def lgAB (k : Reg → Reg → Bool → Ext → Instr) (w x : W32) : Dec :=
  need (fL w && fD w == 0#6) (.ok (k (fA w) (fB w) (fE w) (Ext.ofWord x)))
def lgDA (k : Reg → Reg → Bool → Ext → Instr) (w x : W32) : Dec :=
  need (fL w && fB w == 0#6) (.ok (k (fD w) (fA w) (fE w) (Ext.ofWord x)))
def ai (k : Reg → Reg → BitVec 13 → Instr) (w : W32) : Dec :=
  need (!fL w) (.ok (k (fD w) (fA w) (fld w 1 13)))
/-- SHLI, SHRI, SARI: imm13[12:6] must be 0 (R123). -/
def aiShift (k : Reg → Reg → BitVec 6 → Instr) (w : W32) : Dec :=
  need (!fL w && fld w 7 7 == 0#7) (.ok (k (fD w) (fA w) (fld w 1 6)))
/-- LOOP: a must be 0 (R146). -/
def aiLoop (k : Reg → BitVec 13 → Instr) (w : W32) : Dec :=
  need (!fL w && fA w == 0#6) (.ok (k (fD w) (fld w 1 13)))
def ah (k : Reg → BitVec 19 → Instr) (w : W32) : Dec :=
  need (!fL w) (.ok (k (fD w) (fld w 1 19)))
def am (k : Reg → Reg → BitVec 4 → BitVec 9 → Instr) (w : W32) : Dec :=
  need (!fL w) (.ok (k (fD w) (fA w) (fld w 10 4) (fld w 1 9)))
def ao (k : Reg → Reg → BitVec 4 → Scope → BitVec 6 → Instr) (w : W32) : Dec :=
  need (!fL w) (withScope (fld w 7 3) fun s => .ok (k (fD w) (fA w) (fld w 10 4) s (fld w 1 6)))
/-- FENCE: kind must be 0 (R105). -/
def af (k : BitVec 16 → Scope → Instr) (w : W32) : Dec :=
  need (!fL w && fld w 1 6 == 0#6) (withScope (fld w 7 3) fun s => .ok (k (fld w 10 16) s))
def aa (k : Reg → Reg → Reg → AmoOp → Scope → Instr) (w : W32) : Dec :=
  match AmoOp.ofCode (fld w 4 4) with
  | some op => need (!fL w) (withScope (fld w 1 3) fun s => .ok (k (fD w) (fA w) (fB w) op s))
  | none => .error .illegal
/-- The branches: a in [25:20], b in [19:14] (format AB). -/
def ab (k : Reg → Reg → BitVec 13 → Instr) (w : W32) : Dec :=
  need (!fL w) (.ok (k (fD w) (fA w) (fld w 1 13)))
/-- VMEM loads: queue 0-3 (R125). -/
def avL (k : BitVec 2 → Reg → Reg → Bool → Instr) (mode : BitVec 2) (w : W32) : Dec :=
  need (!fL w && fld w 24 2 == 0#2 && fld w 20 2 == mode) (.ok (k (fld w 22 2) (fA w) (fB w) (fE w)))
/-- VGTH: a load queue and a completion bitmap 0-7 in b. -/
def avLG (k : BitVec 2 → Reg → BitVec 3 → Bool → Instr) (w : W32) : Dec :=
  need (!fL w && fld w 24 2 == 0#2 && fld w 20 2 == 0#2 && fld w 11 3 == 0#3)
    (.ok (k (fld w 22 2) (fA w) (fld w 8 3) (fE w)))
/-- VMEM stores: queue 4-6 (R125). -/
def avS (k : Sq → Reg → Reg → Bool → Instr) (w : W32) : Dec :=
  match Sq.ofField (fld w 22 4) with
  | some q => need (!fL w && fld w 20 2 == 0#2) (.ok (k q (fA w) (fB w) (fE w)))
  | none => .error .illegal
/-- VSCT: a store queue and a completion bitmap 0-7 in b. -/
def avSG (k : Sq → Reg → BitVec 3 → Bool → Instr) (w : W32) : Dec :=
  match Sq.ofField (fld w 22 4) with
  | some q => need (!fL w && fld w 20 2 == 0#2 && fld w 11 3 == 0#3) (.ok (k q (fA w) (fld w 8 3) (fE w)))
  | none => .error .illegal

def xvDAB (k : VNo → VNo → VNo → PNo → Bool → Instr) (w : W32) : Dec :=
  need (vdOk (fD w)) (.ok (k (fD w) (fA w) (fB w) (xPg w) (xE w)))
def xvDA (k : VNo → VNo → PNo → Bool → Instr) (w : W32) : Dec :=
  need (vdOk (fD w) && fB w == 0#6) (.ok (k (fD w) (fA w) (xPg w) (xE w)))
/-- VTOA: vd, vb and pg must be 0 (R187). -/
def xvTOA (k : VNo → Bool → Instr) (w : W32) : Dec :=
  need (fD w == 0#6 && fB w == 0#6 && xPg w == 0#4) (.ok (k (fA w) (xE w)))
/-- VCMP: vd names a predicate (R127). -/
def xvCmp (k : PNo → VNo → VNo → PNo → Bool → Instr) (w : W32) : Dec :=
  need (fld w 24 2 == 0#2) (.ok (k (fld w 20 4) (fA w) (fB w) (xPg w) (xE w)))
/-- The predicate functions pop no port, so E is accepted and ignored (DESIGN CHOICE, log 116). -/
def xpDAB (k : PNo → PNo → PNo → Bool → Instr) (w : W32) : Dec :=
  need (fld w 24 2 == 0#2 && fld w 18 2 == 0#2 && fld w 12 2 == 0#2 && xPg w == 0#4)
    (.ok (k (fld w 20 4) (fld w 14 4) (fld w 8 4) (xE w)))
def xpDA (k : PNo → PNo → Bool → Instr) (w : W32) : Dec :=
  need (fld w 24 2 == 0#2 && fld w 18 2 == 0#2 && fB w == 0#6 && xPg w == 0#4)
    (.ok (k (fld w 20 4) (fld w 14 4) (xE w)))
def xpVA (k : VNo → PNo → Bool → Instr) (w : W32) : Dec :=
  need (vdOk (fD w) && fld w 18 2 == 0#2 && fB w == 0#6 && xPg w == 0#4)
    (.ok (k (fD w) (fld w 14 4) (xE w)))
/-- VCVT (R128): F1[4] is SAT, F1[3:0] the destination code, F2[3:0] the source code, F2[4] reserved. -/
def xcCvt (k : VNo → VNo → Bool → Elem → Elem → Rmode → Bool → Instr) (w : W32) : Dec :=
  need (vdOk (fD w) && fld w 8 1 == 0#1) (withRm (xRm w) fun r =>
    withElem (fld w 9 4) fun t => withElem (fld w 4 4) fun u =>
      .ok (k (fD w) (fA w) (fld w 13 1 == 1#1) t u r (xE w)))
/-- A VQ format field whose scaled bit must be `sc`; codes 14 and 15 fault FMT_CODE before that (R128, R72). -/
def withFmt (sc : Bool) (w : W32) (k : Elem → Dec) : Dec :=
  match Elem.ofCode (fld w 9 4) with
  | none => .error .fmtCode
  | some f => need ((fld w 13 1 == 1#1) == sc) (k f)
/-- Element codes 1-12, which VQNT takes; codes 0x10 and 0x1D are ILLEGAL (R190). -/
def qntElem (f : Elem) : Bool := f != .fp32 && f != .bin1
/-- VQNT: a scaled code, an even vd (R128, R190). -/
def xcQnt (k : VNo → VNo → Elem → Rmode → Bool → Instr) (w : W32) : Dec :=
  need (vdOk (fD w) && fld w 20 1 == 0#1 && fld w 4 2 == 0#2) (withRm (xRm w) fun r =>
    withFmt true w fun f => need (qntElem f) (.ok (k (fD w) (fA w) f r (xE w))))
/-- VDQNT: a scaled code, rm 0 (R128); the element code is 1-13 (R191). -/
def xcDqnt (k : VNo → VNo → Elem → Bool → Instr) (w : W32) : Dec :=
  need (vdOk (fD w) && fld w 4 2 == 0#2 && xRm w == 0#3) (withFmt true w fun f =>
    need (f != .fp32) (.ok (k (fD w) (fA w) f (xE w))))
/-- VPACK, VUNPK: a code with the scaled bit clear, rm 0 (R128). -/
def xcPack (k : VNo → VNo → Elem → Bool → Instr) (w : W32) : Dec :=
  need (vdOk (fD w) && fld w 4 2 == 0#2 && xRm w == 0#3) (withFmt false w fun f => .ok (k (fD w) (fA w) f (xE w)))
/-- VSGN, VHAM: F1 must be 0 (R128); a code 14 or 15 there is still a format field's FMT_CODE (R72, DEDUCED, log 13). -/
def xcPlain (k : VNo → VNo → Bool → Instr) (w : W32) : Dec :=
  need (vdOk (fD w) && fld w 4 2 == 0#2 && xRm w == 0#3) (withFmt false w fun _ =>
    need (xF1 w == 0#5) (.ok (k (fD w) (fA w) (xE w))))
/-- ACCRD (Table 06.4). -/
def xtAcc (k : VNo → BitVec 2 → BitVec 7 → PNo → Bool → Instr) (w : W32) : Dec :=
  need (vdOk (fD w) && fld w 8 3 == 0#3) (.ok (k (fD w) (fld w 18 2) (fld w 11 7) (xPg w) (xE w)))
/-- ACCWR: [25:20] is the source va (Table 06.4). -/
def xtAccS (k : VNo → BitVec 2 → BitVec 7 → PNo → Bool → Instr) (w : W32) : Dec :=
  need (fld w 8 3 == 0#3) (.ok (k (fD w) (fld w 18 2) (fld w 11 7) (xPg w) (xE w)))
/-- A function that pops no port accepts and ignores E (DESIGN CHOICE, log 116). -/
def xtAccz (k : BitVec 8 → BitVec 2 → Bool → Instr) (w : W32) : Dec :=
  need (fld w 8 8 == 0#8 && xPg w == 0#4) (.ok (k (fld w 18 8) (fld w 16 2) (xE w)))
/-- E is accepted and ignored (DESIGN CHOICE, log 116). -/
def xtBr0 (k : BitVec 18 → Bool → Instr) (w : W32) : Dec :=
  need (xPg w == 0#4) (.ok (k (fld w 8 18) (xE w)))
def xtBr (k : BitVec 18 → PNo → Bool → Instr) (w : W32) : Dec :=
  .ok (k (fld w 8 18) (xPg w) (xE w))
/-- E is accepted and ignored (DESIGN CHOICE, log 116). -/
def xtNone (k : Instr) (w : W32) : Dec :=
  need (fld w 8 18 == 0#18 && xPg w == 0#4) (.ok k)
def xtSetlc (k : VNo → Bool → Instr) (w : W32) : Dec :=
  need (fD w == 0#6 && fB w == 0#6 && xPg w == 0#4) (.ok (k (fA w) (xE w)))

/-- The format code that an instruction's FMT_CODE fault found (R302): of VCVT the element code 14 or 15, destination
first; of the VQ functions the format field. -/
def foundCode (w : W32) : BitVec 5 :=
  if fMajor w = 0x38 then (if 14 ≤ (fld w 9 4 : BitVec 4).toNat then fld w 9 4 else fld w 4 4).setWidth 5 else xF1 w

/-- Functions marked S fault PRIV in task mode, before the checks of steps 5 and 6 (Table 06.8, step 4). -/
def privileged (sup : Bool) (r : Dec) : Dec := if sup then r else .error .priv

/-! ### The function tables (Tables 06.6 and 06.7) -/

/-- Major 0x0, ALU. -/
def decAlu (w : W32) : Dec :=
  match fFn w with
  | 0x00 => arDAB .add w
  | 0x01 => arDAB .sub w
  | 0x02 => arDAB .mul w
  | 0x03 => arDAB .mulh w
  | 0x04 => arDAB .mulhu w
  | 0x05 => arDAB .divu w
  | 0x06 => arDAB .remu w
  | 0x07 => arDAB .and w
  | 0x08 => arDAB .or w
  | 0x09 => arDAB .xor w
  | 0x0A => arDAB .andn w
  | 0x0B => arDAB .orn w
  | 0x0C => arDAB .shl w
  | 0x0D => arDAB .shr w
  | 0x0E => arDAB .sar w
  | 0x0F => arDAB .rotr w
  | 0x10 => arDAB .min w
  | 0x11 => arDAB .max w
  | 0x12 => arDAB .minu w
  | 0x13 => arDAB .maxu w
  | 0x14 => arDAB .slt w
  | 0x15 => arDAB .sltu w
  | 0x16 => arDAB .seq w
  | 0x17 => arDAB .sne w
  | 0x18 => arDA .clz w
  | 0x19 => arDA .ctz w
  | 0x1A => arDA .popc w
  | 0x1B => arDAB .bfx w
  | 0x1C => arDAB .bfxu w
  | 0x1D => arDAB .bfi w
  | 0x1E => arDAB .selnz w
  | _ => .error .illegal

/-- Major 0x1a, SPM. -/
def decSpm (w : W32) : Dec :=
  match fFn w with
  | 0x00 => arDAB .spldb w
  | 0x01 => arDAB .spldh w
  | 0x02 => arDAB .spldw w
  | 0x03 => arDAB .spldd w
  | 0x04 => arDAB .spstb w
  | 0x05 => arDAB .spsth w
  | 0x06 => arDAB .spstw w
  | 0x07 => arDAB .spstd w
  | 0x08 => arAB .spmarkf w
  | 0x09 => arAB .spmarke w
  | 0x0A => arDAB .sptestf w
  | _ => .error .illegal

/-- Major 0x1c, QUE. -/
def decQue (w : W32) : Dec :=
  match fFn w with
  | 0x00 => arDA .qbind w
  | 0x01 => arD .qunbind w
  | 0x02 => arDA .qwait w
  | 0x03 => arDA .qstat w
  | _ => .error .illegal

/-- Major 0x1d, TASK. -/
def decTask (w : W32) : Dec :=
  match fFn w with
  | 0x00 => arDAB .lrpatch w
  | 0x01 => arA .lrarm w
  | 0x02 => arDAB .lrstat w
  | 0x03 => arA .jdec w
  | 0x04 => arN .endTask w
  | 0x05 => arD .tself w
  | _ => .error .illegal

/-- Major 0x1e, SYNC. -/
def decSync (w : W32) : Dec :=
  match fFn w with
  | 0x00 => arDA .gbar w
  | 0x01 => arD .garr w
  | 0x02 => arDA .gwait w
  | 0x03 => arDA .gpeer w
  | 0x04 => arDA .finc w
  | 0x05 => arDAB .fwait w
  | 0x06 => arDA .frd w
  | 0x07 => arD .fclr w
  | 0x08 => arDA .twait w
  | 0x09 => arDA .ttest w
  | 0x0A => arA .fork w
  | 0x0B => arN .rdv w
  | 0x0C => arI .slip w
  | 0x0D => arA .frame w
  | _ => .error .illegal

/-- Major 0x1f, GRAM. -/
def decGram (w : W32) : Dec :=
  match fFn w with
  | 0x00 => arA .gpush w
  | 0x01 => arD .gpop w
  | 0x02 => arD .gtop w
  | 0x03 => arD .gdepth w
  | 0x04 => arN .gclr w
  | 0x05 => arDAB .maskf w
  | _ => .error .illegal

/-- Major 0x20, ME. -/
def decMe (w x : W32) : Dec :=
  match fFn w with
  | 0x00 => arDI .mxw w
  | 0x01 => arDI .mxr w
  | 0x02 => lgGo .meGo w x
  | 0x03 => lgAB .meMode w x
  | 0x04 => lgA .meMsk w x
  | 0x05 => arOclaim .oclaim w
  | 0x06 => arOrels .orels w
  | 0x07 => arD .ostat w
  | _ => .error .illegal

/-- Major 0x21, CE. -/
def decCe (w x : W32) : Dec :=
  match fFn w with
  | 0x00 => lgDA .ceGo w x
  | 0x01 => arD .ceAbort w
  | 0x02 => arDA .ceStat w
  | _ => .error .illegal

/-- Major 0x22, SE. -/
def decSe (w x : W32) : Dec :=
  match fFn w with
  | 0x00 => lgAB .seIns w x
  | 0x01 => arA .seDel w
  | 0x02 => arAB .seAge w
  | 0x03 => lgA .seSel w x
  | 0x04 => arDA .seCnt w
  | 0x05 => arDA .seQuota w
  | _ => .error .illegal

/-- Major 0x23, GEN. -/
def decGen (w x : W32) : Dec :=
  match fFn w with
  | 0x00 => arDA .spermit w
  | 0x01 => arA .spret w
  | 0x02 => lgDA .fltarm w x
  | 0x03 => arD .fltclose w
  | _ => .error .illegal

/-- Major 0x24, SYS. -/
def decSys (sup : Bool) (w : W32) : Dec :=
  match fFn w with
  | 0x00 => arN .nop w
  | 0x01 => arI .trap w
  | 0x02 => arN .tret w
  | 0x03 => arI .scall w
  | 0x04 => arDI .rdctl w
  | 0x05 => arDI .wrctl w
  | 0x06 => arN .isync w
  | 0x07 => arAB .iflush w
  | 0x08 => privileged sup (arN .sret w)
  | 0x09 => privileged sup (arDI .srdctl w)
  | 0x0A => privileged sup (arDI .swrctl w)
  | 0x0B => privileged sup (arAB .tlbinv w)
  | 0x0C => privileged sup (arA .sespall w)
  | 0x0D => privileged sup (arDA .snapt w)
  | 0x0E => privileged sup (arDA .corestop w)
  | _ => .error .illegal

/-- Major 0x1b, VMEM. -/
def decVmem (w : W32) : Dec :=
  match fFn w with
  | 0x00 => if fld w 20 2 == 1#2 then avL .vldDec 1#2 w else avL .vld 0#2 w
  | 0x01 => avL .vldf 0#2 w
  | 0x02 => avL .vldfc 0#2 w
  | 0x03 => avS .vst w
  | 0x04 => avS .vstf w
  | 0x05 => avLG .vgth w
  | 0x06 => avSG .vsct w
  | 0x07 => avL .vldg 0#2 w
  | 0x08 => avS .vstg w
  | _ => .error .illegal

/-- Major 0x30, VF32. -/
def decVf32 (w : W32) : Dec :=
  match xFn w with
  | 0 => xvDAB .vaddF32 w
  | 1 => xvDAB .vsubF32 w
  | 2 => xvDAB .vmulF32 w
  | 3 => xvDAB .vminF32 w
  | 4 => xvDAB .vmaxF32 w
  | 5 => xvDAB .vfmaF32 w
  | 6 => xvDAB .vfnmaF32 w
  | 7 => xvDAB .vcpsgnF32 w
  | _ => .error .illegal

/-- Major 0x31, VF16. -/
def decVf16 (w : W32) : Dec :=
  match xFn w with
  | 0 => xvDAB .vaddF16 w
  | 1 => xvDAB .vsubF16 w
  | 2 => xvDAB .vmulF16 w
  | 3 => xvDAB .vminF16 w
  | 4 => xvDAB .vmaxF16 w
  | 5 => xvDAB .vfmaF16 w
  | 6 => xvDAB .vfnmaF16 w
  | 7 => xvDAB .vcpsgnF16 w
  | _ => .error .illegal

/-- Major 0x32, VBF16. -/
def decVbf16 (w : W32) : Dec :=
  match xFn w with
  | 0 => xvDAB .vaddBF16 w
  | 1 => xvDAB .vsubBF16 w
  | 2 => xvDAB .vmulBF16 w
  | 3 => xvDAB .vminBF16 w
  | 4 => xvDAB .vmaxBF16 w
  | 5 => xvDAB .vfmaBF16 w
  | 6 => xvDAB .vfnmaBF16 w
  | 7 => xvDAB .vcpsgnBF16 w
  | _ => .error .illegal

/-- Major 0x33, VI32. -/
def decVi32 (w : W32) : Dec :=
  match xFn w with
  | 0 => xvDAB .vaddI32 w
  | 1 => xvDAB .vsubI32 w
  | 2 => xvDAB .vmulI32 w
  | 3 => xvDAB .vmulhI32 w
  | 4 => xvDAB .vminI32 w
  | 5 => xvDAB .vmaxI32 w
  | 6 => xvDAB .vminUI32 w
  | 7 => xvDAB .vmaxUI32 w
  | _ => .error .illegal

/-- Major 0x34, VINTN. -/
def decVintn (w : W32) : Dec :=
  match xFn w with
  | 0 => xvDAB .vaddI16 w
  | 1 => xvDAB .vsubI16 w
  | 2 => xvDAB .vaddsI16 w
  | 3 => xvDAB .vsubsI16 w
  | 4 => xvDAB .vaddI8 w
  | 5 => xvDAB .vsubI8 w
  | 6 => xvDAB .vaddsI8 w
  | 7 => xvDAB .vsubsI8 w
  | _ => .error .illegal

/-- Major 0x35, VLOGIC. -/
def decVlogic (w : W32) : Dec :=
  match xFn w with
  | 0 => xvDAB .vand w
  | 1 => xvDAB .vor w
  | 2 => xvDAB .vxor w
  | 3 => xvDAB .vandn w
  | 4 => xvDAB .vshl w
  | 5 => xvDAB .vshr w
  | 6 => xvDAB .vsar w
  | 7 => xvDA .vnot w
  | _ => .error .illegal

/-- Major 0x36, VCMP. -/
def decVcmp (w : W32) : Dec :=
  match xFn w with
  | 0 => xvCmp .veqF32 w
  | 1 => xvCmp .vltF32 w
  | 2 => xvCmp .vleF32 w
  | 3 => xvCmp .vunF32 w
  | 4 => xvCmp .veqI32 w
  | 5 => xvCmp .vltI32 w
  | 6 => xvCmp .vltUI32 w
  | 7 => xvCmp .vneI32 w
  | _ => .error .illegal

/-- Major 0x37, VMOVE. -/
def decVmove (w : W32) : Dec :=
  match xFn w with
  | 0 => xvDAB .vsel w
  | 1 => xvDA .vmov w
  | 2 => xvDAB .vbcl w
  | 3 => xvDAB .vperm w
  | 4 => xvDAB .vslup w
  | 5 => xvDAB .vsldn w
  | 6 => xvTOA .vtoa w
  | 7 => xvDA .vrand w
  | _ => .error .illegal

/-- Major 0x39, VQ. -/
def decVq (w : W32) : Dec :=
  match (fld w 6 3).toNat with
  | 0 => xcQnt .vqnt w
  | 1 => xcDqnt .vdqnt w
  | 2 => xcPack .vpack w
  | 3 => xcPack .vunpk w
  | 4 => xcPlain .vsgn w
  | 5 => xcPlain .vham w
  | _ => .error .illegal

/-- Major 0x3a, VTR. -/
def decVtr (w : W32) : Dec :=
  match xFn w with
  | 0 => xvDA .vexp2 w
  | 1 => xvDA .vlog2 w
  | 2 => xvDA .vrcp w
  | 3 => xvDA .vrsq w
  | 4 => xvDA .vsqrt w
  | 5 => xvDAB .vdiv w
  | _ => .error .illegal

/-- Major 0x3b, VRED. -/
def decVred (w : W32) : Dec :=
  match xFn w with
  | 0 => xvDA .vrsumF32 w
  | 1 => xvDA .vrmaxF32 w
  | 2 => xvDA .vrminF32 w
  | 3 => xvDA .vrmaxiF32 w
  | 4 => xvDA .vrminiF32 w
  | 5 => xvDA .vrsumI32 w
  | 6 => xvDA .vrmaxI32 w
  | 7 => xvDA .vrmaxiI32 w
  | _ => .error .illegal

/-- Major 0x3c, VPRED. -/
def decVpred (w : W32) : Dec :=
  match xFn w with
  | 0 => xpDAB .pand w
  | 1 => xpDAB .por w
  | 2 => xpDAB .pxor w
  | 3 => xpDA .pnot w
  | 4 => xpVA .ppopc w
  | 5 => xpVA .pffs w
  | 6 => xpDA .pmov w
  | 7 => xpVA .vfromp w
  | _ => .error .illegal

/-- Major 0x3d, XCTL. -/
def decXctl (w : W32) : Dec :=
  match xFn w with
  | 0 => xtAcc .accrd w
  | 1 => xtAccS .accwr w
  | 2 => xtAccz .accz w
  | 3 => xtBr0 .xloop w
  | 4 => xtBr .xbr w
  | 5 => xtBr0 .xj w
  | 6 => xtNone .xrdv w
  | 7 => xtSetlc .xsetlc w
  | _ => .error .illegal

/-- The A-strand majors 0x00-0x2D (Table 06.5). `x` is the next word, the extension word of a long form. -/
def decodeA (sup : Bool) (w x : W32) : Dec :=
  match fMajor w with
  | 0x00 => decAlu w
  | 0x01 => ai .addi w
  | 0x02 => ai .andi w
  | 0x03 => ai .ori w
  | 0x04 => ai .xori w
  | 0x05 => aiShift .shli w
  | 0x06 => aiShift .shri w
  | 0x07 => aiShift .sari w
  | 0x08 => ai .slti w
  | 0x09 => ah .lih w
  | 0x0A => am .ldb w
  | 0x0B => am .ldbu w
  | 0x0C => am .ldh w
  | 0x0D => am .ldhu w
  | 0x0E => am .ldw w
  | 0x0F => am .ldwu w
  | 0x10 => am .ldd w
  | 0x11 => am .stb w
  | 0x12 => am .sth w
  | 0x13 => am .stw w
  | 0x14 => am .std w
  | 0x15 => aa .amo w
  | 0x16 => aa .amorr w
  | 0x17 => ao .ldacq w
  | 0x18 => ao .strel w
  | 0x19 => af .fence w
  | 0x1A => decSpm w
  | 0x1B => decVmem w
  | 0x1C => decQue w
  | 0x1D => decTask w
  | 0x1E => decSync w
  | 0x1F => decGram w
  | 0x20 => decMe w x
  | 0x21 => decCe w x
  | 0x22 => decSe w x
  | 0x23 => decGen w x
  | 0x24 => decSys sup w
  | 0x25 => ab .beq w
  | 0x26 => ab .bne w
  | 0x27 => ab .blt w
  | 0x28 => ab .bge w
  | 0x29 => ab .bltu w
  | 0x2A => ab .bgeu w
  | 0x2B => ah .jal w
  | 0x2C => ai .jalr w
  | 0x2D => aiLoop .loop w
  | _ => .error .illegal

/-- The X-strand majors 0x30-0x3D (Table 06.7). -/
def decodeX (w : W32) : Dec :=
  match fMajor w with
  | 0x30 => decVf32 w
  | 0x31 => decVf16 w
  | 0x32 => decVbf16 w
  | 0x33 => decVi32 w
  | 0x34 => decVintn w
  | 0x35 => decVlogic w
  | 0x36 => decVcmp w
  | 0x37 => decVmove w
  | 0x38 => xcCvt .vcvt w
  | 0x39 => decVq w
  | 0x3A => decVtr w
  | 0x3B => decVred w
  | 0x3C => decVpred w
  | 0x3D => decXctl w
  | _ => .error .illegal

/-- Majors that no strand assigns (Table 06.8, step 1). -/
def majorUnassigned (m : Nat) : Bool := m == 0x2E || m == 0x2F || m == 0x3E || m == 0x3F

/-- Decoding (R133, Table 06.8): unassigned major, wrong strand, then the strand's own tables. `sup` says that the
core is in supervisor mode; `x` is the word that follows, read only by a long form. -/
def decode (st : Strand) (sup : Bool) (w x : W32) : Dec :=
  if majorUnassigned (fMajor w) then .error .illegal
  else match st with
    | .a => if fMajor w < 0x30 then decodeA sup w x else .error .wrongStrand
    | .x => if fMajor w < 0x30 then .error .wrongStrand else decodeX w

/-- A word of a long-form function with L = 1: two words are fetched (R121). -/
def isLongWord (w : W32) : Bool :=
  fL w && match fMajor w with
    | 0x20 => fFn w == 2 || fFn w == 3 || fFn w == 4
    | 0x21 => fFn w == 0
    | 0x22 => fFn w == 0 || fFn w == 3
    | 0x23 => fFn w == 2
    | _ => false

/-- The strand whose words have this major (R120). -/
def strandOfMajor (m : Nat) : Strand := if m < 0x30 then .a else .x

/-- The host's question: what the decoder reads from an instruction whose bits are w (first word lowest), in
supervisor mode so that privileged rows decode. -/
def decodeTableWord (_nbits w : Nat) : Option Instr :=
  let w0 : W32 := .ofNat 32 w
  match decode (strandOfMajor (fMajor w0)) true w0 (.ofNat 32 (w / 2 ^ 32)) with
  | .ok i => some i
  | .error _ => none

/-! ### Encoding: the same layouts, written the other way -/

def Scope.code : Scope → BitVec 3
  | .core => 0#3 | .group => 1#3 | .die => 2#3 | .pkg => 3#3 | .sys => 4#3
def AmoOp.code : AmoOp → BitVec 4
  | .add => 0#4 | .and => 1#4 | .or => 2#4 | .xor => 3#4 | .smin => 4#4 | .smax => 5#4
  | .umin => 6#4 | .umax => 7#4 | .swap => 8#4 | .cas => 9#4
def Rmode.code : Rmode → BitVec 3
  | .rne => 0#3 | .rz => 1#3 | .ru => 2#3 | .rd => 3#3 | .rna => 4#3 | .sr => 5#3
def Elem.code : Elem → BitVec 4
  | .fp32 => 0#4 | .fp16 => 1#4 | .bf16 => 2#4 | .e4m3 => 3#4 | .e5m2 => 4#4 | .e3m2 => 5#4
  | .e2m3 => 6#4 | .e2m1 => 7#4 | .e2m1x => 8#4 | .int8 => 9#4 | .uint8 => 10#4 | .int4 => 11#4
  | .uint4 => 12#4 | .bin1 => 13#4
/-- Queue fields of the AV format (R125). -/
def sqField : Sq → Nat
  | .sq0 => 4 | .sq1 => 5 | .sq2 => 6
/-- A format code: the scaled bit above the element code (R71). -/
def fmtField (sc : Bool) (f : Elem) : Nat := sc.toNat * 16 + f.code.toNat

/-- Format AR (Table 06.2), L = 0. -/
def arW (maj : Nat) (d a b : BitVec 6) (fn : Nat) (e : Bool) : W32 :=
  .ofNat 32 (maj * 2 ^ 26 + d.toNat * 2 ^ 20 + a.toNat * 2 ^ 14 + b.toNat * 2 ^ 8 + fn * 4 + e.toNat * 2)
/-- Format AR with imm12 in [19:8]. -/
def arWI (maj : Nat) (d : BitVec 6) (i : BitVec 12) (fn : Nat) (e : Bool) : W32 :=
  .ofNat 32 (maj * 2 ^ 26 + d.toNat * 2 ^ 20 + i.toNat * 2 ^ 8 + fn * 4 + e.toNat * 2)
/-- imm12 of OCLAIM and ORELS (R215). -/
def oclaimImm (pair : Bool) (n : BitVec 3) : BitVec 12 := .ofNat 12 (pair.toNat * 8 + n.toNat)
/-- Format AR of a long form, L = 1. -/
def lgW (maj : Nat) (d a b : BitVec 6) (fn : Nat) (e : Bool) : W32 :=
  .ofNat 32 (maj * 2 ^ 26 + d.toNat * 2 ^ 20 + a.toNat * 2 ^ 14 + b.toNat * 2 ^ 8 + fn * 4 + e.toNat * 2 + 1)
/-- The extension word (Table 06.1). -/
def Ext.word (x : Ext) : W32 :=
  .ofNat 32 (x.stamp.toNat * 2 ^ 20 + x.prod.toNat * 2 ^ 15 + x.cona.toNat * 2 ^ 10 + x.conb.toNat * 2 ^ 5 + x.conc.toNat)
def aiW (maj : Nat) (d a : BitVec 6) (i : BitVec 13) : W32 :=
  .ofNat 32 (maj * 2 ^ 26 + d.toNat * 2 ^ 20 + a.toNat * 2 ^ 14 + i.toNat * 2)
def ahW (maj : Nat) (d : BitVec 6) (i : BitVec 19) : W32 :=
  .ofNat 32 (maj * 2 ^ 26 + d.toNat * 2 ^ 20 + i.toNat * 2)
def amW (maj : Nat) (d a : BitVec 6) (c : BitVec 4) (o : BitVec 9) : W32 :=
  .ofNat 32 (maj * 2 ^ 26 + d.toNat * 2 ^ 20 + a.toNat * 2 ^ 14 + c.toNat * 2 ^ 10 + o.toNat * 2)
def aoW (maj : Nat) (d a : BitVec 6) (c : BitVec 4) (sc : Scope) (o : BitVec 6) : W32 :=
  .ofNat 32 (maj * 2 ^ 26 + d.toNat * 2 ^ 20 + a.toNat * 2 ^ 14 + c.toNat * 2 ^ 10 + sc.code.toNat * 2 ^ 7 + o.toNat * 2)
def afW (maj : Nat) (m : BitVec 16) (sc : Scope) : W32 :=
  .ofNat 32 (maj * 2 ^ 26 + m.toNat * 2 ^ 10 + sc.code.toNat * 2 ^ 7)
def aaW (maj : Nat) (d a b : BitVec 6) (op : AmoOp) (sc : Scope) : W32 :=
  .ofNat 32 (maj * 2 ^ 26 + d.toNat * 2 ^ 20 + a.toNat * 2 ^ 14 + b.toNat * 2 ^ 8 + op.code.toNat * 2 ^ 4 + sc.code.toNat * 2)
/-- Format AB: a in [25:20], b in [19:14]. -/
def abW (maj : Nat) (a b : BitVec 6) (o : BitVec 13) : W32 :=
  .ofNat 32 (maj * 2 ^ 26 + a.toNat * 2 ^ 20 + b.toNat * 2 ^ 14 + o.toNat * 2)
def avW (queue mode : Nat) (a b : BitVec 6) (fn : Nat) (e : Bool) : W32 :=
  .ofNat 32 (0x1B * 2 ^ 26 + queue * 2 ^ 22 + mode * 2 ^ 20 + a.toNat * 2 ^ 14 + b.toNat * 2 ^ 8 + fn * 4 + e.toNat * 2)
/-- Format XV (Table 06.3). -/
def xvW (maj : Nat) (d a b : BitVec 6) (fn : Nat) (p : BitVec 4) (e : Bool) : W32 :=
  .ofNat 32 (maj * 2 ^ 26 + d.toNat * 2 ^ 20 + a.toNat * 2 ^ 14 + b.toNat * 2 ^ 8 + fn * 2 ^ 5 + p.toNat * 2 + e.toNat)
/-- Format XC (Table 06.3). -/
def xcW (maj : Nat) (d a : BitVec 6) (f1 f2 : Nat) (rm : BitVec 3) (e : Bool) : W32 :=
  .ofNat 32 (maj * 2 ^ 26 + d.toNat * 2 ^ 20 + a.toNat * 2 ^ 14 + f1 * 2 ^ 9 + f2 * 2 ^ 4 + rm.toNat * 2 + e.toNat)
/-- ACCRD and ACCWR (Table 06.4). -/
def xaW (v : BitVec 6) (c : BitVec 2) (r : BitVec 7) (fn : Nat) (p : BitVec 4) (e : Bool) : W32 :=
  .ofNat 32 (0x3D * 2 ^ 26 + v.toNat * 2 ^ 20 + c.toNat * 2 ^ 18 + r.toNat * 2 ^ 11 + fn * 2 ^ 5 + p.toNat * 2 + e.toNat)
/-- ACCZ (Table 06.4). -/
def xzW (m : BitVec 8) (c : BitVec 2) (e : Bool) : W32 :=
  .ofNat 32 (0x3D * 2 ^ 26 + m.toNat * 2 ^ 18 + c.toNat * 2 ^ 16 + 2 * 2 ^ 5 + e.toNat)
/-- XLOOP, XBR, XJ, XRDV (Table 06.4). -/
def xbW (o : BitVec 18) (fn : Nat) (p : BitVec 4) (e : Bool) : W32 :=
  .ofNat 32 (0x3D * 2 ^ 26 + o.toNat * 2 ^ 8 + fn * 2 ^ 5 + p.toNat * 2 + e.toNat)

/-- The words of a well-formed instruction; an event has none. -/
def encode : Instr → List W32
  | .add d a b e => [arW 0x0 d a b 0x0 e]
  | .sub d a b e => [arW 0x0 d a b 0x1 e]
  | .mul d a b e => [arW 0x0 d a b 0x2 e]
  | .mulh d a b e => [arW 0x0 d a b 0x3 e]
  | .mulhu d a b e => [arW 0x0 d a b 0x4 e]
  | .divu d a b e => [arW 0x0 d a b 0x5 e]
  | .remu d a b e => [arW 0x0 d a b 0x6 e]
  | .and d a b e => [arW 0x0 d a b 0x7 e]
  | .or d a b e => [arW 0x0 d a b 0x8 e]
  | .xor d a b e => [arW 0x0 d a b 0x9 e]
  | .andn d a b e => [arW 0x0 d a b 0xa e]
  | .orn d a b e => [arW 0x0 d a b 0xb e]
  | .shl d a b e => [arW 0x0 d a b 0xc e]
  | .shr d a b e => [arW 0x0 d a b 0xd e]
  | .sar d a b e => [arW 0x0 d a b 0xe e]
  | .rotr d a b e => [arW 0x0 d a b 0xf e]
  | .min d a b e => [arW 0x0 d a b 0x10 e]
  | .max d a b e => [arW 0x0 d a b 0x11 e]
  | .minu d a b e => [arW 0x0 d a b 0x12 e]
  | .maxu d a b e => [arW 0x0 d a b 0x13 e]
  | .slt d a b e => [arW 0x0 d a b 0x14 e]
  | .sltu d a b e => [arW 0x0 d a b 0x15 e]
  | .seq d a b e => [arW 0x0 d a b 0x16 e]
  | .sne d a b e => [arW 0x0 d a b 0x17 e]
  | .clz d a e => [arW 0x0 d a 0 0x18 e]
  | .ctz d a e => [arW 0x0 d a 0 0x19 e]
  | .popc d a e => [arW 0x0 d a 0 0x1a e]
  | .bfx d a b e => [arW 0x0 d a b 0x1b e]
  | .bfxu d a b e => [arW 0x0 d a b 0x1c e]
  | .bfi d a b e => [arW 0x0 d a b 0x1d e]
  | .selnz d a b e => [arW 0x0 d a b 0x1e e]
  | .addi d a i => [aiW 0x1 d a i]
  | .andi d a i => [aiW 0x2 d a i]
  | .ori d a i => [aiW 0x3 d a i]
  | .xori d a i => [aiW 0x4 d a i]
  | .shli d a c => [aiW 0x5 d a (c.setWidth 13)]
  | .shri d a c => [aiW 0x6 d a (c.setWidth 13)]
  | .sari d a c => [aiW 0x7 d a (c.setWidth 13)]
  | .slti d a i => [aiW 0x8 d a i]
  | .lih d i => [ahW 0x9 d i]
  | .ldb d a c o => [amW 0xa d a c o]
  | .ldbu d a c o => [amW 0xb d a c o]
  | .ldh d a c o => [amW 0xc d a c o]
  | .ldhu d a c o => [amW 0xd d a c o]
  | .ldw d a c o => [amW 0xe d a c o]
  | .ldwu d a c o => [amW 0xf d a c o]
  | .ldd d a c o => [amW 0x10 d a c o]
  | .stb d a c o => [amW 0x11 d a c o]
  | .sth d a c o => [amW 0x12 d a c o]
  | .stw d a c o => [amW 0x13 d a c o]
  | .std d a c o => [amW 0x14 d a c o]
  | .amo d a b op sc => [aaW 0x15 d a b op sc]
  | .amorr d a b op sc => [aaW 0x16 d a b op sc]
  | .ldacq d a c sc o => [aoW 0x17 d a c sc o]
  | .strel d a c sc o => [aoW 0x18 d a c sc o]
  | .fence m sc => [afW 0x19 m sc]
  | .spldb d a b e => [arW 0x1a d a b 0x0 e]
  | .spldh d a b e => [arW 0x1a d a b 0x1 e]
  | .spldw d a b e => [arW 0x1a d a b 0x2 e]
  | .spldd d a b e => [arW 0x1a d a b 0x3 e]
  | .spstb d a b e => [arW 0x1a d a b 0x4 e]
  | .spsth d a b e => [arW 0x1a d a b 0x5 e]
  | .spstw d a b e => [arW 0x1a d a b 0x6 e]
  | .spstd d a b e => [arW 0x1a d a b 0x7 e]
  | .spmarkf a b e => [arW 0x1a 0 a b 0x8 e]
  | .spmarke a b e => [arW 0x1a 0 a b 0x9 e]
  | .sptestf d a b e => [arW 0x1a d a b 0xa e]
  | .vld q a b e => [avW q.toNat 0 a b 0x0 e]
  | .vldDec q a b e => [avW q.toNat 1 a b 0x0 e]
  | .vldf q a b e => [avW q.toNat 0 a b 0x1 e]
  | .vldfc q a b e => [avW q.toNat 0 a b 0x2 e]
  | .vst q a b e => [avW (sqField q) 0 a b 0x3 e]
  | .vstf q a b e => [avW (sqField q) 0 a b 0x4 e]
  | .vgth q a m e => [avW q.toNat 0 a (m.setWidth 6) 0x5 e]
  | .vsct q a m e => [avW (sqField q) 0 a (m.setWidth 6) 0x6 e]
  | .vldg q a b e => [avW q.toNat 0 a b 0x7 e]
  | .vstg q a b e => [avW (sqField q) 0 a b 0x8 e]
  | .qbind d a e => [arW 0x1c d a 0 0x0 e]
  | .qunbind d e => [arW 0x1c d 0 0 0x1 e]
  | .qwait d a e => [arW 0x1c d a 0 0x2 e]
  | .qstat d a e => [arW 0x1c d a 0 0x3 e]
  | .lrpatch d a b e => [arW 0x1d d a b 0x0 e]
  | .lrarm a e => [arW 0x1d 0 a 0 0x1 e]
  | .lrstat d a b e => [arW 0x1d d a b 0x2 e]
  | .jdec a e => [arW 0x1d 0 a 0 0x3 e]
  | .tself d e => [arW 0x1d d 0 0 0x5 e]
  | .gbar d a e => [arW 0x1e d a 0 0x0 e]
  | .garr d e => [arW 0x1e d 0 0 0x1 e]
  | .gwait d a e => [arW 0x1e d a 0 0x2 e]
  | .gpeer d a e => [arW 0x1e d a 0 0x3 e]
  | .finc d a e => [arW 0x1e d a 0 0x4 e]
  | .fwait d a b e => [arW 0x1e d a b 0x5 e]
  | .frd d a e => [arW 0x1e d a 0 0x6 e]
  | .fclr d e => [arW 0x1e d 0 0 0x7 e]
  | .twait d a e => [arW 0x1e d a 0 0x8 e]
  | .ttest d a e => [arW 0x1e d a 0 0x9 e]
  | .fork a e => [arW 0x1e 0 a 0 0xa e]
  | .slip i e => [arWI 0x1e 0 i 0xc e]
  | .frame a e => [arW 0x1e 0 a 0 0xd e]
  | .gpush a e => [arW 0x1f 0 a 0 0x0 e]
  | .gpop d e => [arW 0x1f d 0 0 0x1 e]
  | .gtop d e => [arW 0x1f d 0 0 0x2 e]
  | .gdepth d e => [arW 0x1f d 0 0 0x3 e]
  | .maskf d a b e => [arW 0x1f d a b 0x5 e]
  | .mxw d i e => [arWI 0x20 d i 0x0 e]
  | .mxr d i e => [arWI 0x20 d i 0x1 e]
  | .meMode a b e x => [lgW 0x20 0 a b 0x3 e, x.word]
  | .meMsk a e x => [lgW 0x20 0 a 0 0x4 e, x.word]
  | .oclaim pair n e => [arWI 0x20 0 (oclaimImm pair n) 0x5 e]
  | .orels n e => [arWI 0x20 0 (oclaimImm false n) 0x6 e]
  | .ostat d e => [arW 0x20 d 0 0 0x7 e]
  | .ceGo d a e x => [lgW 0x21 d a 0 0x0 e, x.word]
  | .ceAbort d e => [arW 0x21 d 0 0 0x1 e]
  | .ceStat d a e => [arW 0x21 d a 0 0x2 e]
  | .seIns a b e x => [lgW 0x22 0 a b 0x0 e, x.word]
  | .seDel a e => [arW 0x22 0 a 0 0x1 e]
  | .seAge a b e => [arW 0x22 0 a b 0x2 e]
  | .seSel a e x => [lgW 0x22 0 a 0 0x3 e, x.word]
  | .seCnt d a e => [arW 0x22 d a 0 0x4 e]
  | .seQuota d a e => [arW 0x22 d a 0 0x5 e]
  | .spermit d a e => [arW 0x23 d a 0 0x0 e]
  | .spret a e => [arW 0x23 0 a 0 0x1 e]
  | .fltarm d a e x => [lgW 0x23 d a 0 0x2 e, x.word]
  | .fltclose d e => [arW 0x23 d 0 0 0x3 e]
  | .trap i e => [arWI 0x24 0 i 0x1 e]
  | .scall i e => [arWI 0x24 0 i 0x3 e]
  | .rdctl d i e => [arWI 0x24 d i 0x4 e]
  | .wrctl d i e => [arWI 0x24 d i 0x5 e]
  | .iflush a b e => [arW 0x24 0 a b 0x7 e]
  | .srdctl d i e => [arWI 0x24 d i 0x9 e]
  | .swrctl d i e => [arWI 0x24 d i 0xa e]
  | .tlbinv a b e => [arW 0x24 0 a b 0xb e]
  | .sespall a e => [arW 0x24 0 a 0 0xc e]
  | .snapt d a e => [arW 0x24 d a 0 0xd e]
  | .corestop d a e => [arW 0x24 d a 0 0xe e]
  | .beq a b o => [abW 0x25 a b o]
  | .bne a b o => [abW 0x26 a b o]
  | .blt a b o => [abW 0x27 a b o]
  | .bge a b o => [abW 0x28 a b o]
  | .bltu a b o => [abW 0x29 a b o]
  | .bgeu a b o => [abW 0x2a a b o]
  | .jal d o => [ahW 0x2B d o]
  | .jalr d a i => [aiW 0x2C d a i]
  | .loop d o => [aiW 0x2D d 0 o]
  | .vaddF32 d a b p e => [xvW 0x30 d a b 0x0 p e]
  | .vsubF32 d a b p e => [xvW 0x30 d a b 0x1 p e]
  | .vmulF32 d a b p e => [xvW 0x30 d a b 0x2 p e]
  | .vminF32 d a b p e => [xvW 0x30 d a b 0x3 p e]
  | .vmaxF32 d a b p e => [xvW 0x30 d a b 0x4 p e]
  | .vfmaF32 d a b p e => [xvW 0x30 d a b 0x5 p e]
  | .vfnmaF32 d a b p e => [xvW 0x30 d a b 0x6 p e]
  | .vcpsgnF32 d a b p e => [xvW 0x30 d a b 0x7 p e]
  | .vaddF16 d a b p e => [xvW 0x31 d a b 0x0 p e]
  | .vsubF16 d a b p e => [xvW 0x31 d a b 0x1 p e]
  | .vmulF16 d a b p e => [xvW 0x31 d a b 0x2 p e]
  | .vminF16 d a b p e => [xvW 0x31 d a b 0x3 p e]
  | .vmaxF16 d a b p e => [xvW 0x31 d a b 0x4 p e]
  | .vfmaF16 d a b p e => [xvW 0x31 d a b 0x5 p e]
  | .vfnmaF16 d a b p e => [xvW 0x31 d a b 0x6 p e]
  | .vcpsgnF16 d a b p e => [xvW 0x31 d a b 0x7 p e]
  | .vaddBF16 d a b p e => [xvW 0x32 d a b 0x0 p e]
  | .vsubBF16 d a b p e => [xvW 0x32 d a b 0x1 p e]
  | .vmulBF16 d a b p e => [xvW 0x32 d a b 0x2 p e]
  | .vminBF16 d a b p e => [xvW 0x32 d a b 0x3 p e]
  | .vmaxBF16 d a b p e => [xvW 0x32 d a b 0x4 p e]
  | .vfmaBF16 d a b p e => [xvW 0x32 d a b 0x5 p e]
  | .vfnmaBF16 d a b p e => [xvW 0x32 d a b 0x6 p e]
  | .vcpsgnBF16 d a b p e => [xvW 0x32 d a b 0x7 p e]
  | .vaddI32 d a b p e => [xvW 0x33 d a b 0x0 p e]
  | .vsubI32 d a b p e => [xvW 0x33 d a b 0x1 p e]
  | .vmulI32 d a b p e => [xvW 0x33 d a b 0x2 p e]
  | .vmulhI32 d a b p e => [xvW 0x33 d a b 0x3 p e]
  | .vminI32 d a b p e => [xvW 0x33 d a b 0x4 p e]
  | .vmaxI32 d a b p e => [xvW 0x33 d a b 0x5 p e]
  | .vminUI32 d a b p e => [xvW 0x33 d a b 0x6 p e]
  | .vmaxUI32 d a b p e => [xvW 0x33 d a b 0x7 p e]
  | .vaddI16 d a b p e => [xvW 0x34 d a b 0x0 p e]
  | .vsubI16 d a b p e => [xvW 0x34 d a b 0x1 p e]
  | .vaddsI16 d a b p e => [xvW 0x34 d a b 0x2 p e]
  | .vsubsI16 d a b p e => [xvW 0x34 d a b 0x3 p e]
  | .vaddI8 d a b p e => [xvW 0x34 d a b 0x4 p e]
  | .vsubI8 d a b p e => [xvW 0x34 d a b 0x5 p e]
  | .vaddsI8 d a b p e => [xvW 0x34 d a b 0x6 p e]
  | .vsubsI8 d a b p e => [xvW 0x34 d a b 0x7 p e]
  | .vand d a b p e => [xvW 0x35 d a b 0x0 p e]
  | .vor d a b p e => [xvW 0x35 d a b 0x1 p e]
  | .vxor d a b p e => [xvW 0x35 d a b 0x2 p e]
  | .vandn d a b p e => [xvW 0x35 d a b 0x3 p e]
  | .vshl d a b p e => [xvW 0x35 d a b 0x4 p e]
  | .vshr d a b p e => [xvW 0x35 d a b 0x5 p e]
  | .vsar d a b p e => [xvW 0x35 d a b 0x6 p e]
  | .vnot d a p e => [xvW 0x35 d a 0 0x7 p e]
  | .veqF32 d a b p e => [xvW 0x36 (d.setWidth 6) a b 0x0 p e]
  | .vltF32 d a b p e => [xvW 0x36 (d.setWidth 6) a b 0x1 p e]
  | .vleF32 d a b p e => [xvW 0x36 (d.setWidth 6) a b 0x2 p e]
  | .vunF32 d a b p e => [xvW 0x36 (d.setWidth 6) a b 0x3 p e]
  | .veqI32 d a b p e => [xvW 0x36 (d.setWidth 6) a b 0x4 p e]
  | .vltI32 d a b p e => [xvW 0x36 (d.setWidth 6) a b 0x5 p e]
  | .vltUI32 d a b p e => [xvW 0x36 (d.setWidth 6) a b 0x6 p e]
  | .vneI32 d a b p e => [xvW 0x36 (d.setWidth 6) a b 0x7 p e]
  | .vsel d a b p e => [xvW 0x37 d a b 0x0 p e]
  | .vmov d a p e => [xvW 0x37 d a 0 0x1 p e]
  | .vbcl d a b p e => [xvW 0x37 d a b 0x2 p e]
  | .vperm d a b p e => [xvW 0x37 d a b 0x3 p e]
  | .vslup d a b p e => [xvW 0x37 d a b 0x4 p e]
  | .vsldn d a b p e => [xvW 0x37 d a b 0x5 p e]
  | .vtoa a e => [xvW 0x37 0 a 0 0x6 0 e]
  | .vrand d a p e => [xvW 0x37 d a 0 0x7 p e]
  | .vcvt d a sat t u r e => [xcW 0x38 d a (fmtField sat t) (fmtField false u) r.code e]
  | .vqnt d a f r e => [xcW 0x39 d a (fmtField true f) 0 r.code e]
  | .vdqnt d a f e => [xcW 0x39 d a (fmtField true f) 4 0 e]
  | .vpack d a f e => [xcW 0x39 d a (fmtField false f) 8 0 e]
  | .vunpk d a f e => [xcW 0x39 d a (fmtField false f) 12 0 e]
  | .vsgn d a e => [xcW 0x39 d a 0 16 0 e]
  | .vham d a e => [xcW 0x39 d a 0 20 0 e]
  | .vexp2 d a p e => [xvW 0x3a d a 0 0x0 p e]
  | .vlog2 d a p e => [xvW 0x3a d a 0 0x1 p e]
  | .vrcp d a p e => [xvW 0x3a d a 0 0x2 p e]
  | .vrsq d a p e => [xvW 0x3a d a 0 0x3 p e]
  | .vsqrt d a p e => [xvW 0x3a d a 0 0x4 p e]
  | .vdiv d a b p e => [xvW 0x3a d a b 0x5 p e]
  | .vrsumF32 d a p e => [xvW 0x3b d a 0 0x0 p e]
  | .vrmaxF32 d a p e => [xvW 0x3b d a 0 0x1 p e]
  | .vrminF32 d a p e => [xvW 0x3b d a 0 0x2 p e]
  | .vrmaxiF32 d a p e => [xvW 0x3b d a 0 0x3 p e]
  | .vrminiF32 d a p e => [xvW 0x3b d a 0 0x4 p e]
  | .vrsumI32 d a p e => [xvW 0x3b d a 0 0x5 p e]
  | .vrmaxI32 d a p e => [xvW 0x3b d a 0 0x6 p e]
  | .vrmaxiI32 d a p e => [xvW 0x3b d a 0 0x7 p e]
  | .pand d a b e => [xvW 0x3C (d.setWidth 6) (a.setWidth 6) (b.setWidth 6) 0x0 0 e]
  | .por d a b e => [xvW 0x3C (d.setWidth 6) (a.setWidth 6) (b.setWidth 6) 0x1 0 e]
  | .pxor d a b e => [xvW 0x3C (d.setWidth 6) (a.setWidth 6) (b.setWidth 6) 0x2 0 e]
  | .pnot d a e => [xvW 0x3C (d.setWidth 6) (a.setWidth 6) 0 0x3 0 e]
  | .ppopc d a e => [xvW 0x3C d (a.setWidth 6) 0 0x4 0 e]
  | .pffs d a e => [xvW 0x3C d (a.setWidth 6) 0 0x5 0 e]
  | .pmov d a e => [xvW 0x3C (d.setWidth 6) (a.setWidth 6) 0 0x6 0 e]
  | .vfromp d a e => [xvW 0x3C d (a.setWidth 6) 0 0x7 0 e]
  | .accrd d c r p e => [xaW d c r 0x0 p e]
  | .accwr a c r p e => [xaW a c r 0x1 p e]
  | .accz m c e => [xzW m c e]
  | .xloop o e => [xbW o 0x3 0 e]
  | .xbr o p e => [xbW o 0x4 p e]
  | .xj o e => [xbW o 0x5 0 e]
  | .xsetlc a e => [xvW 0x3D 0 a 0 0x7 0 e]
  | .endTask  => [arW 0x1d 0 0 0 0x4 false]
  | .rdv  => [arW 0x1e 0 0 0 0xb false]
  | .gclr  => [arW 0x1f 0 0 0 0x4 false]
  | .meGo  => [lgW 0x20 0 0 0 0x2 false, 0xFFF00000#32]
  | .nop  => [arW 0x24 0 0 0 0x0 false]
  | .tret  => [arW 0x24 0 0 0 0x2 false]
  | .isync  => [arW 0x24 0 0 0 0x6 false]
  | .sret  => [arW 0x24 0 0 0 0x8 false]
  | .xrdv  => [xbW 0 0x6 0 false]
  | .taskDispatch => []
  | .gangStart => []
  | .stageTaskStart => []
  | .taskRestore => []
  | .backgroundFill => []
  | .endCommit => []
  | .gangCommit => []
  | .stallRelease => []
  | .loadReturn => []
  | .amorrReturn => []
  | .gatherScatterLane => []
  | .xTrapTake => []
  | .faultRecordWrite => []
  | .taskTimeout => []
  | .qtimeout => []
  | .fwaitTimeout => []
  | .twaitTimeout => []
  | .gwaitTimeout => []
  | .stampIssue => []
  | .stampOverrun => []
  | .pageWalk => []
  | .meCommandStart => []
  | .meTileStep => []
  | .ceChainStart => []
  | .ceRecord => []
  | .seCommandRun => []
  | .filterResult => []
  | .tierPageIn => []
  | .tierPageOut => []
  | .weirInterval => []
  | .breezeTokenPass => []
  | .breezeForcedPass => []
  | .capLevelRaise => []
  | .capLevelLower => []
  | .thermalCap => []
  | .thermalShutdown => []
  | .preemptStop => []
  | .saveImageWrite => []
  | .exportBlockWrite => []
  | .supervisorEvent => []
  | .supervisorFault => []
  | .memoryErrorReport => []
  | .onChipError => []
  | .scrub => []
  | .ccmdResume => []
  | .ccmdAbandon => []
  | .ccmdSave => []
  | .ccmdReturn => []
  | .lrBuild => []
  | .lrUnbuild => []
  | .lrDrain => []
  | .queueOpen => []
  | .queueClose => []
  | .evSuspend => []
  | .evResume => []
  | .evExport => []
  | .evImport => []
  | .ctxCreate => []
  | .ctxDestroy => []
  | .groupBuild => []
  | .groupUnbuild => []
  | .registerWrite => []
  | .slbaseWrite => []
  | .enable => []
  | .disable => []
  | .vload => []
  | .vunload => []
  | .prune => []
  | .packetReceive => []
  | .requestReceive => []
  | .acceptReply => []
  | .admission => []
  | .outputEntryPop => []
  | .relqPush => []
  | .hsemAcquire => []
  | .hsemRelease => []
  | .fwload => []
  | .bringupTraining => []
  | .setup => []
  | .teardown => []
  | .warmreset => []
  | .coldReset => []
  | .perstWarmReset => []
  | .cxlLinkDown => []
  | .snapFire => []
  | .snapLockFree => []
  | .snapPinEdge => []
  | .hostMemoryWrite => []
  | .hostMemoryRead => []
  | .lossOfPower => []
  | .singleDieOrStackFailure => []

end Sys2Proof
end

