-- ==== Sys2Proof/Machine/State.lean ====
section
/-! DEFINITION. The machine state as plain data: every piece of state the spec gives the machine, the model's own
agenda and free-value counter, and the state after reset. -/
namespace Sys2Proof.Machine

/-- Bytes at addresses, strictly rising, none equal to what an unlisted address reads as (0, log 2). -/
abbrev Mem := List Host.Cell

/-! ### Stops -/

/-- Why a step stops. Each is raised only where the spec leaves behaviour undefined and gives no effect among its
choices; all are safe: nothing is claimed of a run beyond one. -/
inductive Fault
  | unmirrored  -- a base die fails that holds a partition's unmirrored queue logic (R312, R344): safe
  deriving DecidableEq, Repr

/-- Why the model gives no meaning. -/
inductive Refusal
  | notModelled (mnemonic : String)  -- an instruction without its meaning yet: raised by its arm of exec; safe
  deriving DecidableEq, Repr

/-! ### A task -/

/-- A continuation record (R12, Table 01.1). -/
structure Cont where
  code : Word := 0
  frame : Word := 0
  join : W32 := 0
  ctx : BitVec 16 := 0
  prio : BitVec 2 := 0
  replay : Bool := false
  nonreplay : Bool := false
  det : Bool := false
  gvalid : BitVec 4 := 0
  gids : BitVec 32 := 0
  live : BitVec 13 := 0
  spill : BitVec 10 := 0
  wdog : BitVec 5 := 0
  deriving DecidableEq, Repr

/-- What a core knows of its task: the continuation record and what the launch record adds (R15, R52). -/
structure TaskInfo where
  cont : Cont := {}
  lrec : BitVec 12 := 0
  rank : BitVec 8 := 0
  size : BitVec 8 := 1
  argp : Word := 0
  args : List Word := []
  stage : Option (BitVec 4) := none
  splitok : Bool := false
  gang : Option (BitVec 8) := none   -- group id of the gang's own group
  slot : BitVec 10 := 0              -- save slot (R334)
  deriving DecidableEq, Repr

/-! ### A core -/

/-- What a strand waits for (R24, R36, R37, R42, R43, R154-R157, R166-R173, R211, R227, R235, R244). -/
inductive Wait
  | reg (r : Reg)                    -- an empty scalar register
  | pop (q : BitVec 3)               -- a port read of an empty queue
  | push (q : BitVec 3)              -- a port write to a full queue
  | lq (q : BitVec 2)                -- a load queue at its limit
  | sq (q : Sq)                      -- an empty store queue
  | iq                               -- an empty index queue
  | full (line : BitVec 12)          -- four full lines (VLDF, VLDFC)
  | emptyLines (line : BitVec 12)    -- four empty lines (VSTF)
  | cb (n : BitVec 3)                -- a bitmap of an incomplete gather or scatter
  | handoff (q : BitVec 2)           -- the pop of a handed-off entry (R154)
  | me                               -- two accepted ME commands
  | ce (ch : BitVec 2)               -- two accepted chains
  | se                               -- four accepted SE commands
  | rdv                              -- the X-strand idle (RDV, FORK)
  | endTask                          -- the first step of END (R21)
  | gang                             -- END: the other members (R32)
  | qwait (q : BitVec 3) (limit : Word)
  | fwait (f : BitVec 6) (thr : W32) (limit : Word)
  | twait (t : BitVec 5) (limit : Word)
  | gwait (g : BitVec 2) (limit : Word)
  | garr (g : BitVec 2)
  | scall
  | page (va : Word)                 -- a CXL page being paged in (Table 03.2)
  | filter (w : BitVec 2)            -- FLTCLOSE
  | stamp                            -- an issue stamp (R320)
  | toks                             -- FLTARM: a consumed token is PENDING (R110)
  | vpop (q : BitVec 2)              -- X-strand pop of an empty load queue
  | vpush (q : Sq)                   -- X-strand push to a full store queue
  | ipush                            -- X-strand push to a full IQ
  | xpush                            -- X-strand push to a full XQ
  | acc (granule : BitVec 5)         -- a granule in use (R43)
  | core (c : CoreId)                -- CORESTOP: a core whose task is being saved (R292)
  deriving DecidableEq, Repr

/-- A value on its way to an empty register (R36). -/
structure PendLoad where
  reg : Reg
  val : Word
  bad : Option Word := none   -- the poisoned line's virtual address
  pc : Word
  deriving DecidableEq, Repr

/-- A register holding poisoned data (R36, R150). -/
structure PoisonReg where
  reg : Reg
  line : Word
  pc : Word
  deriving DecidableEq, Repr

/-- The A-strand (R17, R35-R37, R58, R166, R172, R173, R242, R320). -/
structure AStrand where
  pc : Word := 0
  s : Tbl Word := []             -- s1-s47, s56-s63
  empty : BitVec 64 := 0         -- bit n: register n is empty
  pend : List PendLoad := []     -- oldest first
  bad : List PoisonReg := []
  inTrap : Bool := false
  wait : Option Wait := none
  waitClk : Nat := 0             -- clk spent in this wait (R170)
  dog : Nat := 0                 -- watchdog counter (R24)
  ir : W32 := 0                  -- the instruction word last fetched
  ext : W32 := 0                 -- its extension word (R122)
  ports : Tbl Word := []         -- q0-q6: descriptors of bound ports (Table 07.5)
  gbar : Option Word := none     -- PC of a GBAR past its arrival (R166)
  handoff : Option (BitVec 2 × Word) := none  -- queue and PC of a push whose entry awaits its pop (R154)
  begun : List Word := []        -- operands popped by an atomic that waits for a page (R37, R150)
  scall : Option Word := none    -- PC of the SCALL whose call is outstanding (R173)
  peer : Option CoreId := none   -- the choice of the last GPEER (R58)
  peerGroup : BitVec 8 := 0      -- the PEER group it was made through (R31)
  phase : Tbl Nat := []          -- barrier phase number per slot (R166)
  permits : BitVec 5 := 0        -- permits held (R242)
  late : Bool := false           -- the stamped long form it waits in has stood past its stamp's tick (R320)
  missed : Option Word := none   -- PC of a long form whose STAMP_OVERRUN has been taken: it waits for the next frame (R320)
  deriving DecidableEq, Repr

/-- The X-strand's run state; a hold is the core's (R17, R178, R299). -/
inductive XRun
  | idle | running
  deriving DecidableEq, Repr

/-- The X-strand (R17, R39-R41, R178). -/
structure XStrand where
  run : XRun := .idle
  pc : Word := 0
  v : Tbl VReg := []             -- v0-v55, physical numbers
  p : Tbl PReg := []             -- p1-p15, physical numbers
  vrb : BitVec 5 := 0
  prb : BitVec 3 := 0
  lc : W32 := 0
  wait : Option Wait := none
  dog : Nat := 0
  ir : W32 := 0
  trap : Option (BitVec 6) := none  -- a REG_EMPTY that holds the strand, and its register (R178)
  taken : Bool := false          -- the A-strand is handling that trap (R178)
  deriving DecidableEq, Repr

/-- A load-queue entry (R38, R158): `gather` names the bitmap of a gather still filling it. -/
structure LqEnt where
  data : VReg
  bad : Option Word := none
  gather : Option (BitVec 3) := none
  deriving DecidableEq, Repr

/-- A store-queue entry: data and byte enables. -/
structure SqEnt where
  data : VReg
  en : PReg
  deriving DecidableEq, Repr

/-- An IQ entry: indices and lane mask. -/
structure IqEnt where
  idx : VReg
  mask : BitVec 128
  deriving DecidableEq, Repr

/-- The inter-strand queues, head first (R38, Table 02.1). -/
structure Queues where
  lq : Tbl (List LqEnt) := []
  sq : Tbl (List SqEnt) := []
  iq : List IqEnt := []
  xq : List Word := []
  deriving DecidableEq, Repr

/-- A gather or scatter in flight under a bitmap (R157, R331): the popped entries are held here. -/
structure Gs where
  base : Word
  scatter : Bool
  lq : BitVec 2
  sq : Sq
  iq : IqEnt
  data : SqEnt     -- a scatter's popped entry
  pc : Word
  deriving DecidableEq, Repr

/-- User control registers that are not computed from the task (Table 02.4). -/
structure Ctl where
  mode : Rmode := .rne           -- RNDM.MODE
  flags : BitVec 6 := 0          -- RNDM[13:8]: NV DZ OF UF NX SAT from bit 0
  recent : BitVec 6 := 0         -- the flags raised in this clk (R51); the model's own
  fc : BitVec 12 := 0
  fcSub : BitVec 4 := 0          -- clk within the tick (R319)
  flen : BitVec 12 := 0
  spovf : Word := 0
  tvec : Word := 0
  tcause : BitVec 8 := 0
  tinfo0 : Word := 0
  tinfo1 : Word := 0
  tinfo2 : Word := 0
  tinfo3 : Word := 0
  tpc : Word := 0
  rngseed : Word := 0
  slipd : BitVec 3 := 0
  sequota : BitVec 13 := 0
  cycle : Word := 0
  retired : Word := 0
  deriving DecidableEq, Repr

/-- Dependence-token states (R46). -/
inductive TokSt
  | idle | pending | done | faulted
  deriving DecidableEq, Repr

/-- A dependence token. -/
structure Tok where
  st : TokSt := .idle
  sub : BitVec 8 := 0
  deriving DecidableEq, Repr

/-- Operand-slot states (R44). -/
inductive SlotSt
  | free | claimed | full | inUse
  deriving DecidableEq, Repr

/-- An operand slot (R44, R65, R68, R91, R215, R223, R382). The even slot of an FP32 pair holds the data of both. -/
structure Slot where
  st : SlotSt := .free
  pairEven : Bool := false
  pairOdd : Bool := false
  defer : Bool := false          -- a deferred ORELS
  after : List W32 := []         -- the nests that it waits for, by their ME.GO count (R215)
  fmt : BitVec 5 := 0
  rlog : BitVec 3 := 0
  clog : BitVec 3 := 0
  codes : List Byte := []        -- the tile's stored codes
  rowSc : List (BitVec 16) := [] -- row-scale entries
  colSc : List Byte := []        -- column-scale entries
  sums : List (Bool × Bool) := [] -- Z and S of each chunk of each row, then of each column (R91)
  src : Word := 0                -- source address and descriptor of the fill (R382)
  desc : BitVec 24 := 0
  bad : Bool := false            -- a parity error awaits its replay (R382)
  deriving DecidableEq, Repr

/-- The tokens an engine command was accepted with: its extension word, and its produce token as it stood before it
turned PENDING (R122). -/
structure Toks where
  ext : Ext
  pre : Tok := {}
  deriving DecidableEq, Repr

/-- What an ME command does (R211-R214). -/
inductive MeOp
  | go (regs : List Word) (no : W32)    -- latched registers 0-7 and the ME.GO count at issue (R80)
  | mode (m : Rmode) (seed : Word)
  | msk (addr : BitVec 19)
  deriving DecidableEq, Repr

/-- An accepted ME command and its tokens. -/
structure MeCmd where
  op : MeOp
  tok : Toks
  split : Nat := 0      -- number of the SPLIT nest on this task (R216)
  deriving DecidableEq, Repr

/-- Progress of the nest in flight (R206, R218). -/
structure MeRun where
  ix : List Nat := []            -- next index vector, i0 first
  steps : W32 := 0
  checked : Bool := false        -- its first step has run, with its pair check (R213)
  claimed : Option Nat := none   -- SPLIT: the index claimed and not yet run
  last : Option (BitVec 3 × BitVec 3 × BitVec 2) := none  -- slots and accumulator of the last step
  exits : Nat := 0               -- levels that exit after the last step, 0 once all are handled
  exited : Nat := 0              -- the next of them to handle (R208, R218)
  walked : Bool := false         -- the walk has ended
  drained : Nat := 0             -- granules drained (R209, R218)
  flags : BitVec 6 := 0          -- flags raised so far (R210)
  deriving DecidableEq, Repr

/-- The matrix engine (R203-R218). -/
structure Me where
  shadow : Tbl Word := []
  cmds : List MeCmd := []        -- at most two, oldest first
  run : Option MeRun := none
  mode : Rmode := .rne
  seed : Word := 0
  goes : W32 := 0
  splits : Nat := 0              -- SPLIT nests issued since task start (R216)
  deriving DecidableEq, Repr

/-- A chain of transfer records (R227). -/
structure Chain where
  first : Word
  tok : Toks
  deriving DecidableEq, Repr

/-- A copy-engine channel (R226-R229). -/
structure Chan where
  held : List Chain := []        -- at most two, oldest first
  running : Bool := false
  next : Word := 0               -- address of the next record of the running chain
  last : Word := 0               -- record in progress or last ended; 0: none
  miss : Bool := false
  fault : Bool := false
  elem : Nat := 0                -- BATCH-ATOMIC elements performed by the record in flight
  busy : Bool := false           -- a record has begun and waits: a page-in, a granule, a TIERREQ entry
  abort : Bool := false          -- CE.ABORT: the chain stops as that record ends (R228)
  deriving DecidableEq, Repr

/-- What an SE command does (R235). -/
inductive SeOp
  | ins (addr : BitVec 19) (tag : BitVec 10) (page : W32)
  | del (tag : BitVec 10) (page : W32) (all : Bool)
  | age (addr : BitVec 19) (tag : BitVec 10)
  | sel (addr : BitVec 19)
  | cnt (reg : Reg) (tag : BitVec 10) (pc : Word)
  | quota
  deriving DecidableEq, Repr

/-- An accepted SE command and its tokens. -/
structure SeCmd where
  op : SeOp
  tok : Toks
  deriving DecidableEq, Repr

/-- An open logit-filter window (R243, R244). -/
structure Window where
  desc : BitVec 512
  frames : List (Nat × Nat)      -- 64 KiB virtual unit and the physical frame bound at FLTARM (R351)
  closing : Bool := false
  done : BitVec 64 := 0          -- rows whose result block is written
  deriving DecidableEq, Repr

/-- Engine-owned arrays and engines of a core (R43-R49). -/
structure Eng where
  acc : Tbl VReg := []           -- key 128 x + row: a row of 128 32-bit elements
  dirty : BitVec 32 := 0         -- bit 8 x + g
  slot : Tbl Slot := []
  mask : Tbl (BitVec 128) := []
  tok : Tbl Tok := []
  flag : Tbl W32 := []
  cb : Tbl (BitVec 128) := []
  gs : Tbl Gs := []
  gstk : List (BitVec 16) := []  -- top first (R49)
  me : Me := {}
  ce : Tbl Chan := []
  se : List SeCmd := []          -- at most four, oldest first
  win : Tbl Window := []
  treq : List (Word × BitVec 6) := []  -- TIERREQ with INC outstanding: 64 KiB unit address, flag (R336)
  deriving DecidableEq, Repr

/-- The scratchpad (R55-R57, R381). -/
structure Spm where
  mem : Mem := []
  full : BitVec 4096 := 0
  bad : List Nat := []           -- uncorrectable 8-byte words
  deriving DecidableEq, Repr

/-- A TLB entry (R350): tagged with context and page size. -/
structure TlbEnt where
  ctx : BitVec 16
  big : Bool
  vpn : Nat                      -- va / 64 KiB or va / 512 MiB
  pte : BitVec 128
  deriving DecidableEq, Repr

/-- What a core runs (R10, R284). -/
inductive Occ
  | idle | supervisor | task
  deriving DecidableEq, Repr

/-- Why a task is held (R299, R304, R33): a fault of its own that its record names, an escalated trap, the stop of its
gang, or that stop with a fault of its own (R303, state 3). -/
inductive HoldKind
  | fault | escalated | gangStop | also
  deriving DecidableEq, Repr

/-- A held task: its kind, the code, and the strand that raised it; for a fault, the clk in which it was taken, the
strands that may still begin one instruction in that clk before they stand at the boundary at which they stop, and
whether the A-strand stands at an atomic that it had begun and that faulted after that; and the poison or the error that
its record has taken, which returns where a lower rank of the same clk becomes the faulted member (R303). -/
structure Hold where
  kind : HoldKind
  code : BitVec 8
  strand : Strand
  clk : Nat := 0
  left : List Strand := []
  stands : Bool := false
  regs : List PoisonReg := []
  err : Option (BitVec 8) := none
  deriving DecidableEq, Repr

/-- Where a save stands (R330). -/
inductive SaveSt
  | none | asked | stopped
  deriving DecidableEq, Repr

/-- One of the 256 cores. -/
structure Core where
  occ : Occ := .idle
  out : Bool := false            -- out of service (R292)
  stopping : Bool := false       -- taken out of service by a CORESTOP that has not retired (R292)
  info : TaskInfo := {}
  a : AStrand := {}
  x : XStrand := {}
  q : Queues := {}
  ctl : Ctl := {}
  eng : Eng := {}
  spm : Spm := {}
  hold : Option Hold := none
  atEnd : Bool := false          -- END has completed its first step (R21, R32)
  save : SaveSt := .none
  errs : List (BitVec 8) := []   -- structure codes of errors that fault POISON at the next boundary (R381)
  absent : List (Nat × Nat) := []  -- image parts not yet filled: offset and length, ascending (R339)
  tlb : List TlbEnt := []
  deriving DecidableEq, Repr

/-! ### A partition -/

/-- Launch-record states (Table 01.3, R308); `held` names the holder's task. -/
inductive LSt
  | unbuilt | idle | held (by_ : Nat) | armed | queued | running
  deriving DecidableEq, Repr

/-- One stage entry of a pipeline block (Table 11.2). -/
structure StageEnt where
  code : Word
  minc : BitVec 8
  maxc : BitVec 8
  inr : BitVec 4
  outs : List (BitVec 4 × Nat)   -- Rill index and rate
  live : BitVec 13
  spill : BitVec 10
  wdog : BitVec 5
  deriving DecidableEq, Repr

/-- One Rill entry of a pipeline block (Table 11.3). -/
structure RillEnt where
  depth : Nat
  elog : BitVec 3
  extin : Bool
  extout : Bool
  deriving DecidableEq, Repr

/-- A pipeline block (R248). -/
structure PipeBlock where
  cores : BitVec 8 := 0
  limit : W32 := 0
  stages : List StageEnt := []
  rills : List RillEnt := []
  deriving DecidableEq, Repr

/-- A launch record as the queue logic holds it (R26, R307). -/
structure LRec where
  st : LSt := .unbuilt
  join : W32 := 0
  ovf : Bool := false
  armed : Bool := false          -- HELD: the holder has armed it
  code : Word := 0
  frame : Word := 0
  argp : Word := 0
  args : List Word := []
  jinit : W32 := 0
  ctx : BitVec 16 := 0
  kind : BitVec 2 := 0
  prio : BitVec 2 := 0
  pceil : BitVec 2 := 0
  replay : Bool := false
  nonreplay : Bool := false
  det : Bool := false
  splitok : Bool := false
  gvalid : BitVec 4 := 0
  gids : BitVec 32 := 0
  gangslot : BitVec 2 := 0
  ngang : BitVec 16 := 0
  rqbase : BitVec 16 := 0
  live : BitVec 13 := 0
  spill : BitVec 10 := 0
  wdog : BitVec 5 := 0
  pipep : Word := 0
  pipe : PipeBlock := {}
  left : Nat := 0                -- RUNNING: tasks not yet ended (TASK 1, GANG N)
  counts : List Nat := []        -- PIPE of a suspended context: recorded cores of each stage (R386)
  deriving DecidableEq, Repr

/-- An entry of a ready queue (R29, R314, R338). -/
inductive REKind
  | task (info : TaskInfo)                 -- one continuation record
  | gang (lrec : BitVec 12)                -- a GANG launch record
  | pipe (lrec : BitVec 12)                -- a PIPE launch record
  | resume (slot : BitVec 10)              -- a resume record of a saved task
  | resumeGang (slots : List (BitVec 10))  -- the resume records of a gang
  deriving DecidableEq, Repr

/-- A ready-queue entry: owner, age in Weir intervals, DET. -/
structure REnt where
  kind : REKind
  ctx : BitVec 16
  lrec : BitVec 12
  det : Bool := false
  waited : Nat := 0
  rest : Bool := false           -- its reservation expired: it reserves again at the next boundary (R314)
  deriving DecidableEq, Repr

/-- A split-K counter (R216): the next index to claim, and the ranks whose nest on it has completed. -/
structure SplitCtr where
  next : Nat := 0
  done : List (BitVec 8) := []
  deriving DecidableEq, Repr

/-- A group-table row (R30, R166, R216). -/
structure Group where
  built : Bool := false
  kind : BitVec 2 := 0           -- 1 BARRIER, 2 PEER, 3 MULTICAST
  mask : BitVec 256 := 0
  phase : Nat := 0
  arrivals : Nat := 0
  split : Tbl SplitCtr := []
  deriving DecidableEq, Repr

/-- Where an item of a queue stands (R22, R250-R252). -/
inductive ItemSt
  | prov (h : Nat)    -- pushed by a task that has not committed
  | ready             -- committed, held by no task
  | taken (h : Nat)   -- popped by a task that has not committed
  | resvIn (h : Nat)  -- reserved as a stage task's input
  | resvOut (h : Nat) -- a slot reserved for a stage task's output
  deriving DecidableEq, Repr

/-- An item: number (sequence number or position), bytes, standing. -/
structure QItem where
  num : Nat
  data : List Byte
  st : ItemSt
  deriving DecidableEq, Repr

/-- Queue kinds (Table 17.4). -/
inductive QKind
  | rill | link | sluice | taskq
  deriving DecidableEq, Repr

/-- An open queue-table entry with its items (R160, R250, R310). -/
structure Queue where
  kind : QKind
  elog : BitVec 4
  depth : Nat
  ctxA : BitVec 16
  rightA : BitVec 2
  ctxB : BitVec 16
  rightB : BitVec 2
  dies : BitVec 4 := 0
  backing : Word := 0
  x : W32 := 0                              -- LINK: expected number (R247)
  xOld : List (Nat × W32) := []             -- X before a task's provisional changes
  head : Nat := 0                           -- Rill: H (R250); others: number of the next committed push
  items : List QItem := []                  -- Rill: by number; others: in delivery order
  gone : List Nat := []                     -- Rill: numbers at or above H whose pops have committed
  seen : Nat := 0                           -- Rill: one above the highest number pushed to it (R309)
  limit : Nat := 0                          -- entry Rill: limit; 0 none
  closed : Bool := false                    -- entry Rill: DRAIN has set the limit
  pipe : Option (BitVec 12 × BitVec 4) := none  -- owning record and Rill index
  deriving DecidableEq, Repr

/-- A provisional effect on a launch record (R22). -/
inductive LrEff
  | patch (i : BitVec 12) (f : BitVec 4) (v : Word)
  | dec (i : BitVec 12)
  deriving DecidableEq, Repr

/-- What a saved task holds for which the image has no bytes (log 7): poisoned registers, poisoned load-queue entries by
queue and position, uncorrectable scratchpad words, errors that are still to fault, where the marks of TSTATE bits 12
and 13 stand, what its strands keep of an instruction that a fault or a trap stops, and the commands that answer its other
records where the image holds the last one (DEDUCED, log 51). -/
structure Marks where
  regs : List PoisonReg := []
  lq : List (Nat × Nat × Word) := []
  spm : List Nat := []
  errs : List (BitVec 8) := []
  gbar : Option Word := none                  -- the PC of a GBAR past its arrival (R166)
  handoff : Option (BitVec 2 × Word) := none  -- queue and PC of a handed-off push (R154)
  begun : List Word := []                     -- operands kept by an atomic that a fault stops (R37)
  xir : W32 := 0                              -- the X-strand's word, for its pending trap (R304)
  missed : Option Word := none                -- the PC of a long form that missed its stamp (R320)
  scall : Option Word := none                 -- the PC of the SCALL whose call is outstanding (R173)
  cmds : List Word := []                      -- CCMD words that came before the image's pending one (R297)
  deriving DecidableEq, Repr

/-- A save slot in use (R334): the half that holds the valid image, its GEN, and the task if it is saved. -/
structure SlotRec where
  half : Option Bool := none
  gen : Word := 0
  core : Option CoreId := none   -- the core the task is on
  info : TaskInfo := {}
  effs : List LrEff := []        -- provisional effects on launch records, in order
  hold : Option Hold := none     -- saved task: what holds it (R332)
  seq : Option W32 := none       -- the outstanding ring record
  popped : Bool := false         -- stage task: its pop made
  marks : Marks := {}            -- saved task: errors its image has no bytes for (log 7)
  deriving DecidableEq, Repr

/-- A context (R329, R352). -/
structure Ctx where
  st : BitVec 8 := 0             -- 0 none, 1 ACTIVE, 2 SUSPENDED, 3 ABSENT
  root : Word := 0
  savebase : Word := 0
  slots : BitVec 16 := 0
  siggrant : BitVec 16 := 0
  sigcap : W32 := 0
  use : Tbl SlotRec := []
  deriving DecidableEq, Repr

/-- A signature row (Table 10.6, R231, R232): `loc` names the array holding it, or none for the Spillway. -/
structure SigRow where
  ctx : BitVec 16
  tag : BitVec 10
  page : W32
  sig : BitVec 256
  age : BitVec 4 := 0
  loc : Option CoreId := none
  bad : Bool := false            -- fails parity
  deriving DecidableEq, Repr

/-- A ring record waiting to be written (R301, R303): its 64 bytes with SEQ zero, and what it holds. -/
structure RingRec where
  kind : BitVec 8
  code : BitVec 8
  body : BitVec 512
  ctx : BitVec 16 := 0
  slots : List (BitVec 10) := []  -- the tasks it answers for
  deriving DecidableEq, Repr

/-- A record written and not yet answered (R297). -/
structure Outst where
  seq : W32
  kind : BitVec 8
  ctx : BitVec 16
  slots : List (BitVec 10)
  deriving DecidableEq, Repr

/-- Supervisor control registers and the fault ring (Table 16.2, R294-R297). -/
structure Sup where
  ee : Bool := false
  inev : Bool := false
  pend : Bool := false
  arm : Bool := false            -- a ring event waits to be taken at the next boundary
  begun : List Word := []        -- operands of an atomic that a fault event has cut, back at SRET (R37)
  svec : Word := 0
  sepc : Word := 0
  scause : BitVec 8 := 0
  frbase : Word := 0
  szlog : BitVec 5 := 8
  lost : Bool := false
  frpi : Word := 0
  frci : Word := 0
  ccmd : Word := 0
  carg0 : Word := 0
  carg1 : Word := 0
  cstat : BitVec 3 := 0
  ring : List RingRec := []      -- waiting to be written, oldest first
  reports : Tbl (List RingRec) := []  -- REPORT queues per die
  out : List Outst := []
  answered : List W32 := []
  deriving DecidableEq, Repr

/-- A running pipeline (R255, R316, R317). -/
structure Pipe where
  cores : List (CoreId × BitVec 4) := []   -- its cores and their stages
  moves : List (CoreId × BitVec 4) := []   -- posted Weir moves
  interval : Nat := 0                      -- clk into the current Weir interval (R386)
  deriving DecidableEq, Repr

/-- A multi-core reservation in progress (R314), by the launch record of its entry. -/
structure Resv where
  prio : BitVec 2
  lrec : BitVec 12
  cores : List CoreId
  age : Nat := 0                 -- clk since it started
  deriving DecidableEq, Repr

/-- An EVCMD in progress (R328). -/
structure EvRun where
  op : BitVec 3
  ctx : BitVec 16
  agent : Agent
  tasks : Nat := 0
  arg : Word := 0                -- EVARG as the command was written
  start : Nat := 0
  last : Nat := 0
  failed : Bool := false
  deriving DecidableEq, Repr

/-- A page-in request at the tier manager (R354). -/
structure TierReq where
  ctx : BitVec 16
  va : Word
  deriving DecidableEq, Repr

/-- A resident CXL page as the tier manager knows it: a context and unit address, its frame, its leaf's address, and the
tasks that keep it. -/
structure TierPage where
  ctx : BitVec 16
  va : Word
  hframe : BitVec 36
  pteAddr : Nat
  holders : List Nat := []       -- tasks whose TIERREQ with INC keeps it resident (R265)
  deriving DecidableEq, Repr

/-- A partition (R10, R355-R357, R325, R328). -/
structure Part where
  up : Bool := false
  stopped : Bool := false
  dies : BitVec 4 := 0
  score : CoreId := 0
  sroot : Word := 0
  sentry : Word := 0
  cxlwin : Word := 0
  hostb : Word := 0
  hosts : Word := 0
  sup : Sup := {}
  ctxbase : Word := 0
  nctx : BitVec 16 := 0
  ctxcmd : Word := 0
  ctxres : Word := 0
  grpcmd : Word := 0
  grparg : Word := 0
  grpres : Word := 0
  tmcfg : BitVec 16 := 0
  spillcap : Nat := 0
  evarg : Word := 0
  evcmd : Word := 0
  evres : Tbl Word := []         -- per agent (R375): 0 supervisor, 1 and 2 ports
  evrun : Option EvRun := none
  evwait : List (Agent × Word × Word × Nat) := []  -- EVCMD and EVARG of agents that wait their turn, and their clk (R375)
  lrpool : Word := 0
  lrcmd : Word := 0
  lrres : Tbl Word := []
  schcfg : Word := 0x0000000800000110
  rillsl : BitVec 6 := 0         -- RILLSL in force since the last Weir boundary
  qtbase : Word := 0
  qcmd : Word := 0
  qres : Word := 0
  recs : Tbl LRec := []
  rq : Tbl (List REnt) := []     -- per priority, head first
  groups : Tbl Group := []
  queues : Tbl Queue := []       -- open queue-table entries
  ctxs : Tbl Ctx := []
  rows : List SigRow := []
  pipes : Tbl Pipe := []         -- by launch record
  resv : List Resv := []
  permits : Nat := 0             -- permits held by non-DET tasks (R324)
  interval : Nat := 0            -- clk into the current Weir interval
  tierReqs : List TierReq := []
  tierPages : List TierPage := []
  deriving DecidableEq, Repr

/-! ### The package -/

/-- A die's Breeze ring (R321, R322). -/
structure Ring where
  holders : BitVec 8 := 0        -- clusters holding a token
  last : BitVec 3 := 7           -- last holder, for ring order
  held : Tbl Nat := []           -- clk each holder has held while another waits
  deriving DecidableEq, Repr

/-- Snapshot control (R380, Table 21.5). -/
structure Snap where
  host : Bool := true
  pin : Bool := false
  instr : Bool := true
  faults : BitVec 16 := 0
  lock : Bool := false
  id : Word := 0
  miss : Word := 0
  cause : Word := 0
  window : List Byte := []       -- the snapshot registers latched by the held capture
  atClk : Nat := 0               -- clk of the held capture
  deriving DecidableEq, Repr

/-- A CXL device as laid out at bring-up (R379). -/
structure CxlRange where
  base : Nat
  size : Nat
  up : Bool := true
  deriving DecidableEq, Repr

/-- The I/O die (R373-R380, R382). -/
structure Io where
  held : Bool := false           -- HSEM
  owner : PortId := 0
  lasttie : PortId := 0
  tag : Byte := 0
  hperm : BitVec 8 := 0
  mccmd : Word := 0
  mcarg : Word := 0
  mcres : Word := 0
  phase : BitVec 3 := 0
  stopped : BitVec 4 := 0
  warm : Bool := false
  failcode : Byte := 0
  fw : Bool := false             -- firmware loaded
  warming : Bool := false        -- the reset in progress is warm
  errc : W32 := 0                -- ERRCNT corrected
  erru : W32 := 0                -- ERRCNT uncorrectable
  cxl : List CxlRange := []
  snap : Snap := {}
  msix : List (PortId × BitVec 3) := []  -- vectors raised, oldest first
  bar2 : List Byte := []         -- bytes returned by the last read of a host
  powered : Bool := true
  deriving DecidableEq, Repr

/-- Power state (R322, R323). -/
structure Power where
  cap : BitVec 2 := 0
  step : BitVec 4 := 0
  cut : Nat := 0                 -- tokens taken from each ring under a cap (R323)
  since : Nat := 65536           -- clk since the last cap step
  rings : Tbl Ring := []         -- per die
  deriving DecidableEq, Repr

/-- The operands of the hardware or host step being performed: an event has no encoding, so its operands stand in
the state (its constructor of Instr has none). Each step reads the fields its meaning names. -/
structure EvArgs where
  core : CoreId := 0
  part : PartId := 0
  st : Strand := .a
  port : PortId := 0
  agent : Agent := .sup
  ctx : BitVec 16 := 0
  slot : BitVec 10 := 0
  n : BitVec 16 := 0             -- a small index: bitmap, channel, window, queue id, record, group id, vocabulary, device
  lane : BitVec 7 := 0           -- a lane, or a row of a window
  va : Word := 0                 -- an address or a value
  v : Word := 0
  seq : W32 := 0
  flag : Bool := false
  code : FCode := .illegal
  what : Structure := .files
  target : RegTarget := .sup 0 0
  bytes : List Byte := []
  pkt : Packet := { supported := true, job := 0, message := [] }
  devs : List CxlDevice := []
  fail : Option Byte := none
  tie : Option Byte := none
  unit : FailUnit := .die 0
  deriving DecidableEq, Repr

/-- An AMORR's old value on its way to a scratchpad (R151, R152): `task` is the holder key of its target. -/
structure AmorrRet where
  core : CoreId
  task : Nat
  addr : BitVec 19
  flag : BitVec 6
  val : Word
  bad : Bool := false
  deriving DecidableEq, Repr

/-- Whose turn it is: a strand, a step of the hardware or a host, or the passing of clk (log 3). -/
inductive Turn
  | strand (core : CoreId) (st : Strand)
  | event (i : Instr) (args : EvArgs)
  | clk (n : Nat)
  deriving DecidableEq, Repr

/-! ### The Sluice (R358-R372) -/

/-- A resident vocabulary image (Table 20.4). -/
structure Vocab where
  byteId : List Nat
  cls : List Nat
  split : List Nat
  merges : List (Nat × Nat × Nat)  -- by rank: LEFT, RIGHT, RESULT
  strs : List (List Byte)          -- the string of each token id
  specs : List (List Byte × Nat)   -- special strings and their ids
  deriving DecidableEq, Repr

/-- Where a request stands (R363, R367, R368). -/
inductive ReqSt
  | tokenised | accepted | admitted | ended
  deriving DecidableEq, Repr

/-- A reply message and the packet delivery context on which it leaves (R358, R360). -/
structure Reply where
  pdc : W32
  message : List Byte
  deriving DecidableEq, Repr

/-- A request record of the queue logic (R363) with the state of its slot's detokeniser (R371). -/
structure Req where
  pdc : W32 := 0                   -- the packet delivery context that carried it (R358)
  part : PartId
  ctx : BitVec 16
  slot : BitVec 10
  st : ReqSt := .tokenised
  reqid : Word
  flags : Byte
  vocab : BitVec 4
  hdr : List Byte                  -- the 64-byte header
  nprompt : Nat
  stops : List (List Byte)         -- the copied stop strings (R365)
  dups : List W32 := []            -- contexts of later requests with its REQID that await a copy of its ACCEPT
  nodes : List Nat := []           -- physical addresses of the matched nodes
  popped : Nat := 0
  pend : List Byte := []
  hold : List Byte := []
  stopped : Bool := false
  range : Bool := false            -- a token id was out of range in the text not yet sent
  out : List Byte := []            -- emitted and not yet sent
  toks : List Word := []           -- token id and log-probability of the tokens not yet reported
  rseq : W32 := 1                  -- the next RSEQ
  deriving DecidableEq, Repr

/-- A context that the Sluice serves, from an ENABLE to a DISABLE (R372). -/
structure Served where
  part : PartId
  ctx : BitVec 16
  deriving DecidableEq, Repr

/-- A context's radix tree as the tree unit holds it from an ENABLE on: where its entry, its root and the node pool lie,
and the nodes of the pool that are its own (R366, R372). -/
structure Tree where
  part : PartId
  ctx : BitVec 16
  entry : Nat
  root : Nat
  base : Nat                       -- NODEBASE
  count : Nat                      -- NNODE
  nodes : List Nat := []
  deriving DecidableEq, Repr

/-- The Sluice (R358-R372). SLDROP, SLACC and SLREJ count in 32 bits and wrap (DESIGN CHOICE, log 123). -/
structure Sluice where
  voc : Tbl Vocab := []            -- resident vocabularies by slot
  base : Tbl Word := []            -- block address per partition
  lastPart : PartId := 0           -- partition of the last SLBASE write
  cmd : Word := 0
  arg : Word := 0
  res : Word := 0
  run : Option Word := none        -- result of the command under way, a PRUNE with pages still to push (R372)
  waits : List (Word × Word) := [] -- SLCMD writes that wait for it, with their SLARG (R372)
  drops : W32 := 0                 -- SLDROP
  accs : W32 := 0                  -- SLACC
  rejs : W32 := 0                  -- SLREJ
  served : List Served := []
  trees : List Tree := []          -- trees of the contexts that exist or are served (R366)
  reqs : List Req := []            -- live slots, in acceptance order
  inbox : List Packet := []        -- messages received and not yet taken
  replies : List Reply := []       -- reply messages sent and not acknowledged, oldest first
  wire : List Reply := []          -- every reply message put on the network, oldest first
  relq : List (PartId × BitVec 16 × Word × Option (BitVec 10)) := []  -- pages on their way to RELQ, with their slot
  deriving DecidableEq, Repr

/-- The machine. -/
structure State where
  mem : Mem := []                -- physical memory: HBM, CXL, HOST (R345)
  poison : List Nat := []        -- poisoned 128-byte physical lines, ascending (R116)
  dead : BitVec 8 := 0           -- HBM stacks that have failed (R344)
  cores : Tbl Core := []
  parts : Tbl Part := []
  dieTlb : Tbl (List TlbEnt) := []   -- shared TLB per die (R350)
  io : Io := {}
  power : Power := {}
  sl : Sluice := {}
  amorr : List AmorrRet := []    -- AMORR returns under way, oldest first (R152)
  clk : Nat := 0
  agenda : List Turn := []       -- the model's own (log 3)
  cur : CoreId := 0              -- the core whose strand moves: the model's own
  ev : EvArgs := {}              -- operands of the step being performed: the model's own
  freeCtr : Nat := 0             -- the model's own: counts free values used (log 5)
  deriving DecidableEq, Repr

/-- The machine right after cold reset (R378): every core idle, no partition set up, PHASE ROM, HSEM and HPERM clear,
memory with nothing listed. Registers without a reset value in the spec hold 0 (log 1). -/
def State.reset : State := {}

end Sys2Proof.Machine
end

