-- ==== Sys2Proof/Machine/Ops.lean ====
section
/-! DEFINITION. Named operations over memory, cores and partitions: bytes, translation and its checks, poison, and
taking an exception (fault, user trap, supervisor event) and returning from one. -/
namespace Sys2Proof.Machine

/-! ### Bytes and memory -/

/-- The byte at an address; an unlisted address reads 0 (log 2). -/
def Mem.read : Mem → Nat → Byte
  | [], _ => 0
  | (k, v) :: m, a => if k = a then v else Mem.read m a

/-- Writes a byte, keeping the canonical form: rising addresses, no zero byte listed (DESIGN CHOICE, log 2). -/
def Mem.write : Mem → Nat → Byte → Mem
  | [], a, b => if b = 0 then [] else [(a, b)]
  | (k, v) :: m, a, b =>
    if k = a then (if b = 0 then m else (a, b) :: m)
    else if a < k then (if b = 0 then (k, v) :: m else (a, b) :: (k, v) :: m)
    else (k, v) :: Mem.write m a b

/-- Addresses rise strictly from `lo` on and no listed byte is 0. -/
def Mem.wfFrom : Nat → Mem → Bool
  | _, [] => true
  | lo, (k, v) :: m => decide (lo ≤ k) && decide (v ≠ 0) && Mem.wfFrom (k + 1) m

/-- The canonical form of a memory (DESIGN CHOICE, log 2) (DESIGN CHOICE, log 86). -/
def Mem.wf (m : Mem) : Bool := Mem.wfFrom 0 m

/-- n bytes from an address on. -/
def Mem.readN (m : Mem) (a : Nat) : Nat → List Byte
  | 0 => []
  | n + 1 => m.read a :: Mem.readN m (a + 1) n

/-- Writes bytes from an address on. -/
def Mem.writeN (m : Mem) (a : Nat) : List Byte → Mem
  | [] => m
  | b :: bs => Mem.writeN (m.write a b) (a + 1) bs

/-- Writes the enabled bytes of a list from an address on. -/
def Mem.writeEn (m : Mem) (a : Nat) : List (Byte × Bool) → Mem
  | [] => m
  | (b, e) :: bs => Mem.writeEn (if e then m.write a b else m) (a + 1) bs

/-- The little-endian value of bytes (R3). -/
def leNat : List Byte → Nat
  | [] => 0
  | b :: bs => b.toNat + 256 * leNat bs

/-- The n little-endian bytes of a value (R3). -/
def leBytes : Nat → Nat → List Byte
  | 0, _ => []
  | n + 1, v => BitVec.ofNat 8 v :: leBytes n (v / 256)

/-- The n-byte little-endian value at an address. -/
def Mem.get (m : Mem) (a n : Nat) : Nat := leNat (m.readN a n)

/-- Writes an n-byte little-endian value. -/
def Mem.put (m : Mem) (a n v : Nat) : Mem := m.writeN a (leBytes n v)

/-- Bits hi down to lo of a word, as a number (R4). -/
def bits (w : Word) (hi lo : Nat) : Nat := w.toNat / 2 ^ lo % 2 ^ (hi + 1 - lo)

/-- Inserts a number into an ascending list without repeats. -/
def insAsc : List Nat → Nat → List Nat
  | [], n => [n]
  | k :: l, n => if k = n then k :: l else if n < k then n :: k :: l else k :: insAsc l n

/-- Sign-extends the low bits of an n-bit field to a word. -/
def sextW {n : Nat} (x : BitVec n) : Word := x.signExtend 64

/-! ### Cores and partitions -/

/-- Core c. -/
def State.core (s : State) (c : CoreId) : Core := Tbl.get {} s.cores c.toNat
/-- Replaces core c. -/
def State.setCore (s : State) (c : CoreId) (k : Core) : State := { s with cores := Tbl.set s.cores c.toNat k }
/-- Changes core c. -/
def State.modCore (s : State) (c : CoreId) (f : Core → Core) : State := s.setCore c (f (s.core c))
/-- The core whose strand moves. -/
def State.here (s : State) : Core := s.core s.cur
/-- Changes the core whose strand moves. -/
def State.modHere (s : State) (f : Core → Core) : State := s.modCore s.cur f
/-- Partition p. -/
def State.part (s : State) (p : PartId) : Part := Tbl.get {} s.parts p.toNat
/-- Replaces partition p. -/
def State.setPart (s : State) (p : PartId) (k : Part) : State := { s with parts := Tbl.set s.parts p.toNat k }
/-- Changes partition p. -/
def State.modPart (s : State) (p : PartId) (f : Part → Part) : State := s.setPart p (f (s.part p))

/-- The die of a core (Table 02.4, COREID). -/
def dieOf (c : CoreId) : BitVec 2 := c.extractLsb' 6 2
/-- All 256 cores, ascending COREID. -/
def allCores : List CoreId := (List.range 256).map (BitVec.ofNat 8)
/-- The four partition numbers. -/
def allParts : List PartId := [0#2, 1#2, 2#2, 3#2]

/-- Partition p is set up and owns die d (R10). -/
def Part.hasDie (P : Part) (d : BitVec 2) : Bool := P.up && P.dies.getLsbD d.toNat
/-- The partition that owns die d, named by its lowest die; die d itself where none is set up. -/
def State.partOfDie (s : State) (d : BitVec 2) : PartId :=
  (allParts.find? fun p => (s.part p).hasDie d).getD d
/-- The partition of core c. -/
def State.partOf (s : State) (c : CoreId) : PartId := s.partOfDie (dieOf c)
/-- The partition of the core whose strand moves. -/
def State.myPart (s : State) : Part := s.part (s.partOf s.cur)
/-- Changes the partition of the core whose strand moves. -/
def State.modMyPart (s : State) (f : Part → Part) : State := s.modPart (s.partOf s.cur) f

/-- Core c is a task core of partition P: on one of its dies and not its supervisor core (R10). -/
def Part.isTaskCore (P : Part) (c : CoreId) : Bool := P.hasDie (dieOf c) && c != P.score
/-- Number of dies in a set. -/
def dieCount (d : BitVec 4) : Nat := (List.range 4).countP fun k => d.getLsbD k
/-- Task cores of a partition: 63, 127, 191 or 255 (R10). -/
def Part.taskCores (P : Part) : Nat := 64 * dieCount P.dies - 1

/-- The core is in supervisor mode (R284). -/
def Core.isSup (k : Core) : Bool := k.occ == .supervisor
/-- The context a core's accesses run under: 0 for the supervisor (R11, R285). -/
def Core.ctx (k : Core) : BitVec 16 := if k.occ == .task then k.info.cont.ctx else 0
/-- Key of a task among a context's holders: its save slot (R334). -/
def holderKey (ctx : BitVec 16) (slot : BitVec 10) : Nat := ctx.toNat * 1024 + slot.toNat
/-- The holder key of a core's task. -/
def Core.holder (k : Core) : Nat := holderKey k.info.cont.ctx k.info.slot

/-- DETM (R12, Table 02.4). -/
def Core.detm (k : Core) : Bool := k.info.cont.det
/-- SPCO: the carve-out's base address (R14). -/
def Core.spco (k : Core) : Word := .ofNat 64 (0x80000 - k.info.cont.spill.toNat * 1024)
/-- The watchdog limit 2^(WDOG+10), WDOG above 22 acting as 22 (R13, R24). -/
def Core.dogLimit (k : Core) : Nat := 2 ^ (min k.info.cont.wdog.toNat 22 + 10)

/-- The group id in slot g, when GVALID has the slot (R30). -/
def Core.groupId (k : Core) (g : BitVec 2) : Option (BitVec 8) :=
  if k.info.cont.gvalid.getLsbD g.toNat then some (k.info.cont.gids.extractLsb' (8 * g.toNat) 8) else none
/-- The core's task holds group id i in one of its slots. -/
def Core.holdsGroup (k : Core) (i : BitVec 8) : Bool :=
  [0#2, 1#2, 2#2, 3#2].any fun g => k.groupId g == some i
/-- Row i of a partition's group table. -/
def Part.group (P : Part) (i : BitVec 8) : Group := Tbl.get {} P.groups i.toNat
/-- Launch record i. -/
def Part.lrec (P : Part) (i : BitVec 12) : LRec := Tbl.get {} P.recs i.toNat
/-- Context c. -/
def Part.ctx (P : Part) (c : BitVec 16) : Ctx := Tbl.get {} P.ctxs c.toNat
/-- A save slot of a context. -/
def Ctx.slotRec (x : Ctx) (n : BitVec 10) : SlotRec := Tbl.get {} x.use n.toNat
/-- Changes a save slot's record. -/
def Part.modSlot (P : Part) (c : BitVec 16) (n : BitVec 10) (f : SlotRec → SlotRec) : Part :=
  let x := P.ctx c
  { P with ctxs := Tbl.set P.ctxs c.toNat { x with use := Tbl.set x.use n.toNat (f (x.slotRec n)) } }

/-- A task counts as running from its start until it ends, is abandoned or has been saved (R31). -/
def Core.runsTask (k : Core) : Bool := k.occ == .task

/-! ### Free values -/

/-- Takes a fresh free word (log 5). -/
def State.freshWord (s : State) : Word × State := (freeWord s.freeCtr, { s with freeCtr := s.freeCtr + 1 })

/-! ### Physical memory -/

/-- PHASE values (Table 21.4). -/
def phaseRom : BitVec 3 := 0#3
def phaseTraining : BitVec 3 := 1#3
def phaseReady : BitVec 3 := 2#3
def phaseFailed : BitVec 3 := 7#3

/-- The package is powered and takes what comes from outside: in FAILED it accepts no more than MCCMD WARMRESET and a cold
reset (R378) (DEDUCED, log 69). -/
def State.accepting (s : State) : Bool := s.io.powered && s.io.phase != phaseFailed

/-- HBM ends where stack 7 ends (R345). -/
def hbmEnd : Nat := 0x6000000000
/-- Bytes of one stack (R345). -/
def stackSize : Nat := 0xC00000000
/-- The stack of an HBM address. -/
def stackOf (pa : Nat) : Nat := pa / stackSize
/-- The CXL region (R345). -/
def cxlBase : Nat := 0x8000000000000
def cxlEnd : Nat := 0x8040000000000
/-- The HOST region (R345). -/
def hostBase : Nat := 0xC000000000000
def hostEnd : Nat := 0x10000000000000

def inHbm (pa : Nat) : Bool := decide (pa < hbmEnd)
def inCxl (pa : Nat) : Bool := decide (cxlBase ≤ pa) && decide (pa < cxlEnd)
def inHost (pa : Nat) : Bool := decide (hostBase ≤ pa) && decide (pa < hostEnd)

/-- The partition owns the HBM stack under the address (R345). -/
def Part.ownsHbm (P : Part) (pa : Nat) : Bool := inHbm pa && P.dies.getLsbD (stackOf pa / 2)
/-- The address lies in the partition's CXL window (Table 19.3). -/
def Part.ownsCxl (P : Part) (pa : Nat) : Bool :=
  inCxl pa && decide (cxlBase + 65536 * bits P.cxlwin 25 0 ≤ pa)
    && decide (pa < cxlBase + 65536 * (bits P.cxlwin 25 0 + bits P.cxlwin 57 32))
/-- The address lies in the partition's host window (Table 19.3). -/
def Part.ownsHost (P : Part) (pa : Nat) : Bool :=
  inHost pa && decide (P.hostb.toNat ≤ pa) && decide (pa < P.hostb.toNat + P.hosts.toNat)
/-- The memory a partition owns (R345). -/
def Part.owns (P : Part) (pa : Nat) : Bool := P.ownsHbm pa || P.ownsCxl pa || P.ownsHost pa
/-- The address lies in a reserved tier frame of its stack: the top TMN x 64 KiB (R354). -/
def Part.inTierFrame (P : Part) (pa : Nat) : Bool :=
  decide (stackSize - P.tmcfg.toNat * 65536 ≤ pa % stackSize)
/-- An address that a register naming pinned HBM accepts (R345). -/
def Part.pinnable (P : Part) (pa : Nat) : Bool := P.ownsHbm pa && !P.inTierFrame pa

/-- Every byte of a structure of n bytes is such an address: each 64 KiB page of it, and its last byte (R345). -/
def Part.rangePinnable (P : Part) (a n : Nat) : Bool :=
  ((List.range ((n + 65535) / 65536)).all fun i => P.pinnable (a + 65536 * i)) && P.pinnable (a + n - 1)
/-- The partition owns n bytes that lie in one stack or one window (R345). -/
def Part.ownsRange (P : Part) (a n : Nat) : Bool := P.owns a && P.owns (a + n - 1)

/-- The line is poisoned, its stack has failed, or its device has dropped off its link (R116, R344, R379)
(DEDUCED, log 71). -/
def State.poisoned (s : State) (pa : Nat) : Bool :=
  s.poison.contains (pa / 128) || (inHbm pa && s.dead.getLsbD (stackOf pa)) ||
    s.io.cxl.any fun r => !r.up && decide (r.base ≤ pa) && decide (pa < r.base + r.size)

/-- Some of n bytes from an address on lie on a device that has dropped off its link: every access to them, a write
too, meets POISON (R379). -/
def State.linkDown (s : State) (pa n : Nat) : Bool :=
  s.io.cxl.any fun r => !r.up && decide (r.base < pa + n) && decide (pa < r.base + r.size)

/-- Some line of n bytes from an address on is poisoned (R116, R379). -/
def State.poisonedIn (s : State) (pa n : Nat) : Bool :=
  (s.poison.any fun l => decide (128 * l < pa + n) && decide (pa < 128 * l + 128))
    || (inHbm pa && s.dead.getLsbD (stackOf pa)) || (inHbm (pa + n - 1) && s.dead.getLsbD (stackOf (pa + n - 1))) ||
    s.io.cxl.any fun r => !r.up && decide (r.base < pa + n) && decide (pa < r.base + r.size)

/-- Writes physical bytes; a write that covers a whole 128-byte line clears its poison (R116). -/
def State.physWrite (s : State) (pa : Nat) (bs : List Byte) : State :=
  { s with
    mem := s.mem.writeN pa bs
    poison := s.poison.filter fun l => !(decide (pa ≤ 128 * l) && decide (128 * l + 128 ≤ pa + bs.length)) }

/-- Writes the enabled bytes of one line's part; the whole line enabled clears its poison (R116). -/
def State.physWriteEn (s : State) (pa : Nat) (bs : List (Byte × Bool)) : State :=
  { s with
    mem := s.mem.writeEn pa bs
    poison := if bs.all (·.2) then
        s.poison.filter fun l => !(decide (pa ≤ 128 * l) && decide (128 * l + 128 ≤ pa + bs.length))
      else s.poison }

/-- The partition owns the HBM under n bytes from an address on (R345). -/
def Part.ownsBytes (P : Part) (a n : Nat) : Bool := P.ownsHbm a && P.ownsHbm (a + n - 1)

/-- The n-byte value at a physical address that the partition's own structures name; 0 outside its own HBM, which no
pointer that software wrote leaves (R8, R356) (DEDUCED, log 93). -/
def State.ownGet (s : State) (p : PartId) (a n : Nat) : Nat := if (s.part p).ownsBytes a n then s.mem.get a n else 0

/-- Writes bytes of a structure of the partition; outside its own HBM nothing is written (R8, R356) (DEDUCED, log 93). -/
def State.ownPut (s : State) (p : PartId) (a : Nat) (bs : List Byte) : State :=
  if (s.part p).ownsBytes a bs.length then s.physWrite a bs else s

/-! ### Page-table entries (Table 19.1) -/

def pteV (e : BitVec 128) : Bool := e.getLsbD 0
def pteP (e : BitVec 128) : Bool := e.getLsbD 1
def pteLeaf (e : BitVec 128) : Bool := e.getLsbD 2
/-- 0 HBM, 1 CXL, 2 HOST, 3 illegal. -/
def pteTier (e : BitVec 128) : Nat := (e.extractLsb' 3 2).toNat
def pteW (e : BitVec 128) : Bool := e.getLsbD 5
def pteX (e : BitVec 128) : Bool := e.getLsbD 6
def pteU (e : BitVec 128) : Bool := e.getLsbD 7
def ptePin (e : BitVec 128) : Bool := e.getLsbD 8
def pteHome (e : BitVec 128) : Nat := (e.extractLsb' 9 3).toNat
def pteFwe (e : BitVec 128) : Bool := e.getLsbD 12
/-- FRAME as a physical address. -/
def pteFrame (e : BitVec 128) : Nat := (e.extractLsb' 16 36).toNat * 65536
def pteFmtd (e : BitVec 128) : BitVec 24 := e.extractLsb' 64 24
def pteRsd (e : BitVec 128) : Bool := e.getLsbD 88
/-- HFRAME as a physical address. -/
def pteHframe (e : BitVec 128) : Nat := (e.extractLsb' 92 36).toNat * 65536

/-- Reserved bits of a leaf: [15:13], [63:52], [91:89] (Table 19.1). Bits [23:20] of FMTD, which Table 03.3 reserves within
the descriptor, are none of the entry's own (DESIGN CHOICE, log 94). -/
def pteLeafReserved (e : BitVec 128) : Bool :=
  e.extractLsb' 13 3 != 0#3 || e.extractLsb' 52 12 != 0#12 || e.extractLsb' 89 3 != 0#3
/-- A table entry uses only V, P, LEAF and FRAME; every other field must be 0 (R347). -/
def pteTableReserved (e : BitVec 128) : Bool :=
  e.extractLsb' 3 13 != 0#13 || e.extractLsb' 52 12 != 0#12 || e.extractLsb' 64 64 != 0#64

/-- A stack has reserved tier frames for the partition (R348, R354). -/
def Part.hasTierFrames (P : Part) (k : Nat) : Bool := decide (0 < P.tmcfg.toNat) && P.dies.getLsbD (k / 2)

/-- The checks of R348 on a table entry whose table must be aligned to `sz` bytes. -/
def checkTable (P : Part) (e : BitVec 128) (sz : Nat) : Option FCode :=
  if !pteV e || !pteP e then some .page
  else if pteTableReserved e || pteFrame e % sz != 0 then some .page
  else if !inHbm (pteFrame e) then some .page
  else if !P.ownsRange (pteFrame e) sz then some .prot
  else none

/-- A resident CXL leaf names a frame that the partition does not own: no access may reach it (R356) (DEDUCED, log 93). -/
def Part.strayFrame (P : Part) (e : BitVec 128) : Bool := pteTier e == 1 && pteRsd e && !P.ownsHbm (pteHframe e)

/-- The checks of R348 on a leaf; `big` says that it maps 512 MiB. -/
def checkLeaf (P : Part) (e : BitVec 128) (big : Bool) : Option FCode :=
  if !pteV e || !pteP e then some .page
  else if pteLeafReserved e || (big && pteFrame e % 0x20000000 != 0) then some .page
  else
    let f := pteFrame e
    let badTier := match pteTier e with
      | 0 => !inHbm f || pteHome e != stackOf f
      | 1 => !inCxl f || ptePin e || big || !P.hasTierFrames (pteHome e)
      | 2 => !inHost f || ptePin e
      | _ => true
    if badTier then some .page
    else if !P.ownsRange f (if big then 0x20000000 else 65536) || P.strayFrame e then some .prot
    else none

/-- The 16-byte entry at a physical address. -/
def State.pteAt (s : State) (pa : Nat) : BitVec 128 := .ofNat 128 (s.mem.get pa 16)

/-- A leaf found by a walk. -/
structure Leaf where
  pte : BitVec 128
  big : Bool
  addr : Nat      -- physical address of the entry
  deriving DecidableEq, Repr

/-- The three-level walk (R346, R348): the first failing check decides. A context that does not exist has no table, and a
root that the partition does not own is none of its tables (R345, R356) (DEDUCED, log 93). -/
def State.walk (s : State) (P : Part) (ctx : BitVec 16) (va : Word) : Except FCode Leaf :=
  let root := if ctx = 0#16 then P.sroot.toNat else (P.ctx ctx).root.toNat
  if ctx ≠ 0#16 ∧ (P.ctx ctx).st = 0#8 then .error .page
  else if !P.ownsRange root 0x40000 then .error .prot else
  let e1 := s.pteAt (root + 16 * bits va 55 42)
  if pteLeaf e1 then .error .page else
  match checkTable P e1 0x20000 with
  | some f => .error f
  | none =>
    let a2 := pteFrame e1 + 16 * bits va 41 29
    let e2 := s.pteAt a2
    if pteLeaf e2 then
      match checkLeaf P e2 true with
      | some f => .error f
      | none => .ok { pte := e2, big := true, addr := a2 }
    else
      match checkTable P e2 0x20000 with
      | some f => .error f
      | none =>
        let a3 := pteFrame e2 + 16 * bits va 28 16
        let e3 := s.pteAt a3
        if !pteLeaf e3 then .error .page
        else match checkLeaf P e3 false with
          | some f => .error f
          | none => .ok { pte := e3, big := false, addr := a3 }

/-- What kind of access is checked (R302, INFO1). -/
inductive Acc
  | read | write | atomic | fetch
  deriving DecidableEq, Repr

/-- INFO1[1:0] (R302). -/
def Acc.code : Acc → Nat
  | .read => 0 | .write => 1 | .atomic => 2 | .fetch => 3

/-- A translated access: its physical address and its leaf. -/
structure Xl where
  pa : Nat
  pte : BitVec 128
  deriving DecidableEq, Repr

/-- The physical address a leaf gives (R62, R346, R347): a resident CXL page lies in its HBM frame. -/
def leafPa (pte : BitVec 128) (big : Bool) (va : Word) : Nat :=
  if big then pteFrame pte + bits va 28 0
  else if pteTier pte = 1 ∧ pteRsd pte then pteHframe pte + bits va 15 0
  else pteFrame pte + bits va 15 0

/-- A TLB entry maps the address for the context (R350). -/
def TlbEnt.hits (t : TlbEnt) (ctx : BitVec 16) (va : Word) : Bool :=
  t.ctx == ctx && t.vpn == (if t.big then bits va 55 29 else bits va 55 16)

/-- The leaf for an address: the core TLB, then the die's, then a walk (R350). A lookup installs nothing (log 6). -/
def State.findLeaf (s : State) (c : CoreId) (ctx : BitVec 16) (va : Word) : Except FCode (BitVec 128 × Bool) :=
  match ((s.core c).tlb ++ Tbl.get [] s.dieTlb (dieOf c).toNat).find? (·.hits ctx va) with
  | some t => .ok (t.pte, t.big)
  | none => (s.walk (s.part (s.partOf c)) ctx va).map fun l => (l.pte, l.big)

/-- Permission and tier checks after the walk (R148 steps 4 and 5, R348): U is ignored under context 0. -/
def permFault (ctx : BitVec 16) (acc : Acc) (pte : BitVec 128) : Option FCode :=
  if ctx != 0#16 && !pteU pte then some .prot
  else match acc with
    | .read => none
    | .write => if pteW pte then none else some .prot
    | .atomic => if !pteW pte || pteTier pte == 2 then some .prot else none
    | .fetch => if pteX pte then none else some .prot

/-- R148 and R387 for one address under a context on core c: range, alignment, translation, permission. -/
def State.xlate (s : State) (c : CoreId) (ctx : BitVec 16) (acc : Acc) (va : Word) (align : Nat) : Except FCode Xl :=
  if bits va 63 56 != 0 then .error .prot
  else if va.toNat % align != 0 then .error .align
  else match s.findLeaf c ctx va with
    | .error f => .error f
    | .ok (pte, big) =>
      match permFault ctx acc pte with
      | some f => .error f
      | none => .ok { pa := leafPa pte big va, pte := pte }

/-! ### Exceptions -/

/-- A fault with the values of its record (R298, R302). -/
structure Flt where
  code : FCode
  i0 : Word := 0
  i1 : Word := 0
  i2 : Word := 0
  sub : BitVec 8 := 0
  pc2 : Bool := false    -- INFO2 holds a second PC (FLAGS[3])
  open_ : Bool := false  -- the check names no address: INFO0 and INFO1 are open (R302; log 22)
  fetch : Bool := false  -- the word that was being fetched did not come: it has no WORD1 (R301)
  site : Option (Word × W32) := none  -- PC and word of an instruction that the strand has passed (R158)
  deriving DecidableEq, Repr

/-- A user trap with its TINFO values (R172). `after`: TPC := PC + 4, as TRAP has it. -/
structure Trap where
  code : BitVec 8
  t0 : Word := 0
  t1 : Word := 0
  t2 : Word := 0
  t3 : Word := 0
  after : Bool := false
  deriving DecidableEq, Repr

/-- Fault codes (Table 16.5). -/
def faultNum : FCode → BitVec 8
  | .illegal => 0x20#8 | .wrongStrand => 0x21#8 | .priv => 0x22#8 | .align => 0x23#8 | .page => 0x24#8
  | .prot => 0x25#8 | .fmtPair => 0x26#8 | .fmtCode => 0x27#8 | .slotState => 0x28#8 | .tokenBusy => 0x29#8
  | .lrState => 0x2A#8 | .peerLost => 0x2B#8 | .poison => 0x2C#8 | .taskTimeout => 0x2D#8 | .engine => 0x2E#8
  | .saveFail => 0x2F#8

/-- User trap codes (Table 16.5). -/
def trapGstkOvf : BitVec 8 := 0x01#8
def trapGstkUnf : BitVec 8 := 0x02#8
def trapQtimeout : BitVec 8 := 0x03#8
def trapFwait : BitVec 8 := 0x04#8
def trapTwait : BitVec 8 := 0x05#8
def trapRegEmpty : BitVec 8 := 0x06#8
def trapTrap : BitVec 8 := 0x07#8
def trapStamp : BitVec 8 := 0x08#8
def trapLinkSeq : BitVec 8 := 0x09#8
def trapGwait : BitVec 8 := 0x0A#8

/-- The FMT_CODE fault of a format found (R302). -/
def fmtFlt (code : BitVec 5) : Flt := { code := .fmtCode, i0 := code.setWidth 64 }

/-- The values of ALIGN, PAGE and PROT for an address (R302). -/
def addrFlt (code : FCode) (va : Word) (acc : Acc) (vec : Bool) : Flt :=
  { code := code, i0 := va, i1 := .ofNat 64 (acc.code + 4 * vec.toNat) }

/-- The virtual address of the 128-byte line of an address. -/
def lineVa (va : Word) : Word := va &&& ~~~(127#64)

/-- A PROT fault of a check that names no address (log 22). -/
def protOpen : Flt := { code := .prot, open_ := true }

/-- The POISON fault of a line read (R116, R302) (DEDUCED, log 19). -/
def poisonFlt (va : Word) : Flt := { code := .poison, i0 := lineVa va }

/-- A ring record's first 56 bytes with SEQ zero (Table 16.6). -/
def recBody (kind code sub flags : Nat) (core : CoreId) (ctx : BitVec 16) (lrec : BitVec 12) (rank : BitVec 8)
    (pc : Word) (w0 w1 : W32) (i0 i1 i2 : Word) : BitVec 512 :=
  .ofNat 512 (kind * 2 ^ 32 + code * 2 ^ 40 + sub * 2 ^ 48 + flags * 2 ^ 56 + core.toNat * 2 ^ 64 + ctx.toNat * 2 ^ 80
    + lrec.toNat * 2 ^ 96 + rank.toNat * 2 ^ 112 + pc.toNat * 2 ^ 128 + w0.toNat * 2 ^ 192 + w1.toNat * 2 ^ 224
    + i0.toNat * 2 ^ 256 + i1.toNat * 2 ^ 320 + i2.toNat * 2 ^ 384)

/-- The members of a gang on cores, with their cores, ascending rank (R25, R32). -/
def State.gangOn (s : State) (p : PartId) (t : TaskInfo) : List CoreId :=
  let on := allCores.filter fun c =>
    (s.core c).occ == .task && s.partOf c == p && (s.core c).info.lrec == t.lrec && (s.core c).info.gang.isSome
      && (s.core c).info.cont.ctx == t.cont.ctx
  (List.range 256).flatMap fun r => on.filter fun c => (s.core c).info.rank.toNat == r

/-- The task is a member of a gang, be it a gang of one (R25). -/
def TaskInfo.inGang (t : TaskInfo) : Bool := t.gang.isSome

/-- A member's own fault code, when it is also faulting (R303). -/
def Core.alsoFaulting (k : Core) : Option (BitVec 8) :=
  match k.hold with
  | some h => if h.kind == .also then some h.code else none
  | none => none

/-- One member entry of a GANG record (R303): PC, RANK, CORE, state, code. -/
def gangEntry (k : Core) (c : CoreId) : Nat :=
  let base := k.a.pc.toNat + k.info.rank.toNat * 2 ^ 64 + c.toNat * 2 ^ 72
  match k.alsoFaulting with
  | some code => base + 3 * 2 ^ 80 + code.toNat * 2 ^ 88
  | none => base + (if k.atEnd then 2 else if k.a.wait.isSome then 1 else 0) * 2 ^ 80

/-- An entry that no member fills: state 0xFF (R303). -/
def gangNoEntry : Nat := 0xFF * 2 ^ 80

/-- FLAGS[1] of a record that a GANG record follows (Table 16.6). -/
def gangFollows : Nat := 2 * 2 ^ 56

/-- The GANG records of a gang fault: three member entries each, FLAGS[1] set in all but the last (R303, Table 16.6)
(DEDUCED, log 91). -/
def gangBodies (hd : Nat) : List Nat → List (BitVec 512)
  | [] => []
  | [a] => [.ofNat 512 (hd + a * 2 ^ 128 + gangNoEntry * 2 ^ 256 + gangNoEntry * 2 ^ 384)]
  | [a, b] => [.ofNat 512 (hd + a * 2 ^ 128 + b * 2 ^ 256 + gangNoEntry * 2 ^ 384)]
  | [a, b, c] => [.ofNat 512 (hd + a * 2 ^ 128 + b * 2 ^ 256 + c * 2 ^ 384)]
  | a :: b :: c :: r => .ofNat 512 (hd + gangFollows + a * 2 ^ 128 + b * 2 ^ 256 + c * 2 ^ 384) :: gangBodies hd r

/-- The GANG records that follow the record with body `b`, for the members of a gang as they stand: bytes 0-15 repeat
that record's, with KIND 4 and of its FLAGS those that speak of the fault and the task (R303) (DEDUCED, log 91). -/
def State.gangRecs (s : State) (b : BitVec 512) (ctx : BitVec 16) (code : BitVec 8) (ms : List CoreId) : List RingRec :=
  let lo := (b.extractLsb' 32 96).toNat
  let flags := lo / 2 ^ 24 % 256
  let hd := (lo / 2 ^ 8 % 2 ^ 16 * 2 ^ 8 + 4 + (flags &&& 17) * 2 ^ 24 + lo / 2 ^ 32 * 2 ^ 32) * 2 ^ 32
  (gangBodies hd (ms.map fun m => gangEntry (s.core m) m)).map fun b =>
    ({ kind := 4#8, code := code, body := b, ctx := ctx, slots := [] } : RingRec)

/-- A fault or an escalated trap of its own has stopped the A-strand (R299, R304). -/
def Core.aFaulted (k : Core) : Bool := k.hold.any fun h => h.stands || h.strand == .a && h.kind != .gangStop

/-- The program counter a strand stands at (DEDUCED, log 16). -/
def Core.pcOf (k : Core) : Strand → Word
  | .a => k.a.pc
  | .x => k.x.pc
/-- The word a strand has fetched. -/
def Core.wordOf (k : Core) : Strand → W32
  | .a => k.a.ir
  | .x => k.x.ir

/-- Queues records for the ring of partition p (R296). -/
def State.queueRecs (s : State) (p : PartId) (rs : List RingRec) : State :=
  s.modPart p fun P => { P with sup := { P.sup with ring := P.sup.ring ++ rs } }

/-- The other members of a gang whose member a fault stops (R33). -/
def State.gangMates (s : State) (c : CoreId) (kind : BitVec 8) : List CoreId :=
  let t := (s.core c).info
  if t.gang.isSome && kind == 0#8 then s.gangOn (s.partOf c) t else []

/-- The record of a held task, and the GANG records of a gang's fault after it (R301, R303). WORD1 is an extension word
that the instruction has and that was fetched. -/
def State.faultRecs (s : State) (c : CoreId) (st : Strand) (kind : BitVec 8) (code : BitVec 8) (f : Flt) : List RingRec :=
  let k := s.core c
  let t := k.info
  let gang := s.gangMates c kind
  let long := st == .a && f.site.isNone && !f.fetch && isLongWord k.a.ir && fL k.a.ir
  let flags := (if st == .x then 1 else 0) + (if gang.isEmpty then 0 else 2) + (if long then 4 else 0)
    + (if f.pc2 then 8 else 0) + (if t.cont.det then 16 else 0)
  let at_ := f.site.getD (k.pcOf st, k.wordOf st)
  let body := recBody kind.toNat code.toNat f.sub.toNat flags c t.cont.ctx t.lrec t.rank at_.1
    at_.2 (if long then k.a.ext else 0) f.i0 f.i1 f.i2
  let slots := if t.inGang then (s.gangOn (s.partOf c) t).map fun m => (s.core m).info.slot else [t.slot]
  { kind := kind, code := code, body := body, ctx := t.cont.ctx, slots := slots }
    :: s.gangRecs body t.cont.ctx code gang

/-- The hold of a task by its own fault in clk n: after an X-strand's fault the A-strand still has the instruction that
it begins in that clk (R299). An escalated trap leaves nothing to come (R304) (DEDUCED, log 91). -/
def ownHold (st : Strand) (kind : BitVec 8) (code : BitVec 8) (n : Nat) : Hold :=
  if kind == 1#8 then { kind := .escalated, code := code, strand := st }
  else { kind := .fault, code := code, strand := st, clk := n, left := if st == .x then [.a] else [] }

/-- The stop of a gang's other member in clk n: each of its strands still has the instruction that it begins in that
clk (R33) (DEDUCED, log 91). -/
def mateHold (code : BitVec 8) (n : Nat) : Hold :=
  { kind := .gangStop, code := code, strand := .a, clk := n, left := [.a, .x] }

/-- A strand that stops on a fault of its own instruction is stopped and in no wait, though the instruction had waited before
it was issued again; one whose watchdog runs out is still in its wait (R303) (DEDUCED, log 91). -/
def Core.endWait (k : Core) (st : Strand) (f : Flt) : Core :=
  if st == .a && f.site.isNone && f.code != .taskTimeout then { k with a := { k.a with wait := none, waitClk := 0 } } else k

/-- Holds a task and queues its record; a gang's other members stop and its GANG records follow (R299, R303, R33). -/
def State.holdTask (s : State) (c : CoreId) (st : Strand) (kind : BitVec 8) (code : BitVec 8) (f : Flt) : State :=
  let recs := (s.modCore c (·.endWait st f)).faultRecs c st kind code f
  let s1 := s.modCore c fun k => { k.endWait st f with hold := some (ownHold st kind code s.clk) }
  let s2 := ((s.gangMates c kind).filter (· != c)).foldl (fun u m => u.modCore m fun k =>
    if k.hold.isSome then k else { k with hold := some (mateHold code s.clk) }) s1
  s2.queueRecs (s.partOf c) recs

/-- Fills the values that the spec leaves open (log 22). -/
def State.closeFlt (s : State) (f : Flt) : Flt × State :=
  if f.open_ then
    let (x, s1) := s.freshWord
    let (y, s2) := s1.freshWord
    ({ f with i0 := x, i1 := y }, s2)
  else (f, s)

/-- The record is a FAULT record for the task of a save slot. -/
def RingRec.faultOf (r : RingRec) (ctx : BitVec 16) (n : BitVec 10) : Bool :=
  r.kind == 0#8 && r.ctx == ctx && r.slots.contains n

/-- Takes the FAULT record of a task and the GANG records after it out of a queue. -/
def dropFault (ctx : BitVec 16) (n : BitVec 10) : List RingRec → List RingRec
  | [] => []
  | r :: l => if r.faultOf ctx n then l.dropWhile (·.kind == 4#8) else r :: dropFault ctx n l

/-- The core's FAULT record waits to be written. -/
def State.faultWaits (s : State) (c : CoreId) : Bool :=
  let t := (s.core c).info
  (s.part (s.partOf c)).sup.ring.any fun r => r.faultOf t.cont.ctx t.slot

/-- The record of core c's fault takes the place of the one that its task, or its gang, waits to have written. After an
X-strand's fault the A-strand still has the instruction that it begins in that clk, unless that has begun (R299)
(DEDUCED, log 91). -/
def State.replaceFault (s : State) (c : CoreId) (st : Strand) (f : Flt) : State :=
  let t := (s.core c).info
  let r := s.closeFlt f
  let u := r.2.modCore c fun k => { k.endWait st f with hold := some { ownHold st 0 (faultNum f.code) s.clk with
    left := if st == .x then (((s.core c).hold.map (·.left)).getD []).filter (· == .a) else [] } }
  (u.modPart (s.partOf c) fun P => { P with sup := { P.sup with
    ring := dropFault t.cont.ctx t.slot P.sup.ring } }).queueRecs (s.partOf c) (u.faultRecs c st 0 (faultNum f.code) r.1)

/-- The faulted member becomes an also faulting one: its fault stays with it (R303) (DEDUCED, log 91). -/
def Core.yieldFault (k : Core) : Core :=
  match k.hold with
  | none => k
  | some h =>
    { k with
      hold := some { h with kind := .also, regs := [], err := none }
      a := { k.a with bad := k.a.bad ++ h.regs }
      errs := h.err.toList ++ k.errs }

/-- A fault of the clk in which a fault took hold of the core, while its record waits to be written. The A-strand's takes
the place of the X-strand's (R299). A member that its gang's fault is stopping is also faulting; the lowest rank of one
clk becomes the faulted member (R303). Otherwise the instruction is left not begun, and faults again once the task goes on
(DEDUCED, log 63) (DEDUCED, log 91). -/
def State.sameClkFault (s : State) (c : CoreId) (st : Strand) (h : Hold) (f : Flt) : State :=
  match h.kind with
  | .escalated => s
  | .fault => if h.strand == .x && st == .a then s.replaceFault c st f else s
  | _ =>
    if h.kind == .also && !(h.strand == .x && st == .a) then s
    else
      let own (k : Core) : Core := { k with hold := some { h with kind := .also, code := faultNum f.code, strand := st } }
      match (s.gangOn (s.partOf c) (s.core c).info).find? fun d => ((s.core d).hold.map (·.kind)) == some .fault with
      | none => s
      | some d =>
        if (s.core c).info.rank < (s.core d).info.rank then
          (s.modCore d (·.yieldFault)).replaceFault c st f
        else s.modCore c own

/-- A fault on a core that a fault already holds: of the same clk, or of an atomic that the A-strand had begun and goes
on with up to its boundary. That one leaves the A-strand standing at the atomic, and makes a member that its gang's fault
stopped an also faulting one (R303) (DEDUCED, log 63) (DEDUCED, log 91). -/
def State.lateFault (s : State) (c : CoreId) (st : Strand) (h : Hold) (f : Flt) : State :=
  if h.clk = s.clk ∧ s.faultWaits c then s.sameClkFault c st h f
  else if st == .a && f.site.isNone && !(s.core c).a.begun.isEmpty then
    s.modCore c fun k => { k with hold := some (if h.kind == .gangStop then
      { h with kind := .also, code := faultNum f.code, strand := .a, stands := true } else { h with stands := true }) }
  else s

/-- The partition stops: every task core is held and the management controller reports it (R306, R377). -/
def State.stopPart (s : State) (p : PartId) : State :=
  let s1 := s.modPart p fun P => { P with stopped := true }
  { s1 with io := { s1.io with
      stopped := s1.io.stopped ||| (1#4 <<< p.toNat)
      msix := s1.io.msix ++ [(0#1, 0#3), (1#1, 0#3)] } }

/-- The FLTCLOSE that the A-strand stands at is not begun: its window is open as before, and no row is done, so that the
instruction issued again computes every row from the window's contents at that point (R37, R178, R244). -/
def Core.reopen (k : Core) : Core :=
  { k with eng := { k.eng with win := Tbl.mapVal (fun _ w => { w with closing := false, done := 0 }) k.eng.win } }

/-- The supervisor core takes an event (R295): SEPC, SCAUSE, INEV, then PC := SVEC. Operands that an atomic keeps are
kept for its return (DEDUCED, log 27). -/
def State.takeEvent (s : State) (p : PartId) (cause : BitVec 8) (pc : Word) : State :=
  let s1 := s.modPart p fun P => { P with sup := { P.sup with
    sepc := pc, scause := cause, inev := true, arm := false, begun := (s.core (s.part p).score).a.begun } }
  s1.modCore (s.part p).score fun k =>
    { k.reopen with a := { k.a with pc := (s.part p).sup.svec, wait := none, waitClk := 0, begun := [], late := false } }

/-- A fault of the supervisor core: an event, or the partition's stop inside a handler (R306) (DEDUCED, log 15)
(DEDUCED, log 16) (DEDUCED, log 62). It is taken whatever EE is, a reading of R295 beside R306 (DESIGN CHOICE, log 102).
The core's X-strand goes on (DESIGN CHOICE, log 121). -/
def State.supFault (s : State) (c : CoreId) (code : BitVec 8) (pc : Word) : State :=
  if (s.part (s.partOf c)).sup.inev then s.stopPart (s.partOf c)
  else (s.modPart (s.partOf c) fun P => { P with sup := { P.sup with pend := P.sup.pend || P.sup.arm } }).takeEvent
    (s.partOf c) code pc

/-- TAKING A FAULT on core c (R299, R306): precise, the strand's PC stays at the instruction. On the supervisor core SEPC
names the faulting instruction; its X-strand's fault, or that of a lane of a gather or scatter, waits while the A-strand
stands within an atomic, which is no boundary (R37, R158, R295): it is found again (DEDUCED, log 16). -/
def State.takeFault (s : State) (c : CoreId) (st : Strand) (f : Flt) : State :=
  let k := s.core c
  if k.isSup then
    if (st == .x || f.site.isSome) && !k.a.begun.isEmpty then s
    else s.supFault c (faultNum f.code) ((f.site.map (·.1)).getD (k.pcOf st))
  else match k.hold with
  | some h => s.lateFault c st h f
  | none =>
    let r := s.closeFlt f
    r.2.holdTask c st 0#8 (faultNum f.code) r.1

/-- An escalated user trap (R304); on the supervisor core it is a fault of that core (log 15). On a core that a fault
already holds the trap is left: it is raised again once the task goes on (DEDUCED, log 63). -/
def State.escalate (s : State) (c : CoreId) (st : Strand) (t : Trap) : State :=
  let k := s.core c
  if k.isSup then s.supFault c t.code (k.pcOf st)
  else if k.hold.isSome then s
  else s.holdTask c st 1#8 t.code { code := .illegal, i0 := t.t0, i1 := t.t1, i2 := t.t2 }

/-- The A-strand's entry into its trap handler (R172). TRAP itself, which is not issued again, retires there (log 37). A
long form that missed its stamp is marked, for it waits for the next frame (R320). -/
def Core.enterTrap (k : Core) (t : Trap) : Core :=
  { k.reopen with
    ctl := { k.ctl with
      tcause := t.code, tinfo0 := t.t0, tinfo1 := t.t1, tinfo2 := t.t2, tinfo3 := t.t3
      tpc := if t.after then k.a.pc + 4 else k.a.pc
      retired := if t.after then k.ctl.retired + 1 else k.ctl.retired }
    a := { k.a with
      inTrap := true, pc := k.ctl.tvec, wait := none, waitClk := 0, dog := if t.after then 0 else k.a.dog
      late := false, missed := if t.code = trapStamp then some k.a.pc else k.a.missed } }

/-- TAKING A USER TRAP on core c (R172, R304): the handler at TVEC, or escalation. -/
def State.takeTrap (s : State) (c : CoreId) (t : Trap) : State :=
  if (s.core c).a.inTrap || (s.core c).ctl.tvec == 0 then s.escalate c .a t
  else s.modCore c (·.enterTrap t)

/-- RETURN from a user trap (R172): the in-trap bit clears and PC := TPC. The mark of a missed stamp stays for the
instruction that the strand comes back to (R320). -/
def Core.leaveTrap (k : Core) : Core :=
  { k with a := { k.a with
      inTrap := false, pc := k.ctl.tpc, missed := if k.a.missed = some k.ctl.tpc then k.a.missed else none } }

/-- RETURN from a supervisor event (R287): PC := SEPC and INEV clears; with PEND the event is taken again at once. -/
def State.leaveEvent (s : State) (p : PartId) : State :=
  let S := (s.part p).sup
  let s1 := s.modPart p fun P => { P with sup := { P.sup with inev := false, pend := false, begun := [] } }
  let s2 := s1.modCore (s.part p).score fun k => { k with a := { k.a with pc := S.sepc, begun := S.begun } }
  if S.pend then s2.takeEvent p 0#8 S.sepc else s2

/-! ### How an instruction ends -/

/-- What an instruction's meaning answers before it is issued on its strand. -/
inductive Eff
  | ok (s : State)                    -- completes; the PC moves past its words
  | jump (s : State) (pc : Word)      -- completes and the PC becomes pc
  | stall (w : Wait)                  -- not begun: nothing has changed (R37)
  | stallIn (s : State) (w : Wait)    -- waits past a first step (GBAR, a handoff, SCALL, END, FLTCLOSE)
  | fault (f : Flt)                   -- precise fault: nothing has changed (R299)
  | faultReg (r : Reg) (f : Flt)      -- POISON of a register, raised once (R36; log 20)
  | trap (t : Trap)                   -- user trap: nothing has changed
  | trapX (qid : BitVec 16) (x : W32) (t : Trap)  -- LINK_SEQ: the queue's X changes, nothing else (R247)

/-- The A-strand stalls: a wait that goes on keeps its elapsed clk (R170). -/
def Core.stallA (k : Core) (w : Wait) : Core :=
  { k with a := { k.a with wait := some w, waitClk := if k.a.wait = some w then k.a.waitClk else 0 } }

/-- The A-strand retires an instruction and stands at pc (R24, Table 02.4) (DEDUCED, log 37). -/
def Core.retireA (k : Core) (pc : Word) : Core :=
  { k with
    a := { k.a with pc := pc, wait := none, waitClk := 0, dog := 0 }
    ctl := { k.ctl with retired := k.ctl.retired + 1 } }

/-- The X-strand stalls. -/
def Core.stallX (k : Core) (w : Wait) : Core := { k with x := { k.x with wait := some w } }

/-- The X-strand retires an instruction and stands at pc. -/
def Core.retireX (k : Core) (pc : Word) : Core :=
  { k with
    x := { k.x with pc := pc, wait := none, dog := 0 }
    ctl := { k.ctl with retired := k.ctl.retired + 1 } }

/-- A fault record or a supervisor event has taken the poison of a register, which faults no more (log 20). -/
def Core.clearBad (k : Core) (r : Reg) : Core :=
  { k with
    a := { k.a with bad := k.a.bad.filter (·.reg != r) }
    hold := k.hold.map fun h => { h with regs := k.a.bad.filter (·.reg == r) } }

/-- An A-strand's fault on core c whose cause is used up by its record, or by the event on the supervisor core: `g` takes
the cause. A fault that no record of its own reports stays with the core (R303) (DEDUCED, log 91). -/
def State.faultOnce (s : State) (c : CoreId) (g : Core → Core) (f : Flt) : State :=
  let u := s.takeFault c .a f
  if (s.core c).isSup || ((u.core c).hold.map fun h => h.kind == .fault && h.strand == .a).getD false then u.modCore c g else u

/-- Sets a link queue's expected number, provisionally for a task (R247). -/
def State.setLinkX (s : State) (qid : BitVec 16) (x : W32) : State :=
  s.modMyPart fun P =>
    match Tbl.find? P.queues qid.toNat with
    | none => P
    | some q =>
      let old := if s.here.isSup || q.xOld.any (·.1 == s.here.holder) then q.xOld else (s.here.holder, q.x) :: q.xOld
      { P with queues := Tbl.set P.queues qid.toNat { q with x := x, xOld := old } }

/-- What exec answers. -/
abbrev Out := Host.Outcome State Fault Refusal

/-- Ends an A-strand instruction of `len` bytes issued in state s on the moving core (DEDUCED, log 37). -/
def finishA (len : Word) (s : State) : Eff → Out
  | .ok t => .next (t.modHere fun k => k.retireA (s.here.a.pc + len))
  | .jump t pc => .next (t.modHere fun k => k.retireA pc)
  | .stall w => .next (s.modHere (·.stallA w))
  | .stallIn t w => .next (t.modHere (·.stallA w))
  | .fault f => .next (s.takeFault s.cur .a f)
  | .faultReg r f => .next (s.faultOnce s.cur (·.clearBad r) f)
  | .trap t => .next (s.takeTrap s.cur t)
  | .trapX q x t => .next ((s.setLinkX q x).takeTrap s.cur t)

/-- A one-word A-strand instruction. -/
def issueA (s : State) (e : Eff) : Out := finishA 4 s e
/-- A two-word A-strand instruction (R121). -/
def issueL (s : State) (e : Eff) : Out := finishA 8 s e

/-- An X-strand user trap becomes pending on its register; the instruction is not begun (R178). -/
def State.pendX (s : State) (r : BitVec 6) : State :=
  s.modHere fun k => { k with x := { k.x with trap := some r, wait := none } }

/-- Ends an X-strand instruction. Its one user trap, REG_EMPTY, is left pending for the A-strand (R178). -/
def issueX (s : State) : Eff → Out
  | .ok t => .next (t.modHere fun k => k.retireX (s.here.x.pc + 4))
  | .jump t pc => .next (t.modHere fun k => k.retireX pc)
  | .stall w => .next (s.modHere (·.stallX w))
  | .stallIn t w => .next (t.modHere (·.stallX w))
  | .fault f => .next (s.takeFault s.cur .x f)
  | .faultReg _ f => .next (s.takeFault s.cur .x f)
  | .trap t => .next (s.pendX (t.t0.setWidth 6))
  | .trapX _ _ t => .next (s.pendX (t.t0.setWidth 6))

end Sys2Proof.Machine
end

