-- ==== Sys2Proof/Machine/Flags.lean ====
section
/-! DEFINITION. The sticky flags of RNDM (R51, R81) and the hash of stochastic rounding (R79). -/
namespace Sys2Proof.Machine

/-- Flags in the order of RNDM[13:8] (Table 02.5). -/
abbrev Flags := BitVec 6
def flNV : Flags := 1#6
def flDZ : Flags := 2#6
def flOF : Flags := 4#6
def flUF : Flags := 8#6
def flNX : Flags := 16#6
def flSAT : Flags := 32#6

/-- One flag, raised or not. -/
def flIf (c : Bool) (f : Flags) : Flags := if c then f else 0#6

/-- Flags accumulate; those of this clk stand in `recent` too (R51). -/
def Core.raise (k : Core) (f : Flags) : Core :=
  { k with ctl := { k.ctl with flags := k.ctl.flags ||| f, recent := k.ctl.recent ||| f } }
/-- Flags raised by the moving core. -/
def State.raise (s : State) (f : Flags) : State := s.modHere (·.raise f)

/-- RNDM as RDCTL reads it (Table 02.5). -/
def Ctl.rndm (c : Ctl) : Word := .ofNat 64 (c.mode.code.toNat + c.flags.toNat * 256)

/-- Mix64 (R79). -/
def mix64 (z0 : Word) : Word :=
  let z1 := z0 ^^^ (z0 >>> 30)
  let z2 := z1 * 0xBF58476D1CE4E5B9#64
  let z3 := z2 ^^^ (z2 >>> 27)
  let z4 := z3 * 0x94D049BB133111EB#64
  z4 ^^^ (z4 >>> 31)

/-- SRHash(key, seq, idx) (R79). -/
def srHash (key : Word) (seq idx : W32) : Nat :=
  bits (mix64 (key ^^^ mix64 (seq ++ idx))) 63 48

end Sys2Proof.Machine
end

