-- ==== Sys2Proof/Machine/Scratch.lean ====
section
/-! DEFINITION. The scratchpad: address decode, the overflow window, own and peer accesses, full bits (R55-R59, R381). -/
namespace Sys2Proof.Machine

/-- What a scratchpad address names (Table 03.1). -/
inductive SpAddr
  | own (a : Nat)
  | peer (a : Nat)
  deriving DecidableEq, Repr

/-- Table 03.1. -/
def spDecode (v : Word) : Option SpAddr :=
  if bits v 63 19 = 0 then some (.own (bits v 18 0))
  else if bits v 63 24 = 0 ∧ bits v 23 23 = 1 ∧ bits v 22 19 = 0 then some (.peer (bits v 18 0))
  else none

/-- The checks of a scratchpad operand in the order of R387: its space, its alignment, its end. `peerOk` says that a
peer address is allowed; whether it names a peer is tested after them, an order that the spec leaves open
(DESIGN CHOICE, log 97). -/
def spCheck (v : Word) (size align : Nat) (peerOk : Bool) : Except FCode SpAddr :=
  match spDecode v with
  | none => .error .prot
  | some t =>
    let a := match t with
      | .own a => a
      | .peer a => a
    let isPeer := match t with
      | .own _ => false
      | .peer _ => true
    if isPeer && !peerOk then .error .prot
    else if a % align != 0 then .error .align
    else if 0x80000 < a + size then .error .prot
    else .ok t

/-- An operand that must lie in the own scratchpad: its byte address. -/
def spOwn (v : Word) (size align : Nat) : Except FCode Nat :=
  match spCheck v size align false with
  | .ok (.own a) => .ok a
  | .ok (.peer _) => .error .prot
  | .error f => .error f

/-- Some 8-byte word of the bytes is uncorrectable (R381) (DEDUCED, log 17). -/
def Spm.badIn (m : Spm) (a n : Nat) : Bool := m.bad.any fun w => decide (a < 8 * w + 8) && decide (8 * w < a + n)

/-- Writes bytes; an uncorrectable word that a restore or a return writes whole is good again (DEDUCED, log 17). -/
def Spm.write (m : Spm) (a : Nat) (bs : List Byte) : Spm :=
  { m with
    mem := m.mem.writeN a bs
    bad := m.bad.filter fun w => !(decide (a ≤ 8 * w) && decide (8 * w + 8 ≤ a + bs.length)) }

/-- Writes the enabled bytes of a list. -/
def Spm.writeEn (m : Spm) (a : Nat) (bs : List (Byte × Bool)) : Spm :=
  { m with
    mem := m.mem.writeEn a bs
    bad := m.bad.filter fun w =>
      !(decide (a ≤ 8 * w) && decide (8 * w + 8 ≤ a + bs.length) && ((bs.drop (8 * w - a)).take 8).all (·.2)) }

/-- An uncorrectable word has a byte that a write enables (R381; log 17). -/
def Spm.badEn (m : Spm) (a : Nat) (bs : List (Byte × Bool)) : Bool :=
  m.bad.any fun w => (List.range 8).any fun i =>
    decide (a ≤ 8 * w + i) && ((bs[8 * w + i - a]?).map (·.2)).getD false

/-- Lines n to n + c - 1 as a mask over the full bits. -/
def lineMask (n c : Nat) : BitVec 4096 := .ofNat 4096 ((2 ^ c - 1) * 2 ^ n)

/-- The full bit of a line (R55). -/
def Spm.isFull (m : Spm) (line : Nat) : Bool := m.full.getLsbD line
/-- Sets the full bits of c lines from line n on (R57). -/
def Spm.markFull (m : Spm) (n c : Nat) : Spm := { m with full := m.full ||| lineMask n c }
/-- Clears the full bits of c lines from line n on (R57). -/
def Spm.markEmpty (m : Spm) (n c : Nat) : Spm := { m with full := m.full &&& ~~~lineMask n c }

/-- Changes the scratchpad of core c. -/
def State.modSpm (s : State) (c : CoreId) (f : Spm → Spm) : State := s.modCore c fun k => { k with spm := f k.spm }

/-- The POISON fault of an uncorrectable scratchpad word: INFO0 names structure 2 (R302, R381). -/
def spPoison : Flt := { code := .poison, i0 := 0xFFFFFFFFFFFFFF02#64 }

/-- The moving core reaches core c through the PEER group of its last GPEER: both tasks hold it, in one partition (R31).
GPEER has checked so; a save image that the program's own store changed gives no other reach (R8) (DEDUCED, log 111). -/
def State.sharesPeerGroup (s : State) (c : CoreId) : Bool :=
  let i := s.here.a.peerGroup
  let G := s.myPart.group i
  s.partOf c == s.partOf s.cur && G.built && G.kind == 2#2 && s.here.holdsGroup i && (s.core c).holdsGroup i

/-- The peer that a peer address reaches, or the fault (R31, R33, R58). `v` is the address, for the record
(DEDUCED, log 84). -/
def State.peerCore (s : State) (v : Word) (vec : Bool) : Except Flt CoreId :=
  match s.here.a.peer with
  | none => .error (addrFlt .prot v .read vec)
  | some c =>
    let k := s.core c
    if !(k.runsTask && s.sharesPeerGroup c) then .error (addrFlt .prot v .read vec)
    else match k.hold with
      | some h =>
        if h.kind == .fault && k.info.inGang then
          .error { code := .peerLost, i0 := c.setWidth 64, i1 := c.setWidth 64 }
        else .ok c
      | none => .ok c

/-- The core whose scratchpad an address reaches. -/
def State.spCore (s : State) (v : Word) (t : SpAddr) (vec : Bool) : Except Flt (CoreId × Nat) :=
  match t with
  | .own a => .ok (s.cur, a)
  | .peer a => (s.peerCore v vec).map fun c => (c, a)

/-- Where an SPM or VMEM access with base register a goes (R59): the overflow window acts only for a = 63. -/
inductive SpRoute
  | local_           -- Table 03.1 decodes the address
  | window (va : Word)  -- redirected to global memory at SPOVF + ea
  | outside          -- at or above 0x8_0000 through sp: PROT
  deriving DecidableEq, Repr

/-- The route of effective address ea through base register a (R59). -/
def Core.route (k : Core) (a : Reg) (ea : Word) : SpRoute :=
  if a != 63#6 then .local_
  else if ea.toNat < k.spco.toNat then .window (k.ctl.spovf + ea)
  else if 0x80000 ≤ ea.toNat then .outside
  else .local_

/-- The bytes of a physical range. -/
def State.physRead (s : State) (pa n : Nat) : List Byte := s.mem.readN pa n

/-- A checked scratchpad read of a scalar access: the value, or the fault (DEDUCED, log 19). -/
def State.spLoad (s : State) (a : Reg) (ea : Word) (size : Nat) : Except Flt Nat :=
  match s.here.route a ea with
  | .outside => .error (addrFlt .prot ea .read false)
  | .window va =>
    match s.xlate s.cur s.here.ctx .read va size with
    | .error f => .error (addrFlt f va .read false)
    | .ok x => if s.poisoned x.pa then .error (poisonFlt va) else .ok (s.mem.get x.pa size)
  | .local_ =>
    match spCheck ea size size true with
    | .error f => .error (addrFlt f ea .read false)
    | .ok t =>
      match s.spCore ea t false with
      | .error f => .error f
      | .ok (c, o) =>
        let m := (s.core c).spm
        if m.badIn o size then .error spPoison else .ok (m.mem.get o size)

/-- A checked scratchpad store of a scalar access (R153): a peer address faults PROT. -/
def State.spStore (s : State) (a : Reg) (ea : Word) (size v : Nat) : Except Flt State :=
  match s.here.route a ea with
  | .outside => .error (addrFlt .prot ea .write false)
  | .window va =>
    match s.xlate s.cur s.here.ctx .write va size with
    | .error f => .error (addrFlt f va .write false)
    | .ok x =>
      if s.linkDown x.pa size then .error (poisonFlt va) else .ok (s.physWrite x.pa (leBytes size v))
  | .local_ =>
    match spOwn ea size size with
    | .error f => .error (addrFlt f ea .write false)
    | .ok o =>
      if s.here.spm.badIn o size then .error spPoison
      else .ok (s.modSpm s.cur (·.write o (leBytes size v)))

end Sys2Proof.Machine
end

