-- ==== Sys2Proof/Machine/Queue.lean ====
section
/-! DEFINITION. Queue-table entries and their items: pops, pushes, and their commit or return (R22, R23, R37,
R160, R246, R247, R250-R253). -/
namespace Sys2Proof.Machine

/-- How a port read or write ends. -/
inductive PortRes
  | val (w : Word) (s : State)
  | wait (w : Wait)
  | flt (f : Flt)
  | trap (qid : BitVec 16) (x : W32) (t : Trap)

/-- Port number 0-7 of a port register s48-s55. -/
def portNo (r : Reg) : BitVec 3 := .ofNat 3 (r.toNat - 48)
/-- s48-s55 are ports (R35). -/
def isPort (r : Reg) : Bool := decide (48 ≤ r.toNat) && decide (r.toNat ≤ 55)

/-- QID, DIR, BUF and BADDR of a queue descriptor (Table 07.5). -/
def descQid (d : Word) : BitVec 16 := d.extractLsb' 0 16
def descPush (d : Word) : Bool := d.getLsbD 16
def descBuf (d : Word) : Bool := d.getLsbD 17
def descBaddr (d : Word) : Nat := bits d 36 18

/-- Entry size in bytes: 8 x 2^ELOG (Table 17.4). -/
def Queue.esize (q : Queue) : Nat := 8 * 2 ^ q.elog.toNat

/-- The standing of a new item: provisional for a task (R22), committed at once for the supervisor (R285). -/
def newSt (h : Option Nat) : ItemSt :=
  match h with
  | some n => .prov n
  | none => .ready

/-- Some item has this number. -/
def Queue.hasNum (q : Queue) (n : Nat) : Bool := q.items.any (·.num == n)

/-- A Rill's pop cursor P: the lowest number that is neither popped nor held (R251). `fuel` bounds the search. -/
def Queue.cursorFrom (q : Queue) : Nat → Nat → Nat
  | 0, n => n
  | fuel + 1, n =>
    if q.gone.contains n || q.items.any (fun i => i.num == n && (match i.st with
        | .taken _ => true
        | .resvIn _ => true
        | _ => false))
    then q.cursorFrom fuel (n + 1) else n
def Queue.cursor (q : Queue) : Nat := q.cursorFrom (q.items.length + q.gone.length) q.head

/-- H advances over every popped number below the lowest unpopped one (R251). -/
def Queue.advance : Nat → Queue → Queue
  | 0, q => q
  | fuel + 1, q =>
    if q.gone.contains q.head then
      Queue.advance fuel { q with head := q.head + 1, gone := q.gone.filter (· != q.head) }
    else q
def Queue.settle (q : Queue) : Queue := Queue.advance (q.gone.length + 1) q

/-- Applies f to the first item that p picks; none if no item is picked. -/
def modFirst (p : QItem → Bool) (f : QItem → QItem) : List QItem → Option (QItem × List QItem)
  | [] => none
  | i :: l => if p i then some (i, f i :: l) else (modFirst p f l).map fun r => (r.1, i :: r.2)

/-- Removes an item from the queue as popped: a Rill remembers its number until H passes it. -/
def Queue.remove (q : Queue) (n : Nat) : Queue :=
  match q.kind with
  | .rill => Queue.settle { q with items := q.items.filter (·.num != n), gone := n :: q.gone }
  | _ => { q with items := q.items.filter (·.num != n), head := q.head + 1 }

/-- The input item reserved for a holder's stage task (R252). -/
def Queue.myInput (q : Queue) (h : Option Nat) : Option QItem :=
  match h with
  | some n => q.items.find? fun i => i.st == .resvIn n
  | none => none

/-- Consecutive committed items from number n on that no task holds. -/
def Queue.runFrom (q : Queue) : Nat → Nat → Nat
  | 0, _ => 0
  | fuel + 1, n => if q.items.any (fun i => i.num == n && i.st == .ready) then 1 + q.runFrom fuel (n + 1) else 0

/-- The item that a pop by this holder delivers now, if any: a stage task's reserved input, a Rill's item P, or the
first item that no task holds (R250-R252) (DEDUCED, log 42). -/
def Queue.next (q : Queue) (h : Option Nat) : Option QItem :=
  match q.kind with
  | .rill =>
    match q.myInput h with
    | some i => some i
    | none => q.items.find? fun i => i.num == q.cursor && i.st == .ready
  | _ => q.items.find? (·.st == .ready)

/-- Entries that can be popped now (R161). -/
def Queue.avail (q : Queue) (h : Option Nat) : Nat :=
  match q.kind with
  | .rill =>
    (match h with
      | some n => q.items.countP (fun i => i.st == .resvIn n)
      | none => 0) + q.runFrom q.items.length q.cursor
  | _ => q.items.countP (·.st == .ready)

/-- Free slots (R161): every item held, provisional or popped without commit keeps its slot, and a popped item's slot is
free once the pop commits (R251). A stage task's reserved slots are its own to push to (DEDUCED, log 42). -/
def Queue.room (q : Queue) (h : Option Nat) : Nat :=
  q.depth - q.items.length +
    (match h with
      | some n => q.items.countP (·.st == .resvOut n)
      | none => 0)

/-- The number the next pushed item of a queue without sequence numbers takes: a unique position. -/
def Queue.freshNum (q : Queue) : Nat := q.items.foldl (fun m i => max m (i.num + 1)) q.head

/-- Index of the next pop and of the tail, for QTIMEOUT (R162) (DEDUCED, log 18). -/
def Queue.headIx (q : Queue) : Nat :=
  match q.kind with
  | .rill => q.cursor
  | .link => q.x.toNat
  | _ => q.head + q.items.countP fun i => match i.st with
      | .taken _ => true
      | _ => false
def Queue.tailIx (q : Queue) : Nat :=
  match q.kind with
  | .rill => (q.items.filter (·.st == .ready)).foldl (fun m i => max m (i.num + 1)) q.cursor
  | .link => q.x.toNat + q.items.countP (·.st == .ready)
  | _ => q.head + q.items.countP (fun i => match i.st with
      | .prov _ => false
      | _ => true)

/-- The queue a descriptor names. -/
def Part.queue (P : Part) (qid : BitVec 16) : Option Queue := Tbl.find? P.queues qid.toNat
/-- Replaces an open queue. -/
def Part.setQueue (P : Part) (qid : BitVec 16) (q : Queue) : Part := { P with queues := Tbl.set P.queues qid.toNat q }

/-- The holder of the moving core's queue effects: its task, or none for the supervisor (R285) (DEDUCED, log 36). -/
def State.holder? (s : State) : Option Nat := if s.here.isSup then none else some s.here.holder

/-- Restores or keeps X for a holder's first change of it (R247). -/
def Queue.saveX (q : Queue) (h : Option Nat) : Queue :=
  match h with
  | none => q
  | some n => if q.xOld.any (·.1 == n) then q else { q with xOld := (n, q.x) :: q.xOld }

/-- Marks an item popped by a holder, or removes it for the supervisor. -/
def Queue.take (q : Queue) (n : Nat) (h : Option Nat) : Queue :=
  match h with
  | none => q.remove n
  | some k => { q with items := q.items.map fun i => if i.num == n then { i with st := .taken k } else i }

/-- What a link queue's item carries as its sequence number: the number stands in the first 4 bytes of `data`. -/
def linkSeq (i : QItem) : W32 := .ofNat 32 (leNat (i.data.take 4))
/-- The entry's own bytes: a link item is kept with its number before it. -/
def Queue.entryBytes (q : Queue) (i : QItem) : List Byte :=
  match q.kind with
  | .link => i.data.drop 4
  | _ => i.data

/-- The value a pop returns (R160). -/
def Queue.popVal (q : Queue) (buf : Bool) (i : QItem) : Word :=
  if buf then
    match q.kind with
    | .rill => .ofNat 64 i.num
    | .link => (linkSeq i).setWidth 64
    | _ => 0
  else .ofNat 64 (leNat i.data)

/-- The pop of an item: the queue after it, the buffer's copy, the value. -/
def State.deliver (s : State) (qid : BitVec 16) (q : Queue) (d : Word) (i : QItem) : State × Word :=
  let q' := q.take i.num s.holder?
  let s1 := s.modMyPart fun P => P.setQueue qid q'
  let s2 := if descBuf d then s1.modSpm s.cur (·.write (descBaddr d) (q.entryBytes i)) else s1
  (s2, q.popVal (descBuf d) i)

/-- A stage task's single pop of its input Rill (R252). -/
def State.notePop (s : State) : State :=
  if s.here.info.stage.isSome then
    s.modMyPart fun P => P.modSlot s.here.info.cont.ctx s.here.info.slot fun r => { r with popped := true }
  else s
/-- The slot record of the moving core's task. -/
def State.mySlot (s : State) : SlotRec := (s.myPart.ctx s.here.info.cont.ctx).slotRec s.here.info.slot

/-- The Rill is the input of the moving core's stage task. -/
def State.isMyInput (s : State) (q : Queue) : Bool :=
  match s.here.info.stage, q.pipe with
  | some st, some (lr, ix) => lr == s.here.info.lrec &&
      ((s.myPart.lrec lr).pipe.stages[st.toNat]?.map (·.inr == ix)).getD false
  | _, _ => false

/-- The Rill is an output of the moving core's stage task. -/
def State.isMyOutput (s : State) (q : Queue) : Bool :=
  s.here.info.stage.isSome && q.pipe.any fun x => x.1 == s.here.info.lrec

/-- Pops that the moving core can make of a queue now: of its stage's input, the one that its task still owes (R161,
R252). -/
def State.popCount (s : State) (q : Queue) : Nat :=
  if s.isMyInput q then
    if s.mySlot.popped then 0 else q.items.countP fun i => i.st == .resvIn s.here.holder
  else q.avail s.holder?

/-- Pushes that it can make now: to its stage's output, those that its task still owes (R161, R252). -/
def State.pushCount (s : State) (q : Queue) : Nat :=
  if s.isMyOutput q then q.items.countP fun i => i.st == .resvOut s.here.holder
  else q.room s.holder?

/-- A queue entry is open to a context in a direction (R159, R310). -/
def Queue.openTo (q : Queue) (ctx : BitVec 16) (push : Bool) : Bool :=
  let b := if push then 1 else 0
  (q.ctxA == ctx && q.rightA.getLsbD b) || (q.ctxB == ctx && q.rightB.getLsbD b)

/-- The queue behind a bound descriptor: an open entry that is the moving core's context's in that direction, its buffer
within the scratchpad. QBIND has checked so (R159); a descriptor that a program's own store put into its save image, and
an entry that has been closed and opened for another context since, reach no queue (R8, R311) (DEDUCED, log 111). -/
def State.boundQueue (s : State) (d : Word) : Option Queue :=
  (s.myPart.queue (descQid d)).filter fun q =>
    q.openTo s.here.ctx (descPush d) && (!descBuf d || decide (descBaddr d + q.esize ≤ 0x80000))

/-- An uncorrectable word lies under the buffer of a port: the entry's way through it faults POISON (R381; log 17). -/
def State.bufBad (s : State) (d : Word) (q : Queue) : Bool := descBuf d && s.here.spm.badIn (descBaddr d) q.esize

/-- A pop through a bound descriptor (R160, R247, R251, R252). -/
def State.popQueue (s : State) (n : BitVec 3) (d : Word) : PortRes :=
  match s.boundQueue d with
  | none => .wait (.pop n)
  | some q =>
    if s.isMyInput q && s.mySlot.popped then .flt { code := .illegal }
    else match q.next s.holder? with
    | none => .wait (.pop n)
    | some i =>
      if q.kind == .link && linkSeq i != q.x then
        .trap (descQid d) (linkSeq i)
          { code := trapLinkSeq, t0 := (descQid d).setWidth 64, t1 := q.x.setWidth 64, t2 := (linkSeq i).setWidth 64 }
      else if s.bufBad d q then .flt spPoison
      else
        let q1 := if q.kind == .link then { q.saveX s.holder? with x := q.x + 1 } else q
        let (s1, v) := s.deliver (descQid d) q1 d i
        .val v (if s.isMyInput q then s1.notePop else s1)

/-- A port read in a source position (R37): q7 pops XQ. -/
def State.popPort (s : State) (r : Reg) : PortRes :=
  let n := portNo r
  if n = 7#3 then
    match s.here.q.xq with
    | [] => .wait (.pop 7#3)
    | w :: l => .val w (s.modHere fun k => { k with q := { k.q with xq := l } })
  else match Tbl.find? s.here.a.ports n.toNat with
    | none => .flt { code := .illegal }
    | some d => if descPush d then .flt { code := .illegal } else s.popQueue n d

/-- The entry a push sends: the written value, or the buffer's first bytes (R160). -/
def State.pushData (s : State) (q : Queue) (d v : Word) : List Byte :=
  if descBuf d then
    let b := s.here.spm.mem.readN (descBaddr d) q.esize
    if q.kind == .link then leBytes 4 (bits v 31 0) ++ b else b
  else leBytes 8 v.toNat

/-- A push to a Rill (R250, R252, R253). -/
def State.pushRill (s : State) (n : BitVec 3) (d v : Word) (q : Queue) : PortRes :=
  let num := v.toNat
  let h := s.holder?
  let data := s.pushData q d v
  let put (q' : Queue) (t : State) : PortRes :=
    if s.bufBad d q then .flt spPoison else .val 0 (t.modMyPart fun P => P.setQueue (descQid d) q')
  if (q.closed || q.limit != 0) && decide (q.limit ≤ num) then .flt { code := .illegal }
  else if s.isMyOutput q then
    -- a stage task fills exactly the slots reserved for it
    match h with
    | none => .flt { code := .illegal }
    | some k =>
      if q.items.any (fun i => i.num == num && i.st == .resvOut k) then
        put { q with seen := max q.seen (num + 1), items := q.items.map fun i =>
          if i.num == num && i.st == .resvOut k then { num := num, data := data, st := .prov k } else i } s
      else .flt { code := .illegal }
  else if decide (num < q.head) || q.hasNum num then .flt { code := .illegal }
  else if q.head + q.depth ≤ num then .wait (.push n)
  else put { q with seen := max q.seen (num + 1), items := q.items ++ [{ num := num, data := data, st := newSt h }] } s

/-- A push through a bound descriptor (R160). -/
def State.pushQueue (s : State) (n : BitVec 3) (d v : Word) : PortRes :=
  match s.boundQueue d with
  | none => .wait (.push n)
  | some q =>
    match q.kind with
    | .rill => s.pushRill n d v q
    | _ =>
      if q.room s.holder? = 0 then .wait (.push n)
      else if s.bufBad d q then .flt spPoison
      else .val 0 (s.modMyPart fun P => P.setQueue (descQid d)
        { q with items := q.items ++ [{ num := q.freshNum, data := s.pushData q d v, st := newSt s.holder? }] })

/-- A port write of a result (R37): q7 and wrong directions fault ILLEGAL. -/
def State.pushPort (s : State) (r : Reg) (v : Word) : PortRes :=
  let n := portNo r
  if n = 7#3 then .flt { code := .illegal }
  else match Tbl.find? s.here.a.ports n.toNat with
    | none => .flt { code := .illegal }
    | some d => if descPush d then s.pushQueue n d v else .flt { code := .illegal }

/-! ### Commit and abandonment -/

/-- A holder's effects on one queue commit: its pops leave, its pushes become visible after every committed item,
its X stands (R21, R22, R246, R247) (DEDUCED, log 42). -/
def Queue.commit (h : Nat) (q : Queue) : Queue :=
  let nums := (q.items.filter (·.st == .taken h)).map (·.num)
  let q1 := nums.foldl (fun q n => q.remove n) q
  let mine := (q1.items.filter (·.st == .prov h)).map fun i => { i with st := ItemSt.ready }
  let rest := q1.items.filter fun i => i.st != .prov h && i.st != .resvIn h && i.st != .resvOut h
  { q1 with items := rest ++ mine, xOld := q1.xOld.filter (·.1 != h) }

/-- A holder's effects on one queue vanish: pops return to their places, pushes and reservations go, X is restored
(R23, R247, R251). -/
def Queue.abandon (h : Nat) (q : Queue) : Queue :=
  let items := (q.items.filter fun i => i.st != .prov h && i.st != .resvOut h).map fun i =>
    if i.st == .taken h || i.st == .resvIn h then { i with st := ItemSt.ready } else i
  let x := (q.xOld.find? (·.1 == h)).map (·.2)
  { q with items := items, x := x.getD q.x, xOld := q.xOld.filter (·.1 != h) }

/-- Commits a holder's queue effects in every queue. -/
def Part.commitQueues (P : Part) (h : Nat) : Part := { P with queues := Tbl.mapVal (fun _ q => q.commit h) P.queues }
/-- Undoes a holder's queue effects in every queue. -/
def Part.abandonQueues (P : Part) (h : Nat) : Part := { P with queues := Tbl.mapVal (fun _ q => q.abandon h) P.queues }

/-- The entry names the context, as its first or its second (Table 17.4). -/
def Queue.names (q : Queue) (ctx : BitVec 16) : Bool := q.ctxA == ctx || q.ctxB == ctx

/-- R388: who may bind a Rill of a pipeline. -/
def State.rillOpen (s : State) (q : Queue) (push : Bool) : Bool :=
  match q.pipe with
  | none => true
  | some (lr, ix) =>
    let blk := (s.myPart.lrec lr).pipe
    let r := blk.rills[ix.toNat]?
    let mine := s.here.info.stage.isSome && s.here.info.lrec == lr
    if mine then
      match blk.stages[(s.here.info.stage.getD 0).toNat]? with
      | none => false
      | some st => if push then st.outs.any (·.1 == ix) else st.inr == ix
    else match r with
      | none => false
      | some e => if push then e.extin else e.extout

end Sys2Proof.Machine
end

