-- ==== Sys2Proof/Machine/Operands.lean ====
section
/-! DEFINITION. Operands: reading and writing scalar registers with their full/empty bits and ports (R35-R37, R139),
vector and predicate registers with their ports (R39-R42, R176, R177), and lanes of a vector register. -/
namespace Sys2Proof.Machine

/-! ### Scalar registers -/

/-- Register r as it stands: s0 reads 0 (R35). -/
def Core.reg (k : Core) (r : Reg) : Word := if r = 0#6 then 0 else Tbl.get 0 k.a.s r.toNat

/-- Writes register r; s0 discards (R35). -/
def Core.setReg (k : Core) (r : Reg) (v : Word) : Core :=
  if r = 0#6 then k else { k with a := { k.a with s := Tbl.set k.a.s r.toNat v } }

/-- Register r is empty; s0 and the ports never are (R36). -/
def Core.isEmpty (k : Core) (r : Reg) : Bool := r != 0#6 && !isPort r && k.a.empty.getLsbD r.toNat

/-- Bit r of the register mask. -/
def regBit (r : Reg) : BitVec 64 := 1#64 <<< r.toNat
/-- Marks register r empty with its value on the way (R36, R140). -/
def Core.awaitReg (k : Core) (p : PendLoad) : Core :=
  if p.reg = 0#6 then k
  else { k with a := { k.a with empty := k.a.empty ||| regBit p.reg, pend := k.a.pend ++ [p] } }

/-- The POISON fault of a register: INFO0 the line, INFO2 the load's PC (R36, R302). -/
def regPoison (b : PoisonReg) : Flt := { code := .poison, i0 := b.line, i2 := b.pc, pc2 := true }

/-- The port r may be used in this direction: a bound port, and q7 for a pop only (R37). -/
def Core.portOk (k : Core) (push : Bool) (r : Reg) : Bool :=
  if portNo r = 7#3 then !push
  else match Tbl.find? k.a.ports (portNo r).toNat with
    | none => false
    | some d => descPush d == push

/-- What an instruction tests before it begins, over the registers it reads and writes: ports it may not use, poisoned
registers, empty sources (a trap where E is set), empty destinations, and only then what `go` waits for: the order of
these tests is the model's (R36, R37) (DESIGN CHOICE, log 99). -/
def State.gate (s : State) (e : Bool) (srcs dsts : List Reg) (go : Eff) : Eff :=
  let k := s.here
  if srcs.any (fun r => isPort r && !k.portOk false r) || dsts.any (fun r => isPort r && !k.portOk true r) then
    .fault { code := .illegal }
  else match k.a.bad.find? fun b => srcs.contains b.reg || dsts.contains b.reg with
  | some b => .faultReg b.reg (regPoison b)
  | none =>
    match srcs.find? k.isEmpty with
    | some r => if e then .trap { code := trapRegEmpty, t0 := r.setWidth 64 } else .stall (.reg r)
    | none =>
      match dsts.find? k.isEmpty with
      | some r => .stall (.reg r)
      | none => go

/-- Reads a source: a port pops (R37). -/
def State.rd (s : State) (r : Reg) (go : Word → State → Eff) : Eff :=
  if isPort r then
    match s.popPort r with
    | .val w t => go w t
    | .wait w => .stall w
    | .flt f => .fault f
    | .trap q x t => .trapX q x t
  else go (s.here.reg r) s

/-- Writes the result: a port pushes (R37). -/
def State.wr (s : State) (r : Reg) (v : Word) (go : State → Eff) : Eff :=
  if isPort r then
    match s.pushPort r v with
    | .val _ t => go t
    | .wait w => .stall w
    | .flt f => .fault f
    | .trap q x t => .trapX q x t
  else go (s.modHere (·.setReg r v))

/-- d := f s[a] (R139). -/
def alu1 (s : State) (d a : Reg) (e : Bool) (f : Word → Word) : Eff :=
  s.gate e [a] [d] (s.rd a fun x s1 => s1.wr d (f x) .ok)
/-- d := f s[a] s[b] (R139). -/
def alu2 (s : State) (d a b : Reg) (e : Bool) (f : Word → Word → Word) : Eff :=
  s.gate e [a, b] [d] (s.rd a fun x s1 => s1.rd b fun y s2 => s2.wr d (f x y) .ok)
/-- d := f s[a] s[b] s[d]: d is read as well as written (R142, Table 07.1 SELNZ). -/
def alu3 (s : State) (d a b : Reg) (e : Bool) (f : Word → Word → Word → Word) : Eff :=
  s.gate e [a, b, d] [d] (s.rd a fun x s1 => s1.rd b fun y s2 => s2.rd d fun z s3 => s3.wr d (f x y z) .ok)
/-- d := f of nothing read. -/
def alu0 (s : State) (d : Reg) (v : Word) : Eff :=
  s.gate false [] [d] (s.wr d v .ok)
/-- Reads one source and goes on. -/
def with1 (s : State) (a : Reg) (e : Bool) (go : Word → State → Eff) : Eff :=
  s.gate e [a] [] (s.rd a go)
/-- Reads two sources and goes on. -/
def with2 (s : State) (a b : Reg) (e : Bool) (go : Word → Word → State → Eff) : Eff :=
  s.gate e [a, b] [] (s.rd a fun x s1 => s1.rd b fun y s2 => go x y s2)
/-- Reads three sources and goes on. -/
def with3 (s : State) (a b c : Reg) (e : Bool) (go : Word → Word → Word → State → Eff) : Eff :=
  s.gate e [a, b, c] [] (s.rd a fun x s1 => s1.rd b fun y s2 => s2.rd c fun z s3 => go x y z s3)
/-- Reads one source, computes, writes d. -/
def calc1 (s : State) (d a : Reg) (e : Bool) (go : Word → State → (Word → State → Eff) → Eff) : Eff :=
  s.gate e [a] [d] (s.rd a fun x s1 => go x s1 fun v s2 => s2.wr d v .ok)

/-! ### Lanes -/

/-- The n lanes of w bits of a vector register, lane 0 first (R39). -/
def lanesOf (w n : Nat) (v : BitVec 4096) : List Nat :=
  (List.range n).map fun i => v.toNat / 2 ^ (w * i) % 2 ^ w

/-- Lanes of w bits put together, lane 0 lowest. -/
def ofLanes (w : Nat) : List Nat → Nat
  | [] => 0
  | x :: l => x + 2 ^ w * ofLanes w l

/-- A vector register from its lanes. -/
def packV (w : Nat) (l : List Nat) : VReg := .ofNat 4096 (ofLanes w l)

/-- The mask of a vector register whose byte b is all ones where the predicate has bit b. -/
def byteMask (p : PReg) : VReg :=
  .ofNat 4096 (ofLanes 8 ((List.range 512).map fun b => if p.getLsbD b then 255 else 0))

/-- Element e of width w is active: the predicate bit of its lowest byte (R40). -/
def active (p : PReg) (w e : Nat) : Bool := p.getLsbD (e * w / 8)

/-- All 512 predicate bits. -/
def allOn : PReg := BitVec.allOnes 512

/-! ### Vector and predicate registers -/

/-- The physical number of a vector register (R41). -/
def Core.physV (k : Core) (n : VNo) : Nat := if n.toNat < 32 then (n.toNat + k.x.vrb.toNat) % 32 else n.toNat
/-- The physical number of a predicate register (R41). -/
def Core.physP (k : Core) (n : PNo) : Nat := if n.toNat < 8 then n.toNat else 8 + (n.toNat - 8 + k.x.prb.toNat) % 8

/-- A vector register as it stands; ports read zero here (R42). -/
def Core.vreg (k : Core) (n : VNo) : VReg := if 56 ≤ n.toNat then 0 else Tbl.get 0 k.x.v (k.physV n)
/-- Writes a vector register that is no port. -/
def Core.setV (k : Core) (n : VNo) (v : VReg) : Core :=
  if 56 ≤ n.toNat then k else { k with x := { k.x with v := Tbl.set k.x.v (k.physV n) v } }
/-- A predicate register: p0 reads all ones (R40). -/
def Core.preg (k : Core) (n : PNo) : PReg := if n = 0#4 then allOn else Tbl.get 0 k.x.p (k.physP n)
/-- Writes a predicate register; p0 discards (R40). -/
def Core.setP (k : Core) (n : PNo) (v : PReg) : Core :=
  if n = 0#4 then k else { k with x := { k.x with p := Tbl.set k.x.p (k.physP n) v } }

/-- Load queue q. -/
def Core.lq (k : Core) (q : BitVec 2) : List LqEnt := Tbl.get [] k.q.lq q.toNat
/-- Replaces load queue q. -/
def Core.setLq (k : Core) (q : BitVec 2) (l : List LqEnt) : Core := { k with q := { k.q with lq := Tbl.set k.q.lq q.toNat l } }
/-- Number of a store queue. -/
def sqNum : Sq → Nat
  | .sq0 => 0 | .sq1 => 1 | .sq2 => 2
/-- Store queue q. -/
def Core.sq (k : Core) (q : Sq) : List SqEnt := Tbl.get [] k.q.sq (sqNum q)
/-- Replaces store queue q. -/
def Core.setSq (k : Core) (q : Sq) (l : List SqEnt) : Core := { k with q := { k.q with sq := Tbl.set k.q.sq (sqNum q) l } }

/-- The load queue that a vector port v56-v59 pops. -/
def lqOfPort (n : VNo) : BitVec 2 := .ofNat 2 (n.toNat - 56)
/-- v56-v59 pop load queues (R42). -/
def isPopV (n : VNo) : Bool := decide (56 ≤ n.toNat) && decide (n.toNat ≤ 59)
/-- The store queue that v60-v62 push. -/
def sqOfPort (n : VNo) : Sq := if n.toNat = 60 then .sq0 else if n.toNat = 61 then .sq1 else .sq2

/-- The POISON fault of a popped entry (R158, R302). -/
def lqPoison (line : Word) : Flt := { code := .poison, i0 := line }

/-- The X-strand's pop completes the A-strand's handed-off push, if the A-strand stands in that wait (R18, R154)
(DEDUCED, log 35). -/
def Core.endHandoff (k : Core) (q : BitVec 2) : Core :=
  if k.a.handoff = some (q, k.a.pc) ∧ k.a.wait = some (.handoff q) then
    let k1 := k.retireA (k.a.pc + 4)
    { k1 with a := { k1.a with handoff := none } }
  else k

/-- A source port has no entry to pop: the instruction stalls, or with E takes REG_EMPTY (R177, R178). -/
def noEntry (e : Bool) (n : VNo) : Eff :=
  if e then .trap { code := trapRegEmpty, t0 := n.setWidth 64 } else .stall (.vpop (lqOfPort n))

/-- Reads a vector source: v56-v59 pop, v60-v63 read zero (R42). A poisoned entry faults (R158). -/
def State.rdV (s : State) (e : Bool) (n : VNo) (go : VReg → State → Eff) : Eff :=
  if isPopV n then
    match s.here.lq (lqOfPort n) with
    | [] => noEntry e n
    | x :: l =>
      if x.gather.isSome then noEntry e n
      else match x.bad with
        | some line => .fault (lqPoison line)
        | none => go x.data (s.modHere fun k => (k.setLq (lqOfPort n) l).endHandoff (lqOfPort n))
  else go (s.here.vreg n) s

/-- The lane mask of an IQ entry: the active 32-bit lanes of a predicate (R42). -/
def laneMask (p : PReg) : BitVec 128 :=
  .ofNat 128 (ofLanes 1 ((List.range 128).map fun i => (p.getLsbD (4 * i)).toNat))

/-- Entries of a store queue that scatters in flight still hold (R331). -/
def Core.heldSq (k : Core) (q : Sq) : Nat := k.eng.gs.countP fun kv => kv.2.scatter && kv.2.sq == q

/-- Widens a predicate to whole elements: every byte of an element takes its lowest byte's bit (R40). -/
def widen (w : Nat) (p : PReg) : PReg :=
  if w = 8 then p
  else .ofNat 512 (ofLanes 1 ((List.range 512).map fun b => (p.getLsbD (b / (w / 8) * (w / 8))).toNat))

/-- Delivers a result of w-bit elements to vd under predicate `p` (R42, R176): active elements are replaced; a port
pushes the whole register with inactive elements zero, and a store queue takes the predicate's own bits as its byte
enables. -/
def State.wrV (s : State) (n : VNo) (w : Nat) (p : PReg) (v : VReg) (go : State → Eff) : Eff :=
  let m := byteMask (widen w p)
  if n.toNat < 56 then go (s.modHere fun k => k.setV n ((v &&& m) ||| (k.vreg n &&& ~~~m)))
  else if n.toNat = 63 then
    if s.here.q.iq.length + s.here.eng.gs.length < 3 then
      go (s.modHere fun k => { k with q := { k.q with iq := k.q.iq ++ [{ idx := v &&& m, mask := laneMask p }] } })
    else .stall .ipush
  else if n.toNat < 60 then .fault { code := .illegal }
  else if (s.here.sq (sqOfPort n)).length + s.here.heldSq (sqOfPort n) < 3 then
    go (s.modHere fun k => k.setSq (sqOfPort n) (k.sq (sqOfPort n) ++ [{ data := v &&& m, en := p }]))
  else .stall (.vpush (sqOfPort n))

/-- The queue that a vector destination pushes is full: the instruction stalls whatever E holds (R177). -/
def State.noRoom (s : State) (n : VNo) : Option Eff :=
  if n.toNat < 60 then none
  else if n.toNat = 63 then if s.here.q.iq.length + s.here.eng.gs.length < 3 then none else some (.stall .ipush)
  else if (s.here.sq (sqOfPort n)).length + s.here.heldSq (sqOfPort n) < 3 then none
  else some (.stall (.vpush (sqOfPort n)))

/-- What keeps an instruction with these vector sources and this destination from its pops: an entry that is not there,
then a full destination queue (R177). Where a source is empty under E = 1 and the destination is full too, REG_EMPTY is
taken (DESIGN CHOICE, log 99). -/
def State.notReady (s : State) (e : Bool) (d : Option VNo) : List VNo → Option Eff
  | [] => d.bind s.noRoom
  | n :: l =>
    if isPopV n then
      match s.here.lq (lqOfPort n) with
      | [] => some (noEntry e n)
      | x :: r =>
        if x.gather.isSome then some (noEntry e n)
        else State.notReady (s.modHere fun k => (k.setLq (lqOfPort n) r).endHandoff (lqOfPort n)) e d l
    else s.notReady e d l

/-- An instruction begins once its entries and its room are there: nothing is popped before (R177). -/
def State.vgate (s : State) (e : Bool) (srcs : List VNo) (d : Option VNo) (go : Eff) : Eff :=
  (s.notReady e d srcs).getD go

/-- Bits 0 to w - 1. -/
def lowBits (w x : Nat) : Nat := x % 2 ^ w

/-- Flags raised by the active elements only (R176). -/
def laneFlags (w : Nat) (p : PReg) (rs : List (Nat × Flags)) : Flags :=
  (rs.zip (List.range rs.length)).foldl (fun f r => if active p w r.2 then f ||| r.1.2 else f) 0#6

/-- A unary lane function under a predicate: `f e x` gives element e and its flags. -/
def vec1 (s : State) (w : Nat) (d a : VNo) (p : PNo) (e : Bool) (f : Nat → Nat → Nat × Flags) : Eff :=
  let pg := s.here.preg p
  let n := 4096 / w
  s.vgate e [a] (some d) <| s.rdV e a fun x s1 =>
    let rs := (List.range n).zipWith (fun i x => f i x) (lanesOf w n x)
    (s1.raise (laneFlags w pg rs)).wrV d w pg (packV w (rs.map (·.1))) .ok

/-- A binary lane function under a predicate. -/
def vec2 (s : State) (w : Nat) (d a b : VNo) (p : PNo) (e : Bool) (f : Nat → Nat → Nat → Nat × Flags) : Eff :=
  let pg := s.here.preg p
  let n := 4096 / w
  s.vgate e [a, b] (some d) <| s.rdV e a fun x s1 => s1.rdV e b fun y s2 =>
    let rs := (List.range n).zipWith (fun i q => f i q.1 q.2) ((lanesOf w n x).zip (lanesOf w n y))
    (s2.raise (laneFlags w pg rs)).wrV d w pg (packV w (rs.map (·.1))) .ok

/-- A ternary lane function under a predicate; vd is the third source (R42). -/
def vec3 (s : State) (w : Nat) (d a b : VNo) (p : PNo) (e : Bool) (f : Nat → Nat → Nat → Nat → Nat × Flags) : Eff :=
  let pg := s.here.preg p
  let n := 4096 / w
  s.vgate e [a, b, d] (some d) <| s.rdV e a fun x s1 => s1.rdV e b fun y s2 => s2.rdV e d fun z s3 =>
    let rs := (List.range n).zipWith (fun i q => f i q.1 q.2.1 q.2.2)
      ((lanesOf w n x).zip ((lanesOf w n y).zip (lanesOf w n z)))
    (s3.raise (laneFlags w pg rs)).wrV d w pg (packV w (rs.map (·.1))) .ok

/-- A whole-register function of one source, no predicate. -/
def whole1 (s : State) (d a : VNo) (e : Bool) (f : VReg → VReg × Flags) : Eff :=
  s.vgate e [a] (some d) <| s.rdV e a fun x s1 =>
    let r := f x
    (s1.raise r.2).wrV d 8 allOn r.1 .ok

/-- A compare: active lanes of predicate d take the condition (R185). -/
def cmp2 (s : State) (d : PNo) (a b : VNo) (p : PNo) (e : Bool) (f : Nat → Nat → Bool) : Eff :=
  let pg := widen 32 (s.here.preg p)
  s.vgate e [a, b] none <| s.rdV e a fun x s1 => s1.rdV e b fun y s2 =>
    let r : PReg := .ofNat 512 (ofLanes 4 (((lanesOf 32 128 x).zip (lanesOf 32 128 y)).map fun q => if f q.1 q.2 then 15 else 0))
    .ok (s2.modHere fun k => k.setP d ((r &&& pg) ||| (k.preg d &&& ~~~pg)))

end Sys2Proof.Machine
end

