-- ==== Sys2Proof/Machine/Fetch.lean ====
section
/-! DEFINITION. Fetching and decoding a strand's next instruction (R120, R121, R133, R145, R149 of the fetch checks by
R148), and when a strand may issue at all (R17, R299, R304, R330). -/
namespace Sys2Proof.Machine

/-- The word at an instruction address, or the fetch fault (R145, R148). A poisoned line faults POISON (R116)
(DEDUCED, log 83). -/
def State.fetchWord (s : State) (c : CoreId) (va : Word) : Except Flt W32 :=
  match s.xlate c (s.core c).ctx .fetch va 4 with
  | .error f => .error { addrFlt f va .fetch false with fetch := true }
  | .ok x => if s.poisoned x.pa then .error { poisonFlt va with fetch := true } else .ok (.ofNat 32 (s.mem.get x.pa 4))

/-- What a fetch gives: the decoded instruction on its core, or a fault. -/
inductive Fetched
  | run (i : Instr) (s : State)
  | flt (s : State) (f : Flt)

/-- The words a strand has fetched, latched for the fault record (R302) (DESIGN CHOICE, log 14). A strand that a fault
of this clk stops has its last instruction with it (R33, R299). -/
def Core.latch (k : Core) (st : Strand) (w x : W32) : Core :=
  let h := k.hold.map fun h => { h with left := h.left.filter (· != st) }
  match st with
  | .a => { k with a := { k.a with ir := w, ext := x }, hold := h }
  | .x => { k with x := { k.x with ir := w }, hold := h }

/-- Nothing holds the strand, or a fault of this clk does and the strand, in no wait, has not come to the boundary at
which it stops (R33, R299) (DEDUCED, log 91). -/
def State.unheld (s : State) (c : CoreId) (st : Strand) : Bool :=
  let k := s.core c
  match k.hold with
  | none => true
  | some h => h.left.contains st && h.clk == s.clk && (match st with
    | .a => k.a.wait.isNone
    | .x => k.x.wait.isNone)

/-- The extension word of a long form; a fault on it is raised at the first word (R121) (DEDUCED, log 83). -/
def State.fetchExt (s : State) (c : CoreId) (st : Strand) (w : W32) : Except Flt W32 :=
  if st == .a && isLongWord w && fL w then s.fetchWord c (((s.core c).pcOf st) + 4) else .ok 0

/-- Fetches and decodes the next instruction of a strand (R120, R121, R133) (DEDUCED, log 83). -/
def State.fetch (s : State) (c : CoreId) (st : Strand) : Fetched :=
  let k := s.core c
  match s.fetchWord c (k.pcOf st) with
  | .error f => .flt (s.modCore c (·.latch st 0 0)) f
  | .ok w =>
    match s.fetchExt c st w with
    | .error f => .flt (s.modCore c (·.latch st w 0)) f
    | .ok x =>
      let s1 := { s.modCore c (·.latch st w x) with cur := c }
      match decode st k.isSup w x with
      | .ok i => .run i s1
      | .error f => .flt s1 { code := f, i0 := if f = .fmtCode then (foundCode w).setWidth 64 else 0 }

/-- The words at a strand's PC, latched: 0 where they do not come (R301, R381) (DEDUCED, log 83). -/
def State.peek (s : State) (c : CoreId) (st : Strand) : State :=
  let k := s.core c
  match s.fetchWord c (k.pcOf st) with
  | .error _ => s.modCore c (·.latch st 0 0)
  | .ok w =>
    match s.fetchExt c st w with
    | .error _ => s.modCore c (·.latch st w 0)
    | .ok x => s.modCore c (·.latch st w x)

/-- The strand may issue: its core runs a program and is neither held, stopped for a save, past END's first step nor in
a stopped partition; the X-strand runs and holds no pending trap (R17, R178, R299, R304, R306, R330). An atomic that has
begun completes before a hold or a save takes hold of its strand, unless it is what faults (R37, R330). -/
def State.canRun (s : State) (c : CoreId) (st : Strand) : Bool :=
  let k := s.core c
  k.occ != .idle && k.save != .stopped && !(s.part (s.partOf c)).stopped &&
    (match st with
     | .a => (s.unheld c .a && k.save == .none || !k.a.begun.isEmpty && !k.aFaulted) && !k.atEnd
     | .x => s.unheld c .x && k.save == .none && k.x.run == .running && k.x.trap.isNone)

end Sys2Proof.Machine
end

