-- ==== Sys2Proof/Machine/Boot.lean ====
section
/-! DEFINITION. A machine set up so that its next step runs one given instruction (log 8): one partition with page
tables that map the low 512 MiB onto themselves, its supervisor core, and one task core. -/
namespace Sys2Proof.Machine

/-- Physical addresses of the page tables and of the code. -/
def bootL1 : Nat := 0x100000
def bootL2 : Nat := 0x120000
def bootPc : Nat := 0x1000

/-- A table entry: V, P and the frame (Table 19.1). -/
def bootTableEntry : Nat := 3 + bootL2
/-- A 512 MiB leaf on frame 0: V, P, LEAF, W, X, U (Table 19.1). -/
def bootLeafEntry : Nat := 1 + 2 + 4 + 32 + 64 + 128

/-- Memory holding the tables and the instruction's words, each little-endian (R3). -/
def bootMem (w : Nat) : Mem :=
  (Mem.put (Mem.put (Mem.put [] bootPc 8 w) bootL1 16 bootTableEntry) bootL2 16 bootLeafEntry)

/-- Partition 0 on die 0 with supervisor core 0 and context 1 ACTIVE (DESIGN CHOICE, log 8). -/
def bootPart : Part :=
  { up := true, dies := 1#4, score := 0#8, sroot := .ofNat 64 bootL1
    ctxs := [(1, { st := 1#8, root := .ofNat 64 bootL1 })] }

/-- A supervisor core standing at the instruction. -/
def bootSup : Core := { occ := .supervisor, a := { pc := .ofNat 64 bootPc } }
/-- A task core whose A-strand, or X-strand, stands at the instruction. -/
def bootTask (st : Strand) : Core :=
  { occ := .task
    info := { cont := { ctx := 1#16, code := .ofNat 64 bootPc } }
    a := { pc := .ofNat 64 bootPc }
    x := { run := if st == .x then .running else .idle, pc := .ofNat 64 bootPc } }

/-- The word decodes only in supervisor mode. -/
def isPrivWord (w x : W32) : Bool :=
  match decode .a false w x with
  | .error .priv => true
  | _ => false

/-- The state with the instruction placed and its strand next (DESIGN CHOICE, log 8). -/
def State.placeWord (s : State) (w : Nat) : State :=
  let w0 : W32 := .ofNat 32 w
  let st := strandOfMajor (fMajor w0)
  let sup := st == .a && isPrivWord w0 (.ofNat 32 (w / 2 ^ 32))
  let c : CoreId := if sup then 0#8 else 1#8
  { s with
    mem := bootMem w
    cores := if sup then [(0, bootSup)] else [(0, { occ := .supervisor }), (1, bootTask st)]
    parts := [(0, bootPart)]
    agenda := [.strand c st] }

end Sys2Proof.Machine
end

