-- ==== Sys2Proof/Machine/Memory.lean ====
section
/-! DEFINITION. Global loads, stores, atomics and fences of the A-strand (R105, R147-R152). -/
namespace Sys2Proof.Machine

/-- The effective address s[a] + sext(off) x size (R147, R149). -/
def effAddr {n : Nat} (x : Word) (o : BitVec n) (size : Nat) : Word := x + sextW o * .ofNat 64 size

/-- A global access of the moving core, translated and checked under R148. -/
def State.access (s : State) (acc : Acc) (ea : Word) (size : Nat) : Except Flt Xl :=
  match s.xlate s.cur s.here.ctx acc ea size with
  | .error f => .error (addrFlt f ea acc false)
  | .ok x => .ok x

/-- The poisoned line that a read at this place returns, if it is poisoned (R36, R116). -/
def State.badLine (s : State) (pa : Nat) (ea : Word) : Option Word :=
  if s.poisoned pa then some (lineVa ea) else none

/-- The value of a load of n bytes, sign- or zero-extended (R147). -/
def extend (n : Nat) (signed : Bool) (v : Nat) : Word :=
  if signed then (BitVec.ofNat (8 * n) v).signExtend 64 else .ofNat 64 v

/-- A global load: its value is taken at issue and delivered by LOAD_RETURN; d is empty until then (R36, R140,
R147, R149) (DEDUCED, log 4). -/
def loadAt (s : State) (d : Reg) (ea : Word) (size : Nat) (signed : Bool) : Eff :=
  match s.access .read ea size with
  | .error f => .fault f
  | .ok x =>
    .ok (s.modHere (·.awaitReg
      { reg := d, val := extend size signed (s.mem.get x.pa size), bad := s.badLine x.pa ea, pc := s.here.a.pc }))

/-- A load; a port destination faults ILLEGAL and accesses nothing (R140). -/
def loadEff (s : State) (d a : Reg) (f : Word → Word) (size : Nat) (signed : Bool) : Eff :=
  if isPort d then .fault { code := .illegal }
  else s.gate false [a] [d] (s.rd a fun x s1 => loadAt s1 d (f x) size signed)

/-- A store of the low bytes of a value (R147, R116); to a device that has dropped off its link it faults POISON (R379)
(DEDUCED, log 4). -/
def storeAt (s : State) (ea v : Word) (size : Nat) : Eff :=
  match s.access .write ea size with
  | .error f => .fault f
  | .ok x =>
    if s.linkDown x.pa size then .fault (poisonFlt ea) else .ok (s.physWrite x.pa (leBytes size v.toNat))

/-- A store: the address register is read before the data register (R37, R147). -/
def storeEff (s : State) (d a : Reg) (f : Word → Word) (size : Nat) : Eff :=
  with2 s a d false fun x v s1 => storeAt s1 (f x) v size

/-- LDB (R147). -/
def execLdb (d a : Reg) (_c : BitVec 4) (o : BitVec 9) (s : State) : Out := issueA s (loadEff s d a (effAddr · o 1) 1 true)
/-- LDBU (R147). -/
def execLdbu (d a : Reg) (_c : BitVec 4) (o : BitVec 9) (s : State) : Out := issueA s (loadEff s d a (effAddr · o 1) 1 false)
/-- LDH (R147). -/
def execLdh (d a : Reg) (_c : BitVec 4) (o : BitVec 9) (s : State) : Out := issueA s (loadEff s d a (effAddr · o 2) 2 true)
/-- LDHU (R147). -/
def execLdhu (d a : Reg) (_c : BitVec 4) (o : BitVec 9) (s : State) : Out := issueA s (loadEff s d a (effAddr · o 2) 2 false)
/-- LDW (R147). -/
def execLdw (d a : Reg) (_c : BitVec 4) (o : BitVec 9) (s : State) : Out := issueA s (loadEff s d a (effAddr · o 4) 4 true)
/-- LDWU (R147). -/
def execLdwu (d a : Reg) (_c : BitVec 4) (o : BitVec 9) (s : State) : Out := issueA s (loadEff s d a (effAddr · o 4) 4 false)
/-- LDD (R147). -/
def execLdd (d a : Reg) (_c : BitVec 4) (o : BitVec 9) (s : State) : Out := issueA s (loadEff s d a (effAddr · o 8) 8 false)
/-- STB (R147). -/
def execStb (d a : Reg) (_c : BitVec 4) (o : BitVec 9) (s : State) : Out := issueA s (storeEff s d a (effAddr · o 1) 1)
/-- STH (R147). -/
def execSth (d a : Reg) (_c : BitVec 4) (o : BitVec 9) (s : State) : Out := issueA s (storeEff s d a (effAddr · o 2) 2)
/-- STW (R147). -/
def execStw (d a : Reg) (_c : BitVec 4) (o : BitVec 9) (s : State) : Out := issueA s (storeEff s d a (effAddr · o 4) 4)
/-- STD (R147). -/
def execStd (d a : Reg) (_c : BitVec 4) (o : BitVec 9) (s : State) : Out := issueA s (storeEff s d a (effAddr · o 8) 8)
/-- LDACQ: every access performs at issue in one order, so the acquire orders nothing more (R106; log 4). -/
def execLdacq (d a : Reg) (_c : BitVec 4) (_sc : Scope) (o : BitVec 6) (s : State) : Out :=
  issueA s (loadEff s d a (effAddr · o 8) 8 false)
/-- STREL (R106, R149; log 4). -/
def execStrel (d a : Reg) (_c : BitVec 4) (_sc : Scope) (o : BitVec 6) (s : State) : Out :=
  issueA s (storeEff s d a (effAddr · o 8) 8)
/-- FENCE: every earlier access has performed already (R105; log 4). -/
def execFence (_m : BitVec 16) (_sc : Scope) (s : State) : Out := issueA s (.ok s)

/-! ### Atomics -/

/-- The new value of an atomic, or none for a CAS that fails (R150). `x` is the operand, `c` the value compared. -/
def amoNew (op : AmoOp) (old x c : Word) : Option Word :=
  match op with
  | .add => some (old + x)
  | .and => some (old &&& x)
  | .or => some (old ||| x)
  | .xor => some (old ^^^ x)
  | .smin => some (if x.slt old then x else old)
  | .smax => some (if old.slt x then x else old)
  | .umin => some (if x < old then x else old)
  | .umax => some (if old < x then x else old)
  | .swap => some x
  | .cas => if old = c then some x else none

/-- What an atomic access gives: its old value, poisoned or not, and the state after it. -/
inductive AmoRes
  | done (old : Word) (bad : Option Word) (s : State)
  | page (s : State)       -- the page is being paged in (Table 03.2)
  | flt (f : Flt)

/-- Asks the tier manager for a page, once (R354). -/
def Part.askPage (P : Part) (ctx : BitVec 16) (va : Word) : Part :=
  let r : TierReq := { ctx := ctx, va := va &&& ~~~0xFFFF#64 }
  if P.tierReqs.contains r then P else { P with tierReqs := P.tierReqs ++ [r] }

/-- The page of an access is a CXL page that is not resident (Table 03.2). -/
def notResident (pte : BitVec 128) : Bool := pteTier pte == 1 && !pteRsd pte

/-- The expander page of a leaf lies on a device that has dropped off its link: no page-in may read it and no page-out
may write it (R379) (DESIGN CHOICE, log 107). -/
def State.pageDown (s : State) (pte : BitVec 128) : Bool := s.linkDown (pteFrame pte) 65536

/-- One atomic read-modify-write of 8 bytes (R150): on a poisoned line it writes nothing (DEDUCED, log 27). No page comes
in from a device that has dropped off its link: the atomic meets POISON there (R379) (DESIGN CHOICE, log 107). -/
def State.atomic (s : State) (op : AmoOp) (ea x c : Word) : AmoRes :=
  match s.access .atomic ea 8 with
  | .error f => .flt f
  | .ok l =>
    if notResident l.pte && !s.pageDown l.pte then .page (s.modMyPart (·.askPage s.here.ctx ea))
    else
      let old : Word := .ofNat 64 (s.mem.get l.pa 8)
      match s.badLine l.pa ea with
      | some b => .done old (some b) s
      | none =>
        match amoNew op old x c with
        | some v => .done old none (s.physWrite l.pa (leBytes 8 v.toNat))
        | none => .done old none s

/-- Keeps the operands that a waiting atomic has read (R37) (DEDUCED, log 27). -/
def State.keepOps (s : State) (vs : List Word) : State := s.modHere fun k => { k with a := { k.a with begun := vs } }

/-- Reads an atomic's operands, or takes those kept since it began (R37, R150) (DEDUCED, log 27). -/
def atomOps (s : State) (srcs dsts : List Reg) (rd : (List Word → State → Eff) → Eff) (go : List Word → State → Eff) : Eff :=
  if s.here.a.begun.isEmpty then s.gate false srcs dsts (rd go)
  else go s.here.a.begun s

/-- AMO with its operands: address, operand, compared value. -/
def amoGo (d : Reg) (op : AmoOp) (vs : List Word) (s : State) : Eff :=
  let ea := vs.getD 0 0
  match s.atomic op ea (vs.getD 1 0) (vs.getD 2 0) with
  | .flt f => .fault f
  | .page t => .stallIn (t.keepOps vs) (.page ea)
  | .done old bad t =>
    .ok ((t.keepOps []).modHere (·.awaitReg { reg := d, val := old, bad := bad, pc := s.here.a.pc }))

/-- AMO: CAS compares with s[d]; a port destination faults ILLEGAL (R140, R150). -/
def execAmo (d a b : Reg) (op : AmoOp) (_sc : Scope) (s : State) : Out :=
  issueA s (
    if isPort d then .fault { code := .illegal }
    else atomOps s (if op == .cas then [a, b, d] else [a, b]) [d]
      (fun go => s.rd a fun x s1 => s1.rd b fun y s2 => go [x, y, s2.here.reg d] s2) (amoGo d op))

/-- The group in a slot of the moving core's task, if it is of a kind (R30): 1 BARRIER, 2 PEER, 3 MULTICAST. -/
def State.slotGroup (s : State) (g : BitVec 2) (kind : BitVec 2) : Option (BitVec 8 × Group) :=
  match s.here.groupId g with
  | none => none
  | some i =>
    let G := s.myPart.group i
    if G.built && G.kind == kind then some (i, G) else none

/-- The return descriptor of AMORR (Table 07.2). -/
def amorrAddr (d : Word) : BitVec 19 := d.extractLsb' 0 19
def amorrFlag (d : Word) : BitVec 6 := d.extractLsb' 24 6
def amorrCore (d : Word) : CoreId := d.extractLsb' 32 8
def amorrSlot (d : Word) : BitVec 2 := d.extractLsb' 40 2

/-- The target checks of an AMORR return (R151). -/
def State.amorrTargetOk (s : State) (d : Word) : Bool :=
  if amorrCore d = s.cur then true
  else match s.slotGroup (amorrSlot d) 2#2 with
    | none => false
    | some (i, G) =>
      let t := s.core (amorrCore d)
      G.mask.getLsbD (amorrCore d).toNat && t.runsTask && t.holdsGroup i

/-- The issue checks of AMORR on its descriptor, in order (R151). -/
def State.amorrCheck (s : State) (d : Word) : Option Flt :=
  if bits d 23 19 ≠ 0 ∨ bits d 31 30 ≠ 0 ∨ bits d 63 42 ≠ 0 then some { code := .illegal }
  else if !s.amorrTargetOk d then some (addrFlt .prot ((amorrAddr d).setWidth 64) .write false)
  else if (amorrAddr d).toNat % 8 ≠ 0 then some (addrFlt .align ((amorrAddr d).setWidth 64) .write false)
  else none

/-- AMORR with its operands: address, operand, compared value, descriptor. -/
def amorrGo (op : AmoOp) (vs : List Word) (s : State) : Eff :=
  let ea := vs.getD 0 0
  let d := vs.getD 3 0
  match s.amorrCheck d with
  | some f => .fault f
  | none =>
    match s.atomic op ea (vs.getD 1 0) (vs.getD 2 0) with
    | .flt f => .fault f
    | .page t => .stallIn (t.keepOps vs) (.page ea)
    | .done old bad t =>
      let r : AmorrRet :=
        { core := amorrCore d, task := (t.core (amorrCore d)).holder, addr := amorrAddr d, flag := amorrFlag d
          val := old, bad := bad.isSome }
      .ok { t.keepOps [] with amorr := t.amorr ++ [r] }

/-- AMORR: CAS takes its expected value from s[b] and its new value from s[b+1]; b must be even and at most 46
(R151). -/
def execAmorr (d a b : Reg) (op : AmoOp) (_sc : Scope) (s : State) : Out :=
  issueA s (
    if op == .cas && (b.toNat % 2 != 0 || decide (46 < b.toNat)) then .fault { code := .illegal }
    else if op == .cas then
      atomOps s [a, b, b + 1, d] []
        (fun go => s.rd a fun x s1 => s1.rd b fun y s2 => s2.rd (b + 1) fun z s3 => s3.rd d fun w s4 => go [x, z, y, w] s4)
        (amorrGo op)
    else
      atomOps s [a, b, d] []
        (fun go => s.rd a fun x s1 => s1.rd b fun y s2 => s2.rd d fun w s3 => go [x, y, 0, w] s3) (amorrGo op))

end Sys2Proof.Machine
end

