-- ==== Sys2Proof/Machine/Que.lean ====
section
/-! DEFINITION. Queue-port instructions (R159-R162) and the limited waits (R170). -/
namespace Sys2Proof.Machine

/-- clk the A-strand has spent in this very wait. -/
def Core.elapsed (k : Core) (w : Wait) : Nat := if k.a.wait = some w then k.a.waitClk else 0

/-- A wait with a limit L: it traps once L clk have passed, else it goes on (R170). -/
def limited (s : State) (w : Wait) (L : Word) (t : Trap) : Eff :=
  if L.toNat ≤ s.here.elapsed w then .trap t else .stall w

/-- Unbinds a port (R161). -/
def Core.unbind (k : Core) (n : BitVec 3) : Core := { k with a := { k.a with ports := Tbl.erase k.a.ports n.toNat } }
/-- Binds a port to a descriptor (R159). -/
def Core.bind (k : Core) (n : BitVec 3) (d : Word) : Core :=
  { k with a := { k.a with ports := Tbl.set k.a.ports n.toNat d } }

/-- The checks of QBIND in order (R159, R387, R388). -/
def State.bindCheck (s : State) (d : Word) : Option Flt :=
  if bits d 63 37 ≠ 0 then some { code := .illegal }
  else match s.myPart.queue (descQid d) with
    | none => some protOpen
    | some q =>
      if !(q.openTo s.here.ctx (descPush d)) || !s.rillOpen q (descPush d) then some protOpen
      else if descBuf d && descBaddr d % 64 != 0 then some (addrFlt .align (.ofNat 64 (descBaddr d)) .read false)
      else if !descBuf d && decide (8 < q.esize) then some protOpen
      else if descBuf d && decide (0x80000 < descBaddr d + q.esize) then
        some (addrFlt .prot (.ofNat 64 (descBaddr d)) .read false)
      else none

/-- QBIND: the port is 48-54 (R139, R159). -/
def execQbind (d a : Reg) (e : Bool) (s : State) : Out :=
  issueA s (
    if !isPort d || portNo d == 7#3 then .fault { code := .illegal }
    else with1 s a e fun x s1 =>
      match s1.bindCheck x with
      | some f => .fault f
      | none => .ok (s1.modHere (·.bind (portNo d) x)))

/-- QUNBIND: the port is 48-54; an unbound port is left as it is (R161). -/
def execQunbind (d : Reg) (_e : Bool) (s : State) : Out :=
  issueA s (
    if !isPort d || portNo d == 7#3 then .fault { code := .illegal }
    else .ok (s.modHere (·.unbind (portNo d))))

/-- QSTAT's word for a port (R161). -/
def State.portStat (s : State) (n : BitVec 3) : Word :=
  if n = 7#3 then .ofNat 64 (s.here.q.xq.length + 2 ^ 13)
  else match Tbl.find? s.here.a.ports n.toNat with
    | none => 0
    | some d =>
      let c := match s.boundQueue d with
        | none => 0
        | some q => if descPush d then s.pushCount q else s.popCount q
      .ofNat 64 (c % 2 ^ 13 + 2 ^ 13 + (descPush d).toNat * 2 ^ 14)

/-- QSTAT: the port in a is 48-55 (R139, R161). -/
def execQstat (d a : Reg) (_e : Bool) (s : State) : Out :=
  issueA s (if !isPort a then .fault { code := .illegal } else alu0 s d (s.portStat (portNo a)))

/-- The port can complete one pop or push without a stall (R162). -/
def State.portReady (s : State) (n : BitVec 3) : Bool :=
  if n = 7#3 then !s.here.q.xq.isEmpty
  else match Tbl.find? s.here.a.ports n.toNat with
    | none => false
    | some d =>
      match s.boundQueue d with
      | none => false
      | some q => decide (0 < if descPush d then s.pushCount q else s.popCount q)

/-- The trap of an expired QWAIT (R162; log 18 for the indices). -/
def State.qtimeoutTrap (s : State) (n : BitVec 3) : Trap :=
  if n = 7#3 then { code := trapQtimeout, t0 := 0xFFFF, t1 := 0, t2 := .ofNat 64 s.here.q.xq.length }
  else match Tbl.find? s.here.a.ports n.toNat with
    | none => { code := trapQtimeout }
    | some d =>
      match s.boundQueue d with
      | none => { code := trapQtimeout, t0 := (descQid d).setWidth 64 }
      | some q =>
        { code := trapQtimeout, t0 := (descQid d).setWidth 64, t1 := .ofNat 64 q.headIx, t2 := .ofNat 64 q.tailIx }

/-- QWAIT: the port in d is 48-55 and bound (R139, R162, R170). -/
def execQwait (d a : Reg) (e : Bool) (s : State) : Out :=
  issueA s (
    if !isPort d then .fault { code := .illegal }
    else if portNo d != 7#3 && (Tbl.find? s.here.a.ports (portNo d).toNat).isNone then .fault { code := .illegal }
    else with1 s a e fun L s1 =>
      if s.portReady (portNo d) then .ok s1
      else limited s (.qwait (portNo d) L) L (s.qtimeoutTrap (portNo d)))

end Sys2Proof.Machine
end

