-- ==== Sys2Proof/Machine/Sync.lean ====
section
/-! DEFINITION. Groups, counting flags, dependence tokens and the execute strand (R17, R47, R165-R170). -/
namespace Sys2Proof.Machine

/-! ### Groups -/

/-- A slot number 0-3 in a register field; others are out of range (R139). -/
def slotNo (d : Reg) : Option (BitVec 2) := if d.toNat < 4 then some (d.setWidth 2) else none

/-- The task's phase number on a slot (R166). -/
def Core.phaseOf (k : Core) (g : BitVec 2) : Nat := Tbl.get 0 k.a.phase g.toNat
/-- Members of a group. -/
def Group.size (G : Group) : Nat := (List.range 256).countP fun i => G.mask.getLsbD i

/-- Arrivals one more; the phase completes when every member has arrived (R166) (DEDUCED, log 34). -/
def Group.arrive (G : Group) : Group :=
  if G.arrivals + 1 = G.size then { G with arrivals := 0, phase := G.phase + 1 } else { G with arrivals := G.arrivals + 1 }

/-- Replaces a group-table row. -/
def State.setGroup (s : State) (i : BitVec 8) (G : Group) : State :=
  s.modMyPart fun P => { P with groups := Tbl.set P.groups i.toNat G }

/-- An arrival: the task's phase number and the row (R166) (DEDUCED, log 34). -/
def State.arrive (s : State) (g : BitVec 2) (i : BitVec 8) (G : Group) : State :=
  (s.setGroup i G.arrive).modHere fun k => { k with a := { k.a with phase := Tbl.set k.a.phase g.toNat (k.phaseOf g + 1) } }

/-- The task's previous arrival has completed its phase (R166). -/
def State.mayArrive (s : State) (g : BitVec 2) (G : Group) : Bool := decide (s.here.phaseOf g ≤ G.phase)

/-- GARR (R166). -/
def execGarr (d : Reg) (_e : Bool) (s : State) : Out :=
  issueA s (
    match slotNo d with
    | none => .fault { code := .illegal }
    | some g =>
      match s.slotGroup g 1#2 with
      | none => .fault protOpen
      | some (i, G) => if s.mayArrive g G then .ok (s.arrive g i G) else .stall (.garr g))

/-- The trap of an expired GWAIT or GBAR (R166). -/
def gwaitTrap (g : BitVec 2) (i : BitVec 8) (G : Group) : Trap :=
  { code := trapGwait, t0 := g.setWidth 64, t1 := i.setWidth 64, t2 := .ofNat 64 G.arrivals }

/-- The wait of GWAIT, with limit L, on a group (R166, R170) (DEDUCED, log 34). -/
def gwaitEff (s : State) (g : BitVec 2) (L : Word) (i : BitVec 8) (G : Group) (done : State) : Eff :=
  if s.here.phaseOf g ≤ G.phase then .ok done else limited s (.gwait g L) L (gwaitTrap g i G)

/-- GWAIT (R166). -/
def execGwait (d a : Reg) (e : Bool) (s : State) : Out :=
  issueA s (
    match slotNo d with
    | none => .fault { code := .illegal }
    | some g =>
      with1 s a e fun L s1 =>
        match s1.slotGroup g 1#2 with
        | none => .fault protOpen
        | some (i, G) => gwaitEff s1 g L i G s1)

/-- Notes that the GBAR at a PC is past its arrival, or that none is (DEDUCED, log 35). -/
def State.setGbar (s : State) (v : Option Word) : State := s.modHere fun k => { k with a := { k.a with gbar := v } }

/-- GBAR: its arrival once, then its wait (R166). With the arrival made and the phase not complete, the strand's next
turn tests the wait's limit. -/
def execGbar (d a : Reg) (e : Bool) (s : State) : Out :=
  issueA s (
    match slotNo d with
    | none => .fault { code := .illegal }
    | some g =>
      with1 s a e fun L s1 =>
        match s1.slotGroup g 1#2 with
        | none => .fault protOpen
        | some (i, G) =>
          if s.here.a.gbar = some s.here.a.pc then gwaitEff s1 g L i G (s1.setGbar none)
          else if s1.mayArrive g G then
            let s2 := s1.arrive g i G
            if s2.here.phaseOf g ≤ G.arrive.phase then .ok s2
            else .stallIn ((s.arrive g i G).setGbar (some s.here.a.pc)) (.gwait g L)
          else .stall (.garr g))

/-- GPEER: records the core and the PEER group of the slot (R58, R165) (DEDUCED, log 84). -/
def execGpeer (d a : Reg) (e : Bool) (s : State) : Out :=
  issueA s (
    match slotNo d with
    | none => .fault { code := .illegal }
    | some g =>
      with1 s a e fun x s1 =>
        match s1.slotGroup g 2#2 with
        | none => .fault protOpen
        | some (i, G) =>
          let c : CoreId := x.setWidth 8
          if G.mask.getLsbD c.toNat then
            .ok (s1.modHere fun k => { k with a := { k.a with peer := some c, peerGroup := i } })
          else .fault protOpen)

/-! ### Counting flags -/

/-- Flag f. -/
def Core.flag (k : Core) (f : BitVec 6) : W32 := Tbl.get 0 k.eng.flag f.toNat
/-- Sets flag f. -/
def Core.setFlag (k : Core) (f : BitVec 6) (v : W32) : Core := { k with eng := { k.eng with flag := Tbl.set k.eng.flag f.toNat v } }
/-- An increment, held at 0xFFFF_FFFF (R47). -/
def Core.incFlag (k : Core) (f : BitVec 6) (n : Nat) : Core :=
  k.setFlag f (.ofNat 32 (Nat.min ((k.flag f).toNat + n) (2 ^ 32 - 1)))

/-- FINC (R47, R165). -/
def execFinc (d a : Reg) (e : Bool) (s : State) : Out :=
  issueA s (with1 s a e fun x s1 => .ok (s1.modHere (·.incFlag d (bits x 31 0))))

/-- The trap of an expired FWAIT (R167). -/
def Core.fwaitTrap (k : Core) (f : BitVec 6) (thr : W32) : Trap :=
  { code := trapFwait, t0 := f.setWidth 64, t1 := (k.flag f).setWidth 64, t2 := thr.setWidth 64 }

/-- FWAIT (R167). -/
def execFwait (d a b : Reg) (e : Bool) (s : State) : Out :=
  issueA s (with2 s a b e fun x L s1 =>
    let thr : W32 := x.setWidth 32
    if thr ≤ s1.here.flag d then .ok (s1.modHere fun k => k.setFlag d (k.flag d - thr))
    else limited s1 (.fwait d thr L) L (s1.here.fwaitTrap d thr))

/-- FRD (R165). -/
def execFrd (d a : Reg) (_e : Bool) (s : State) : Out := issueA s (alu0 s d ((s.here.flag a).setWidth 64))
/-- FCLR (R165). -/
def execFclr (d : Reg) (_e : Bool) (s : State) : Out := issueA s (.ok (s.modHere (·.setFlag d 0)))

/-! ### Dependence tokens -/

/-- Token n. -/
def Core.tok (k : Core) (n : Nat) : Tok := Tbl.get {} k.eng.tok n
/-- Sets token n; number 0 means none (R46). -/
def Core.setTok (k : Core) (n : Nat) (t : Tok) : Core :=
  if n = 0 then k else { k with eng := { k.eng with tok := Tbl.set k.eng.tok n t } }
/-- A token's state code (R168). -/
def TokSt.code : TokSt → Nat
  | .idle => 0 | .pending => 1 | .done => 2 | .faulted => 3
/-- A token number 1-31 in a register field (R139). -/
def tokNo (d : Reg) : Option (BitVec 5) := if 1 ≤ d.toNat ∧ d.toNat ≤ 31 then some (d.setWidth 5) else none

/-- The ENGINE fault of a FAULTED token (R168, R302). -/
def engineFlt (n : BitVec 5) (t : Tok) : Flt := { code := .engine, i0 := n.setWidth 64, sub := t.sub }
/-- The trap of an expired TWAIT (R168). -/
def twaitTrap (n : BitVec 5) : Trap := { code := trapTwait, t0 := n.setWidth 64 }

/-- TWAIT (R168). -/
def execTwait (d a : Reg) (e : Bool) (s : State) : Out :=
  issueA s (
    match tokNo d with
    | none => .fault { code := .illegal }
    | some n =>
      with1 s a e fun L s1 =>
        let t := s1.here.tok n.toNat
        match t.st with
        | .idle => .ok s1
        | .done => .ok s1
        | .faulted => .fault (engineFlt n t)
        | .pending => limited s1 (.twait n L) L (twaitTrap n))

/-- TTEST (R168). -/
def execTtest (d a : Reg) (_e : Bool) (s : State) : Out :=
  issueA s (
    match tokNo a with
    | none => .fault { code := .illegal }
    | some n =>
      let t := s.here.tok n.toNat
      alu0 s d (.ofNat 64 (t.sub.toNat * 256 + t.st.code)))

/-! ### The execute strand -/

/-- Starts the X-strand (R17, R41, R169). -/
def Core.startX (k : Core) (pc : Word) : Core :=
  { k with x := { k.x with run := .running, pc := pc, vrb := 0, prb := 0, lc := 0, wait := none, dog := 0
                           trap := none, taken := false } }

/-- FORK: waits while the X-strand runs, unless it is held on a trap (R169, R178) (DEDUCED, log 82). -/
def execFork (a : Reg) (e : Bool) (s : State) : Out :=
  issueA s (with1 s a e fun x s1 =>
    if bits x 1 0 ≠ 0 then .fault (addrFlt .align x .fetch false)
    else if s1.here.x.run == .running && s1.here.x.trap.isNone then .stall .rdv
    else .ok (s1.modHere (·.startX x)))
/-- RDV: waits until the X-strand is idle; a held one is not (R17, R178) (DEDUCED, log 82). -/
def execRdv (s : State) : Out := issueA s (if s.here.x.run == .idle then .ok s else .stall .rdv)

/-- SLIP: n is 0-4 (R165). -/
def execSlip (i : BitVec 12) (_e : Bool) (s : State) : Out :=
  issueA s (
    if 4 < i.toNat then .fault { code := .illegal }
    else .ok (s.modHere fun k => { k with ctl := { k.ctl with slipd := i.setWidth 3 } }))
/-- FRAME: FLEN := s[a][11:0] and FC := 0 in one step (R165, R319). -/
def execFrame (a : Reg) (e : Bool) (s : State) : Out :=
  issueA s (with1 s a e fun x s1 =>
    .ok (s1.modHere fun k => { k with ctl := { k.ctl with flen := x.setWidth 12, fc := 0, fcSub := 0 } }))

end Sys2Proof.Machine
end

