-- ==== Sys2Proof/Machine/Engine.lean ====
section
/-! DEFINITION. What the engines share: accepting a long form with its tokens and stamp (R46, R110, R122, R320), the
start condition of a command, its token's end, and engine sub-codes (R230). -/
namespace Sys2Proof.Machine

/-! ### Engine sub-codes (Table 10.5) -/

def subShape : BitVec 8 := 0x01#8
def subSlot : BitVec 8 := 0x02#8
def subPair : BitVec 8 := 0x03#8
def subRecord : BitVec 8 := 0x10#8
def subPage : BitVec 8 := 0x11#8
def subProt : BitVec 8 := 0x12#8
def subAlign : BitVec 8 := 0x13#8
def subFmt : BitVec 8 := 0x14#8
def subPoison : BitVec 8 := 0x15#8
def subRoute : BitVec 8 := 0x16#8
def subFilter : BitVec 8 := 0x17#8
def subAborted : BitVec 8 := 0x18#8
def subCapacity : BitVec 8 := 0x20#8

/-- The sub-code of an access check that fails in an engine (R230). -/
def subOf : FCode → BitVec 8
  | .page => subPage
  | .align => subAlign
  | .poison => subPoison
  | .fmtCode => subFmt
  | .illegal => subRecord
  | _ => subProt

/-! ### Acceptance -/

/-- The tokens of an accepted command: its own token as it stood before it turned PENDING (R122). -/
def Core.toks (k : Core) (x : Ext) : Toks := { ext := x, pre := k.tok x.prod.toNat }

/-- The produce token turns PENDING (Table 02.3). -/
def Core.produce (k : Core) (x : Ext) : Core := k.setTok x.prod.toNat { st := .pending }

/-- The long form at the A-strand's PC is accepted: its produce token turns PENDING, and it misses its stamp no more
(R122, R320). -/
def Core.acceptNow (k : Core) (x : Ext) : Core :=
  let k1 := k.produce x
  { k1 with a := { k1.a with late := false, missed := if k.a.missed = some k.a.pc then none else k.a.missed } }

/-- The produce token is PENDING: TOKEN_BUSY (R46). -/
def Core.tokenBusy (k : Core) (x : Ext) : Bool := x.prod != 0#5 && (k.tok x.prod.toNat).st == .pending

/-- The TOKEN_BUSY fault (R302). -/
def busyFlt (x : Ext) : Flt := { code := .tokenBusy, i0 := x.prod.setWidth 64 }

/-- The user trap STAMP_OVERRUN (R320). -/
def Core.stampTrap (k : Core) (x : Ext) : Trap :=
  { code := trapStamp, t0 := x.stamp.setWidth 64, t1 := k.ctl.fc.setWidth 64, t2 := if k.ctl.flen ≤ x.stamp then 1 else 0 }

/-- The stamp acts (R122, R320). -/
def Core.stamped (k : Core) (x : Ext) : Bool := k.detm && x.stamp != 0xFFF#12

/-- The stamped long form at the A-strand's PC is late (R320): it has stood past its stamp's tick, or FC is above the
stamp and the form is none that waits for the next frame after a STAMP_OVERRUN (DEDUCED, log 26). -/
def Core.overrun (k : Core) (x : Ext) : Bool :=
  k.a.late || decide (x.stamp < k.ctl.fc) && k.a.missed != some k.a.pc

/-- The stamp lies outside the frame (R320). -/
def Core.outOfFrame (k : Core) (x : Ext) : Bool := k.ctl.flen != 0#12 && decide (k.ctl.flen ≤ x.stamp)

/-- A wait of a stamped long form for its tick or for room in its engine. -/
def Wait.ofLong : Wait → Bool
  | .stamp => true
  | .me => true
  | .ce _ => true
  | .se => true
  | _ => false

/-- The A-strand waits in a stamped long form (R320). -/
def Core.waitsStamped (k : Core) : Bool :=
  isLongWord k.a.ir && k.stamped (Ext.ofWord k.a.ext) && (k.a.wait.map Wait.ofLong).getD false

/-- A stamped instruction whose engine has no room misses its tick (R320): it traps once the tick has passed
(DEDUCED, log 26). -/
def waitRoom (s : State) (x : Ext) (w : Wait) : Eff :=
  if s.here.stamped x && s.here.overrun x then .trap (s.here.stampTrap x) else .stall w

/-- The stamp rule for an instruction that could be accepted (R320) (DEDUCED, log 26). -/
def atStamp (s : State) (x : Ext) (go : Eff) : Eff :=
  let k := s.here
  if !k.stamped x then go
  else if k.outOfFrame x || k.overrun x then .trap (k.stampTrap x)
  else if k.ctl.fc = x.stamp then go
  else .stall .stamp

/-- Accepts a long form that has room: TOKEN_BUSY, then the checks of its acceptance, then its stamp
(DEDUCED, log 26). -/
def acceptLong (s : State) (x : Ext) (chk : Option Flt) (go : Toks → State → Eff) : Eff :=
  if s.here.tokenBusy x then .fault (busyFlt x)
  else match chk with
    | some f => .fault f
    | none => atStamp s x (go (s.here.toks x) (s.modHere (·.acceptNow x)))

/-! ### Starting and ending a command -/

/-- A consumed token as the consumer sees it: its own produce token as it stood before (R122); none reads IDLE. Another
token that a later long form has made PENDING again is seen as it stands at the start (R110, R122)
(DESIGN CHOICE, log 98). -/
def Core.consumed (k : Core) (t : Toks) (n : BitVec 5) : Tok :=
  if n = 0#5 then {} else if n = t.ext.prod then t.pre else k.tok n.toNat

/-- The consumed tokens in the order CONA, CONB, CONC (R110). -/
def Core.consumedAll (k : Core) (t : Toks) : List Tok :=
  [k.consumed t t.ext.cona, k.consumed t t.ext.conb, k.consumed t t.ext.conc]

/-- Whether a command may start (R110). -/
inductive Start
  | wait
  | go
  | fail (sub : BitVec 8)
  deriving DecidableEq, Repr

/-- R110: wait while a consumed token is PENDING; then the first FAULTED one passes its sub-code on. -/
def Core.mayStart (k : Core) (t : Toks) : Start :=
  let l := k.consumedAll t
  if l.any (·.st == .pending) then .wait
  else match l.find? (·.st == .faulted) with
    | some f => .fail f.sub
    | none => .go

/-- The produce token turns DONE, or FAULTED with a sub-code (Table 02.3). -/
def Core.endTok (k : Core) (t : Toks) (r : Option (BitVec 8)) : Core :=
  match r with
  | none => k.setTok t.ext.prod.toNat { st := .done }
  | some sub => k.setTok t.ext.prod.toNat { st := .faulted, sub := sub }

/-- The cores of a partition with image parts that are still absent (R339). -/
def State.absentIn (s : State) (p : PartId) : List CoreId :=
  (s.cores.filter fun kv => !kv.2.absent.isEmpty && s.partOf (.ofNat 8 kv.1) == p).map fun kv => .ofNat 8 kv.1

/-- The engines of core c may go on: a task or the supervisor is on it, not stopped for a save, its partition runs, and
every part that an access can reach has been filled from its image (R339). -/
def State.engineOn (s : State) (c : CoreId) : Bool :=
  let k := s.core c
  k.occ != .idle && k.save != .stopped && !(s.part (s.partOf c)).stopped && (s.absentIn (s.partOf c)).isEmpty

end Sys2Proof.Machine
end

