-- ==== Sys2Proof/Machine/Format.lean ====
section
/-! DEFINITION. Number formats and arithmetic (04_number_formats.md): exact values, rounding, conversion, the function
instructions and quantisation. A code is a number below 2^w. -/
namespace Sys2Proof.Machine

/-- An exact value: NaN, an infinity, or (-1)^neg * m * 2^e. -/
inductive Num
  | nan
  | inf (neg : Bool)
  | fin (neg : Bool) (m : Nat) (e : Int)
  deriving DecidableEq, Repr

/-- Element width in bits (Table 04.1). -/
def elemWidth : Elem → Nat
  | .fp32 => 32 | .fp16 => 16 | .bf16 => 16 | .e4m3 => 8 | .e5m2 => 8 | .e3m2 => 6 | .e2m3 => 6 | .e2m1 => 4
  | .e2m1x => 4 | .int8 => 8 | .uint8 => 8 | .int4 => 4 | .uint4 => 4 | .bin1 => 1

/-- A floating-point format's parameters (Table 04.2). -/
structure FpFmt where
  x : Nat            -- exponent bits
  m : Nat            -- mantissa bits
  bias : Nat
  hasInf : Bool
  maxM : Nat         -- largest finite magnitude: maxM * 2^maxE
  maxE : Int
  nan : Option Nat   -- default NaN
  deriving DecidableEq, Repr

/-- Table 04.2. -/
def fpFmt : Elem → Option FpFmt
  | .fp32 => some { x := 8, m := 23, bias := 127, hasInf := true, maxM := 2 ^ 24 - 1, maxE := 104, nan := some 0x7FC00000 }
  | .fp16 => some { x := 5, m := 10, bias := 15, hasInf := true, maxM := 2047, maxE := 5, nan := some 0x7E00 }
  | .bf16 => some { x := 8, m := 7, bias := 127, hasInf := true, maxM := 255, maxE := 120, nan := some 0x7FC0 }
  | .e4m3 => some { x := 4, m := 3, bias := 7, hasInf := false, maxM := 14, maxE := 5, nan := some 0x7F }
  | .e5m2 => some { x := 5, m := 2, bias := 15, hasInf := true, maxM := 7, maxE := 13, nan := some 0x7E }
  | .e3m2 => some { x := 3, m := 2, bias := 3, hasInf := false, maxM := 7, maxE := 2, nan := none }
  | .e2m3 => some { x := 2, m := 3, bias := 1, hasInf := false, maxM := 15, maxE := -1, nan := none }
  | .e2m1 => some { x := 2, m := 1, bias := 1, hasInf := false, maxM := 3, maxE := 1, nan := none }
  | .e2m1x => some { x := 2, m := 1, bias := 1, hasInf := false, maxM := 3, maxE := 1, nan := none }
  | _ => none

/-- Least and greatest value of an integer format (R74). -/
def intRange : Elem → Int × Int
  | .int8 => (-128, 127) | .uint8 => (0, 255) | .int4 => (-8, 7) | .uint4 => (0, 15) | _ => (0, 0)

/-- The value of a floating-point code (R73). -/
def fpValue (f : FpFmt) (c : Nat) : Num :=
  let s := c / 2 ^ (f.x + f.m) % 2 == 1
  let e := c / 2 ^ f.m % 2 ^ f.x
  let m := c % 2 ^ f.m
  if e = 2 ^ f.x - 1 ∧ f.hasInf then (if m = 0 then .inf s else .nan)
  else if f.nan == some (c % 2 ^ (f.x + f.m)) then .nan
  else if e = 0 then .fin s m (1 - f.bias - f.m)
  else .fin s (2 ^ f.m + m) (e - f.bias - f.m)

/-- The value of an unscaled code (R73-R75). -/
def codeValue (t : Elem) (c : Nat) : Num :=
  match fpFmt t with
  | some f => fpValue f c
  | none =>
    match t with
    | .int8 => if c < 128 then .fin false c 0 else .fin true (256 - c) 0
    | .int4 => if c < 8 then .fin false c 0 else .fin true (16 - c) 0
    | .bin1 => .fin (c == 1) 1 0
    | _ => .fin false c 0

/-- Multiplication by 2^k. -/
def Num.scale (x : Num) (k : Int) : Num :=
  match x with
  | .fin s m e => .fin s m (e + k)
  | y => y

/-- The value of an element of a scaled tile (R75, R76): `entry` is its row-scale entry, `ec` its column scale. -/
def scaledValue (t : Elem) (c : Nat) (entry : BitVec 16) (ec : Byte) : Num :=
  let er := (entry.setWidth 8).toNat
  let sb := (entry.extractLsb' 8 8).toNat
  if er = 255 ∨ ec = 255#8 then .nan
  else
    let v := if t == .e2m1x && c == 8 then codeValue .e4m3 sb else codeValue t c
    v.scale ((er : Int) - 127 + (ec.toNat - 127))

/-! ### Rounding -/

/-- A magnitude: q * 2^e, plus something strictly between 0 and 2^e when `st`. -/
structure Mag where
  q : Nat
  e : Int
  st : Bool := false
  deriving DecidableEq, Repr

/-- Whether the magnitude moves up from t * g, with `rem` of `unit` discarded (R78, R79). -/
def roundUp (mode : Rmode) (h : Nat) (neg odd : Bool) (rem unit : Nat) (st : Bool) : Bool :=
  match mode with
  | .rne => decide (unit < 2 * rem) || (2 * rem == unit && (st || odd))
  | .rz => false
  | .ru => (rem != 0 || st) && !neg
  | .rd => (rem != 0 || st) && neg
  | .rna => decide (unit ≤ 2 * rem)
  | .sr => decide (65536 ≤ rem * 65536 / unit + h)

/-- A magnitude rounded to a grid of spacing 2^g: the multiple, and whether anything was discarded. -/
def roundGrid (mode : Rmode) (h : Nat) (neg : Bool) (x : Mag) (g : Int) : Nat × Bool :=
  if g ≤ x.e then (x.q * 2 ^ (x.e - g).toNat, x.st)
  else
    let unit := 2 ^ (g - x.e).toNat
    let t := x.q / unit
    let rem := x.q % unit
    (t + (roundUp mode h neg (t % 2 == 1) rem unit x.st).toNat, rem != 0 || x.st)

/-- Spacing exponent of a floating-point format at a magnitude (R79). -/
def spacing (f : FpFmt) (x : Mag) : Int := max (x.e + (Nat.log2 x.q : Nat)) (1 - f.bias) - f.m

/-- m * 2^e exceeds m' * 2^e'. -/
def magGt (m : Nat) (e : Int) (m' : Nat) (e' : Int) : Bool :=
  let lo := min e e'
  decide (m' * 2 ^ (e' - lo).toNat < m * 2 ^ (e - lo).toNat)

/-- The code of a grid value m * 2^g of a format, without sign. -/
def fpCode (f : FpFmt) (m : Nat) (g : Int) : Nat :=
  if m < 2 ^ f.m then m
  else if m = 2 ^ (f.m + 1) then (g + 1 + f.m + f.bias).toNat * 2 ^ f.m
  else (g + f.m + f.bias).toNat * 2 ^ f.m + (m - 2 ^ f.m)

/-- The code with a sign bit. -/
def withSign (f : FpFmt) (neg : Bool) (c : Nat) : Nat := c + neg.toNat * 2 ^ (f.x + f.m)

/-- The code of the largest finite magnitude. -/
def maxCode (f : FpFmt) : Nat := fpCode f f.maxM f.maxE
/-- The code of infinity. -/
def infCode (f : FpFmt) : Nat := (2 ^ f.x - 1) * 2 ^ f.m

/-- The overflow result (Table 04.4). -/
def overflow (f : FpFmt) (sat : Bool) (mode : Rmode) (neg : Bool) : Nat × Flags :=
  if sat || !f.hasInf then (withSign f neg (maxCode f), flSAT ||| flNX)
  else
    let toMax := match mode with
      | .rz => true
      | .ru => neg
      | .rd => !neg
      | _ => false
    (withSign f neg (if toMax then maxCode f else infCode f), flOF ||| flNX)

/-- Round(format, x, mode) for a non-zero magnitude and a floating-point format (R78, R81, R82). -/
def roundFp (f : FpFmt) (sat : Bool) (mode : Rmode) (h : Nat) (neg : Bool) (x : Mag) : Nat × Flags :=
  if x.q = 0 && !x.st then (withSign f neg 0, 0#6)
  else
    let g := spacing f x
    let (m, nx) := roundGrid mode h neg x g
    if magGt m g f.maxM f.maxE then overflow f sat mode neg
    else
      let uf := nx && m != 0 && magGt 1 (1 - f.bias) m g
      (withSign f neg (fpCode f m g), flIf nx flNX ||| flIf uf flUF)

/-- Round to an integer format, clamped to its range (R78, R82). -/
def roundInt (t : Elem) (mode : Rmode) (h : Nat) (neg : Bool) (x : Mag) : Nat × Flags :=
  let (m, nx) := roundGrid mode h neg x 0
  let v : Int := if neg then -(m : Int) else m
  let (lo, hi) := intRange t
  let enc (v : Int) : Nat := (v % 2 ^ elemWidth t).toNat
  if v < lo then (enc lo, flSAT ||| flNX)
  else if hi < v then (enc hi, flSAT ||| flNX)
  else (enc v, flIf nx flNX)

/-- Convert(F, x, mode): a finite value rounds, special values follow Table 04.5 (R82-R84). `sat`: a .SAT form
(DEDUCED, log 21). -/
def convert (t : Elem) (sat : Bool) (mode : Rmode) (h : Nat) (x : Num) : Nat × Flags :=
  match fpFmt t with
  | some f =>
    match x with
    | .nan => match f.nan with
      | some c => (c, 0#6)
      | none => (0, flNV ||| flNX)
    | .inf s => if f.hasInf && !sat then (withSign f s (infCode f), 0#6) else (withSign f s (maxCode f), flSAT ||| flNX)
    | .fin s m e =>
      if t == .e2m1x then
        -- code 0b1000 is never written: a zero of either sign is +0 (Table 04.5, R86; log 21)
        let r := roundFp f sat mode h s { q := m, e := e }
        (if r.1 = 8 then 0 else r.1, r.2)
      else roundFp f sat mode h s { q := m, e := e }
  | none =>
    match t with
    | .bin1 => match x with
      | .nan => (0, flNV)
      | .inf s => (s.toNat, 0#6)
      | .fin s m _ => ((s && m != 0).toNat, 0#6)
    | _ => match x with
      | .nan => (0, flNV ||| flNX)
      | .inf s =>
        let (lo, hi) := intRange t
        (((if s then lo else hi) % 2 ^ elemWidth t).toNat, flSAT ||| flNX)
      | .fin s m e => roundInt t mode h s { q := m, e := e }

/-! ### Exact arithmetic -/

/-- The signed integer of a finite value at exponent lo. -/
def toIntAt (s : Bool) (m : Nat) (e lo : Int) : Int :=
  let v : Int := m * 2 ^ (e - lo).toNat
  if s then -v else v

/-- An exact sum with its flags. An exact zero is +0 but in RD, where it is -0; two zeros of one sign keep it (R181). -/
def numAdd (mode : Rmode) (x y : Num) : Num × Flags :=
  match x, y with
  | .nan, _ => (.nan, 0#6)
  | _, .nan => (.nan, 0#6)
  | .inf s, .inf t => if s == t then (.inf s, 0#6) else (.nan, flNV)
  | .inf s, _ => (.inf s, 0#6)
  | _, .inf t => (.inf t, 0#6)
  | .fin s m e, .fin t n f =>
    let lo := min e f
    let v := toIntAt s m e lo + toIntAt t n f lo
    if v = 0 then
      (.fin (if m = 0 ∧ n = 0 ∧ s = t then s else decide (mode = .rd)) 0 lo, 0#6)
    else (.fin (decide (v < 0)) v.natAbs lo, 0#6)

/-- An exact product with its flags (R181: 0 x Inf gives NaN, NV). -/
def numMul (x y : Num) : Num × Flags :=
  match x, y with
  | .nan, _ => (.nan, 0#6)
  | _, .nan => (.nan, 0#6)
  | .inf s, .inf t => (.inf (s != t), 0#6)
  | .inf s, .fin t n _ => if n = 0 then (.nan, flNV) else (.inf (s != t), 0#6)
  | .fin s m _, .inf t => if m = 0 then (.nan, flNV) else (.inf (s != t), 0#6)
  | .fin s m e, .fin t n f => (.fin (s != t) (m * n) (e + f), 0#6)

/-- The other sign. -/
def Num.neg : Num → Num
  | .nan => .nan
  | .inf s => .inf (!s)
  | .fin s m e => .fin (!s) m e

/-- An exact result delivered in a format: Round with the special values of IEEE 754 (R95). -/
def deliver (t : Elem) (mode : Rmode) (h : Nat) (r : Num × Flags) : Nat × Flags :=
  let (c, f) := convert t false mode h r.1
  (c, f ||| r.2)

/-- VADD, VSUB, VMUL, VFMA, VFNMA (R95, R181). -/
def fpAdd (t : Elem) (mode : Rmode) (h x y : Nat) : Nat × Flags :=
  deliver t mode h (numAdd mode (codeValue t x) (codeValue t y))
def fpSub (t : Elem) (mode : Rmode) (h x y : Nat) : Nat × Flags :=
  deliver t mode h (numAdd mode (codeValue t x) (codeValue t y).neg)
def fpMul (t : Elem) (mode : Rmode) (h x y : Nat) : Nat × Flags :=
  deliver t mode h (numMul (codeValue t x) (codeValue t y))
/-- One rounding of z + x * y, or of z - x * y when `neg`. -/
def fpFma (t : Elem) (neg : Bool) (mode : Rmode) (h x y z : Nat) : Nat × Flags :=
  let p := numMul (codeValue t x) (codeValue t y)
  let r := numAdd mode (codeValue t z) (if neg then p.1.neg else p.1)
  deliver t mode h (r.1, r.2 ||| p.2)

/-- x < y on values that are not NaN; -0 = +0. -/
def numLt (x y : Num) : Bool :=
  match x, y with
  | .nan, _ => false
  | _, .nan => false
  | .inf s, .inf t => s && !t
  | .inf s, _ => s
  | _, .inf t => !t
  | .fin s m e, .fin t n f =>
    let lo := min e f
    decide (toIntAt s m e lo < toIntAt t n f lo)

/-- Equal values; -0 = +0; NaN equals nothing. -/
def numEq (x y : Num) : Bool :=
  match x, y with
  | .nan, _ => false
  | _, .nan => false
  | x, y => !numLt x y && !numLt y x

/-- The sign of a value; NaN has none. -/
def Num.isNeg : Num → Bool
  | .nan => false
  | .inf s => s
  | .fin s _ _ => s

/-- The default NaN of a format, or 0. -/
def nanCode (t : Elem) : Nat := ((fpFmt t).bind (·.nan)).getD 0

/-- VMIN and VMAX (R95): NaN loses, -0 < +0, no flag. -/
def fpMin (t : Elem) (x y : Nat) : Nat :=
  match codeValue t x, codeValue t y with
  | .nan, .nan => nanCode t
  | .nan, _ => y
  | _, .nan => x
  | a, b => if numLt a b then x else if numLt b a then y else if a.isNeg then x else y
def fpMax (t : Elem) (x y : Nat) : Nat :=
  match codeValue t x, codeValue t y with
  | .nan, .nan => nanCode t
  | .nan, _ => y
  | _, .nan => x
  | a, b => if numLt a b then y else if numLt b a then x else if a.isNeg then y else x

/-- VCPSGN: x with the sign bit of y (R95, R181). -/
def fpCpsgn (t : Elem) (x y : Nat) : Nat :=
  let b := 2 ^ (elemWidth t - 1)
  x % b + y / b % 2 * b

/-! ### The function instructions (R96, Table 04.8), on FP32 -/

/-- The largest r with r * r <= n, found bit by bit from bit b - 1 down. -/
def isqrtFrom : Nat → Nat → Nat → Nat
  | 0, _, r => r
  | b + 1, n, r => isqrtFrom b n (if (r + 2 ^ b) * (r + 2 ^ b) ≤ n then r + 2 ^ b else r)
def isqrt (n : Nat) : Nat := isqrtFrom (Nat.log2 n / 2 + 1) n 0

/-- FP32's parameters. -/
def fp32 : FpFmt := (fpFmt .fp32).getD { x := 0, m := 0, bias := 0, hasInf := false, maxM := 0, maxE := 0, nan := none }
def nan32 : Nat := 0x7FC00000
def inf32 (neg : Bool) : Nat := withSign fp32 neg (infCode fp32)
def zero32 (neg : Bool) : Nat := withSign fp32 neg 0
def one32 : Nat := 0x3F800000

/-- A positive quotient as a magnitude of at least 100 bits. -/
def magDiv (m : Nat) (e : Int) (n : Nat) (f : Int) : Mag :=
  let k := 100 + Nat.log2 n
  { q := m * 2 ^ k / n, e := e - f - k, st := m * 2 ^ k % n != 0 }

/-- VDIV. -/
def fpDiv (mode : Rmode) (h x y : Nat) : Nat × Flags :=
  match codeValue .fp32 x, codeValue .fp32 y with
  | .nan, _ => (nan32, 0#6)
  | _, .nan => (nan32, 0#6)
  | .inf _, .inf _ => (nan32, flNV)
  | .inf s, .fin t _ _ => (inf32 (s != t), 0#6)
  | .fin s _ _, .inf t => (zero32 (s != t), 0#6)
  | .fin s m e, .fin t n f =>
    if n = 0 then (if m = 0 then (nan32, flNV) else (inf32 (s != t), flDZ))
    else if m = 0 then (zero32 (s != t), 0#6)
    else roundFp fp32 false mode h (s != t) (magDiv m e n f)

/-- VRCP: the quotient of 1 and x. -/
def fpRcp (mode : Rmode) (h x : Nat) : Nat × Flags :=
  match codeValue .fp32 x with
  | .nan => (nan32, 0#6)
  | .inf s => (zero32 s, 0#6)
  | .fin s m e => if m = 0 then (inf32 s, flDZ) else roundFp fp32 false mode h s (magDiv 1 0 m e)

/-- Square root of m * 2^e as a magnitude of at least 60 bits. -/
def magSqrt (m : Nat) (e : Int) : Mag :=
  let m1 := if e % 2 = 0 then m else 2 * m
  let e1 := if e % 2 = 0 then e else e - 1
  let n := m1 * 2 ^ 120
  let r := isqrt n
  { q := r, e := e1 / 2 - 60, st := r * r != n }

/-- VSQRT. -/
def fpSqrt (mode : Rmode) (h x : Nat) : Nat × Flags :=
  match codeValue .fp32 x with
  | .nan => (nan32, 0#6)
  | .inf s => if s then (nan32, flNV) else (inf32 false, 0#6)
  | .fin s m e =>
    if m = 0 then (zero32 s, 0#6)
    else if s then (nan32, flNV)
    else roundFp fp32 false mode h false (magSqrt m e)

/-- Reciprocal square root of m * 2^e as a magnitude of at least 60 bits. -/
def magRsqrt (m : Nat) (e : Int) : Mag :=
  let m1 := if e % 2 = 0 then m else 2 * m
  let e1 := if e % 2 = 0 then e else e - 1
  let n := 2 ^ 180
  let r := isqrt (n / m1)
  { q := r, e := -(e1 / 2) - 90, st := r * r * m1 != n }

/-- VRSQ. -/
def fpRsqrt (mode : Rmode) (h x : Nat) : Nat × Flags :=
  match codeValue .fp32 x with
  | .nan => (nan32, 0#6)
  | .inf s => if s then (nan32, flNV) else (zero32 false, 0#6)
  | .fin s m e =>
    if m = 0 then (inf32 s, flDZ)
    else if s then (nan32, flNV)
    else roundFp fp32 false mode h false (magRsqrt m e)

/-- An enclosure of 2^f, f the fraction whose bits below the point are those of `frac` at weights 2^-1, 2^-2, ...:
`c` encloses 2^(2^-i) and `r` the product so far, all in units of 2^-p. `frac` has `k` bits left. -/
def expLoop (p : Nat) : Nat → Nat → Nat → Nat × Nat → Nat × Nat → Nat × Nat
  | 0, _, frac, _, r => (r.1, r.2 + (if frac = 0 then 0 else 4))
  | k + 1, n, frac, c, r =>
    let c' := (isqrt (c.1 * 2 ^ p), isqrt (c.2 * 2 ^ p) + 1)
    let top := 2 ^ n
    let r' := if top ≤ 2 * frac then (r.1 * c'.1 / 2 ^ p, r.2 * c'.2 / 2 ^ p + 1) else r
    expLoop p k n (2 * frac % top) c' r'

/-- An enclosure of 2^(frac / 2^n) in units of 2^-p. -/
def exp2Frac (p frac n : Nat) : Nat × Nat :=
  let one := 2 ^ p
  expLoop p p n frac (2 * one, 2 * one) (one, one)

/-- 2^(i + frac / 2^n) rounded, from an enclosure of p bits, then of twice as many until both its ends round alike. A
power that is no integer is algebraic of degree at most 2^n and irrational, so it lies further from every rounding
boundary than some precision that n doublings pass: the first number always suffices to decide (DEDUCED, log 9). -/
def expRound (mode : Rmode) (h : Nat) (i : Int) (frac n : Nat) : Nat → Nat → Nat × Flags
  | fuel, p =>
    let r := exp2Frac p frac n
    let lo := roundFp fp32 false mode h false { q := r.1, e := i - p, st := true }
    match fuel with
    | 0 => lo
    | fuel + 1 =>
      if lo = roundFp fp32 false mode h false { q := r.2, e := i - p, st := true } then lo
      else expRound mode h i frac n fuel (2 * p)

/-- VEXP2: exact at integers, else correctly rounded (R96, R195). -/
def fpExp2 (mode : Rmode) (h x : Nat) : Nat × Flags :=
  match codeValue .fp32 x with
  | .nan => (nan32, 0#6)
  | .inf s => (if s then zero32 false else inf32 false, 0#6)
  | .fin s m e =>
    if m = 0 then (one32, 0#6)
    else
      -- x = i + frac / 2^n with 0 <= frac < 2^n
      let n := (-e).toNat
      let v : Int := if s then -((m * 2 ^ e.toNat : Nat) : Int) else ((m * 2 ^ e.toNat : Nat) : Int)
      let i := v / (2 ^ n : Nat)
      let frac := (v % (2 ^ n : Nat)).toNat
      if 128 ≤ i then overflow fp32 false mode false
      else if i < -400 then roundFp fp32 false mode h false { q := 1, e := -400, st := true }
      else if frac = 0 then roundFp fp32 false mode h false { q := 1, e := i }
      -- |x| at most 2^-100: the power lies strictly between 1 and 1 - 2^-100 or 1 + 2^-100
      else if m * 2 ^ 100 ≤ 2 ^ n then
        roundFp fp32 false mode h false { q := 2 ^ 100 - s.toNat, e := -100, st := true }
      else expRound mode h i frac n 200 112

/-- Bits of log2 found by squaring an enclosure (lo, hi) of a number in [1, 2), in units of 2^-p; none when the
enclosure straddles 2. -/
def logLoop (p : Nat) : Nat → Nat → Nat → Nat → Option Nat
  | 0, _, _, acc => some acc
  | k + 1, lo, hi, acc =>
    let l2 := lo * lo / 2 ^ p
    let h2 := hi * hi / 2 ^ p + 1
    if 2 ^ (p + 1) ≤ l2 then logLoop p k (l2 / 2) (h2 / 2 + 1) (2 * acc + 1)
    else if h2 < 2 ^ (p + 1) then logLoop p k l2 h2 (2 * acc)
    else none

/-- Fraction bits of log2 kept. -/
def logBits : Nat := 112

/-- The first `logBits` fraction bits of log2 of m / 2^l, from a working precision of p bits, then of twice as many
until every squaring decides: no square is 2 exactly, and 2^112 times the operand's 24 bits hold all of them exactly,
which the doublings pass (DEDUCED, log 9). -/
def logFrac (m l : Nat) : Nat → Nat → Nat
  | 0, _ => 0
  | fuel + 1, p =>
    match logLoop p logBits (m * 2 ^ (p - l)) (m * 2 ^ (p - l)) 0 with
    | some fr => fr
    | none => logFrac m l fuel (2 * p)

/-- VLOG2: exact at powers of two, else correctly rounded (R96, R195): its logarithm is irrational, so it lies strictly
above its first bits, and the nearest to 0 is 2^-25 away. -/
def fpLog2 (mode : Rmode) (h x : Nat) : Nat × Flags :=
  match codeValue .fp32 x with
  | .nan => (nan32, 0#6)
  | .inf s => if s then (nan32, flNV) else (inf32 false, 0#6)
  | .fin s m e =>
    if m = 0 then (inf32 true, flDZ)
    else if s then (nan32, flNV)
    else
      let l := Nat.log2 m
      let k : Int := e + l
      if m = 2 ^ l then roundFp fp32 false mode h (decide (k < 0)) { q := k.natAbs, e := 0 }
      else
        let v : Int := k * 2 ^ logBits + logFrac m l 200 280
        if 0 ≤ v then roundFp fp32 false mode h false { q := v.toNat, e := -(logBits : Int), st := true }
        else roundFp fp32 false mode h true { q := (-v).toNat - 1, e := -(logBits : Int), st := true }

/-! ### Quantising a row (R85, R86) -/

/-- |x| as a comparable value: none for NaN. -/
def Num.abs : Num → Num
  | .nan => .nan
  | .inf _ => .inf false
  | .fin _ m e => .fin false m e

/-- A value is zero. -/
def Num.isZero : Num → Bool
  | .fin _ m _ => m == 0
  | _ => false

/-- The greatest |y| over a list, +0 if it has no number. -/
def numMaxAbs (ys : List Num) : Num :=
  ys.foldl (fun a y => if numLt a y.abs then y.abs else a) (.fin false 0 0)

/-- Largest finite magnitude of a target as m * 2^e. -/
def fmaxOf (t : Elem) : Nat × Int :=
  match fpFmt t with
  | some f => (f.maxM, f.maxE)
  | none => ((intRange t).2.toNat, 0)

/-- The smallest e, counted from `e0` up, with amax * 2^(127 - e) <= Fmax. -/
def needFrom (m : Nat) (e : Int) (fm : Nat) (fe : Int) : Nat → Int → Int
  | 0, e0 => e0
  | k + 1, e0 => if magGt m (e + 127 - e0) fm fe then needFrom m e fm fe k (e0 + 1) else e0

/-- The row exponent for amax, and whether it was cut to 254 (R85). The search starts below every exponent that can
satisfy the condition only above it: one binade under the ratio. -/
def rowExp (t : Elem) (amax : Num) : Nat × Bool :=
  match amax with
  | .inf _ => (254, true)
  | .nan => (127, false)
  | .fin _ m e =>
    if m = 0 then (127, false)
    else
      let (fm, fe) := fmaxOf t
      let start : Int := e + Nat.log2 m + 127 - fe - Nat.log2 fm - 1
      let need := needFrom m e fm fe 4 start
      if 254 < need then (254, true) else if need < 0 then (0, false) else (need.toNat, false)

/-- The largest magnitude of a signed integer target is its format maximum, below 0 as above it: the one code beyond it
becomes -Fmax, with SAT and NX (R85, R190) (DESIGN CHOICE, log 115). -/
def quantFloor (t : Elem) (r : Nat × Flags) : Nat × Flags :=
  if (intRange t).1 < 0 ∧ r.1 = 2 ^ (elemWidth t - 1) then (r.1 + 1, flSAT ||| flNX) else r

/-- One element quantised at row exponent er: an infinity becomes the largest value, with SAT and NX (R85). -/
def quantElem (t : Elem) (mode : Rmode) (h : Nat) (er : Nat) (y : Num) : Nat × Flags :=
  match y with
  | .inf s =>
    match fpFmt t with
    | some f => (withSign f s (maxCode f), flSAT ||| flNX)
    | none => quantFloor t (convert t true mode h y)
  | y =>
    let r := convert t true mode h (y.scale (127 - (er : Int)))
    if (fpFmt t).isSome then r else quantFloor t r

/-- The position of the outlier: greatest |y|, lowest index on ties, none if every number is 0 (R86). -/
def outlier (ys : List Num) : Option Nat :=
  let a := numMaxAbs ys
  if a.isZero then none else ys.findIdx? fun y => numEq y.abs a

/-- Every code of an all-zero row is +0; a NaN element converts as R83 (R85). -/
def quantZero (t : Elem) (mode : Rmode) (y : Num) : Nat × Flags :=
  match y with
  | .nan => convert t false mode 0 .nan
  | _ => (0, 0#6)

/-- A NaN in a scaled E2M1X row: 0b1000 if the special byte is a NaN, else +0 with NV and NX (Table 04.5). -/
def quantNanX (sb : Nat) : Nat × Flags := if sb % 128 = 127 then (8, 0#6) else (0, flNV ||| flNX)

/-- Quantise (R85, R86): the codes, the row-scale entry sb ## er, and the flags. `h` gives the hash of element k. -/
def quantise (t : Elem) (mode : Rmode) (h : Nat → Nat) (ys : List Num) : List Nat × BitVec 16 × Flags :=
  let ix := List.range ys.length
  if (numMaxAbs ys).isZero then
    let rs := ys.map (quantZero t mode)
    (rs.map (·.1), 0x007F#16, rs.foldl (fun f r => f ||| r.2) 0#6)
  else if t == .e2m1x then
    match outlier ys with
    | none => ([], 0x007F#16, 0#6)
    | some k =>
      let rest := (ys.zip ix).filterMap fun p => if p.2 = k then none else some p.1
      let amax := numMaxAbs rest
      let (er, cut) := if amax.isZero then (127, false) else rowExp .e2m1 amax
      let yk := (ys.getD k .nan)
      let (sb, f0) := quantElem .e4m3 mode (h k) er yk
      let rs := (ys.zip ix).map fun p =>
        if p.2 = k then (8, f0)
        else match p.1 with
          | .nan => quantNanX sb
          | y =>
            let r := quantElem .e2m1 mode (h p.2) er y
            (if r.1 = 8 then 0 else r.1, r.2)
      (rs.map (·.1), .ofNat 16 (sb * 256 + er), rs.foldl (fun f r => f ||| r.2) (flIf cut flSAT))
  else
    let (er, cut) := rowExp t (numMaxAbs ys)
    let rs := (ys.zip ix).map fun p => quantElem t mode (h p.2) er p.1
    (rs.map (·.1), .ofNat 16 er, rs.foldl (fun f r => f ||| r.2) (flIf cut flSAT))

/-! ### Format pairs (Table 04.6) -/

/-- Accumulator class of a pair: none faults FMT_PAIR; some true is FP32, some false INT32 (R92). -/
def pairClass (a b : Elem) : Option Bool :=
  let isF8 := fun t => t == Elem.e4m3 || t == .e5m2 || t == .e3m2 || t == .e2m3 || t == .e2m1
  let isI := fun t => t == Elem.int8 || t == .uint8 || t == .int4 || t == .uint4
  if a == b && (a == .fp32 || a == .fp16 || a == .bf16) then some true
  else if isF8 a && isF8 b then some true
  else if (a == .e2m1x && (b == .e2m1 || b == .e2m1x)) || (b == .e2m1x && a == .e2m1) then some true
  else if isI a && isI b then some false
  else if a == .bin1 && b == .bin1 then some false
  else if (a == .bin1 && isI b) || (b == .bin1 && isI a) then some false
  else if (a == .bin1 && (isF8 b || b == .e2m1x)) || (b == .bin1 && (isF8 a || a == .e2m1x)) then some true
  else none

end Sys2Proof.Machine
end

