-- ==== Sys2Proof/Machine/Matrix.lean ====
section
/-! DEFINITION. The matrix engine: its registers, commands, operand slots, tile steps, exits and drain
(R43-R45, R88-R93, R203-R218). -/
namespace Sys2Proof.Machine

/-! ### Nest registers (Tables 09.1-09.4) -/

/-- Bits of a register that are not reserved (R203). -/
def mxMask (n : Nat) : Word :=
  if n < 6 then 0x3FFFFFFFFFF#64 else if n = 6 then 0x3FFFFFFFFF3FFF#64 else 0x7FF07FFFF#64

/-- Register n of a latched list. -/
def mxReg (r : List Word) (n : Nat) : Word := r.getD n 0
def nestTrip (r : List Word) (l : Nat) : Nat := bits (mxReg r l) 15 0
def nestBit (r : List Word) (l b : Nat) : Bool := (mxReg r l).getLsbD b
def cfgInt (r : List Word) : Bool := (mxReg r 6).getLsbD 0
def cfgSca (r : List Word) : Bool := (mxReg r 6).getLsbD 1
def cfgScb (r : List Word) : Bool := (mxReg r 6).getLsbD 2
def cfgSplit (r : List Word) : Bool := (mxReg r 6).getLsbD 4
def cfgSplv (r : List Word) : Nat := bits (mxReg r 6) 7 5
def cfgTrb (r : List Word) : Bool := (mxReg r 6).getLsbD 8
def cfgDrn (r : List Word) : Bool := (mxReg r 6).getLsbD 9
def cfgDfmt (r : List Word) : BitVec 4 := (mxReg r 6).extractLsb' 10 4
def dstAddr (r : List Word) : Nat := bits (mxReg r 7) 18 0
def dstAcc (r : List Word) : Nat := bits (mxReg r 7) 25 24
def dstMask (r : List Word) (g : Nat) : Bool := (mxReg r 7).getLsbD (26 + g)
def dstSetf (r : List Word) : Bool := (mxReg r 7).getLsbD 34

/-- The slots of ASET or BSET, ascending: `lo` is 16 or 24. -/
def cfgSet (r : List Word) (lo : Nat) : List (BitVec 3) :=
  ((List.range 8).filter fun n => (mxReg r 6).getLsbD (lo + n)).map (BitVec.ofNat 3)

/-- pos of R207 over an index vector, i0 first. -/
def walkPos (r : List Word) (base lo hi n : Nat) (ix : List Nat) : Nat :=
  (base + ((List.range 6).zipWith (fun l i => bits (mxReg r l) hi lo * i) ix).foldl (· + ·) 0) % n

/-- Slots, accumulator, row and column offset of a tile step (R207). -/
structure StepAt where
  sa : BitVec 3
  sb : BitVec 3
  x : BitVec 2
  r0 : Nat
  c0 : Nat
  deriving DecidableEq, Repr

/-- R207 at an index vector. -/
def stepAt (r : List Word) (ix : List Nat) : StepAt :=
  let a := cfgSet r 16
  let b := cfgSet r 24
  let c := mxReg r 6
  { sa := a.getD (walkPos r (bits c 34 32) 16 18 a.length ix) 0
    sb := b.getD (walkPos r (bits c 37 35) 19 21 b.length ix) 0
    x := .ofNat 2 (walkPos r (bits c 39 38) 22 23 4 ix)
    r0 := walkPos r (bits c 46 40) 24 30 128 ix
    c0 := walkPos r (bits c 53 47) 31 37 128 ix }

/-- A triple (A position, B position, accumulator) moved by one iteration of level l, coded as 32 a + 4 b + x. -/
def walkMove (r : List Word) (l : Nat) (na nb t : Nat) : Nat :=
  let v := mxReg r l
  32 * ((t / 32 + bits v 18 16) % na) + 4 * ((t / 4 % 8 + bits v 21 19) % nb) + (t % 4 + bits v 23 22) % 4

/-- Closes a set of triples under at most n moves of level l. -/
def walkLevel (r : List Word) (l na nb : Nat) : Nat → List Nat → List Nat → List Nat
  | 0, _, acc => acc
  | n + 1, cur, acc =>
    let nxt := (cur.map (walkMove r l na nb)).foldl insAsc []
    walkLevel r l na nb n nxt (nxt.foldl insAsc acc)

/-- Every triple that the walk visits, ascending. The moves of a level repeat after at most 840. -/
def walkSet (r : List Word) : List Nat :=
  let na := (cfgSet r 16).length
  let nb := (cfgSet r 24).length
  let c := mxReg r 6
  let t0 := 32 * (bits c 34 32 % na) + 4 * (bits c 37 35 % nb) + bits c 39 38
  (List.range 6).foldl (fun S l => walkLevel r l na nb (Nat.min (nestTrip r l) 840) S S) [t0]

/-- The slot pairs that the walk visits. -/
def walkPairs (r : List Word) : List (BitVec 3 × BitVec 3) :=
  (walkSet r).map fun t => ((cfgSet r 16).getD (t / 32) 0, (cfgSet r 24).getD (t / 4 % 8) 0)
/-- The walk names a slot. -/
def walkNames (r : List Word) (n : BitVec 3) : Bool := (walkPairs r).any fun p => p.1 == n || p.2 == n
/-- The walk's accumulator index takes x (R210). -/
def walkAcc (r : List Word) (x : BitVec 2) : Bool := (walkSet r).any fun t => BitVec.ofNat 2 t == x

/-- The nests that are accepted and not completed. -/
def Core.nests (k : Core) : List (List Word) :=
  k.eng.me.cmds.filterMap fun c => match c.op with
    | .go r _ => some r
    | .mode _ _ => none
    | .msk _ => none
/-- Accumulator x is in use: an accepted nest's walk names it (R43, R210). -/
def Core.accInUse (k : Core) (x : BitVec 2) : Bool := k.nests.any (walkAcc · x)
/-- A slot is named by an accepted nest (R215). -/
def Core.slotNamed (k : Core) (n : BitVec 3) : Bool := k.nests.any (walkNames · n)
/-- The ME.GO count of a nest. -/
def MeCmd.no? (c : MeCmd) : Option W32 :=
  match c.op with
  | .go _ no => some no
  | .mode _ _ => none
  | .msk _ => none
/-- The accepted nests whose walk names one of some slots, by their ME.GO count (R215). -/
def Core.nestsOn (k : Core) (l : List (BitVec 3)) : List W32 :=
  k.eng.me.cmds.filterMap fun c => match c.op with
    | .go r no => if l.any (walkNames r) then some no else none
    | .mode _ _ => none
    | .msk _ => none

/-! ### Slots -/

/-- Operand slot n. -/
def Core.slot (k : Core) (n : BitVec 3) : Slot := Tbl.get {} k.eng.slot n.toNat
/-- Replaces slot n. -/
def Core.setSlot (k : Core) (n : BitVec 3) (v : Slot) : Core := { k with eng := { k.eng with slot := Tbl.set k.eng.slot n.toNat v } }
/-- FULL or IN-USE. -/
def Slot.ready (v : Slot) : Bool := v.st == .full || v.st == .inUse
/-- The even slot of the pair that a slot belongs to, or the slot itself. -/
def Core.slotBase (k : Core) (n : BitVec 3) : BitVec 3 := if (k.slot n).pairOdd then n - 1 else n
/-- The slots that move together with slot n (R44). -/
def Core.slotGroup (k : Core) (n : BitVec 3) : List (BitVec 3) :=
  let b := k.slotBase n
  if (k.slot b).pairEven then [b, b + 1] else [b]
/-- Frees a slot, a pair as a whole (R44, R208). A release that an ORELS has deferred for it is done with that
(DESIGN CHOICE, log 110). -/
def Core.freeSlot (k : Core) (n : BitVec 3) : Core := (k.slotGroup n).foldl (fun k m => k.setSlot m {}) k
/-- Code of a slot's state (R215). -/
def SlotSt.code : SlotSt → Nat
  | .free => 0 | .claimed => 1 | .full => 2 | .inUse => 3

/-- The OSTAT value (R215). -/
def Core.ostat (k : Core) : Word :=
  .ofNat 64 (((List.range 8).map fun i =>
    let v := k.slot (.ofNat 3 i)
    v.st.code * 4 ^ i + v.pairEven.toNat * 2 ^ (16 + i) + v.defer.toNat * 2 ^ (24 + i)).foldl (· + ·) 0)

/-- The SLOT_STATE fault of a slot (R302). -/
def Core.slotFlt (k : Core) (n : BitVec 3) : Flt := { code := .slotState, i0 := k.ostat, i1 := n.setWidth 64 }

/-- OCLAIM (R215). -/
def execOclaim (pair : Bool) (n : BitVec 3) (_e : Bool) (s : State) : Out :=
  issueA s (
    let k := s.here
    if pair then
      if n.getLsbD 0 || (k.slot n).st != .free || (k.slot (n + 1)).st != .free then .fault (k.slotFlt n)
      else .ok (s.modHere fun k =>
        (k.setSlot n { st := .claimed, pairEven := true }).setSlot (n + 1) { st := .claimed, pairOdd := true })
    else if (k.slot n).st != .free then .fault (k.slotFlt n)
    else .ok (s.modHere (·.setSlot n { st := .claimed })))

/-- ORELS: at once, or deferred to the end of the last nest accepted by then that names the slot (R215)
(DEDUCED, log 30). A second ORELS of a slot whose release is deferred already waits for the nests accepted by then: the
release moves to the end of the last of them (DESIGN CHOICE, log 110). -/
def execOrels (n : BitVec 3) (_e : Bool) (s : State) : Out :=
  issueA s (
    let k := s.here
    if !(k.slot n).ready then .fault (k.slotFlt n)
    else if (k.slotGroup n).any k.slotNamed then
      let w := k.nestsOn (k.slotGroup n)
      .ok (s.modHere fun k => (k.slotGroup n).foldl (fun k m => k.setSlot m { k.slot m with defer := true, after := w }) k)
    else .ok (s.modHere (·.freeSlot n)))

/-- OSTAT (R215). -/
def execOstat (d : Reg) (_e : Bool) (s : State) : Out := issueA s (alu0 s d s.here.ostat)

/-! ### Commands -/

/-- Shadow register n. -/
def Core.shadow (k : Core) (n : Nat) : Word := Tbl.get 0 k.eng.me.shadow n
/-- Changes the ME. -/
def Core.modMe (k : Core) (f : Me → Me) : Core := { k with eng := { k.eng with me := f k.eng.me } }

/-- The cluster of a core: eight cores. -/
def clusterOf (c : CoreId) : BitVec 3 := c.extractLsb' 3 3
/-- The ring of a die. -/
def State.ring (s : State) (d : BitVec 2) : Ring := Tbl.get {} s.power.rings d.toNat
/-- The core's cluster holds a Breeze token (R217). -/
def State.hasToken (s : State) (c : CoreId) : Bool := (s.ring (dieOf c)).holders.getLsbD (clusterOf c).toNat

/-- MXW: 8 and above fault ILLEGAL (R203). -/
def execMxw (d : Reg) (i : BitVec 12) (e : Bool) (s : State) : Out :=
  issueA s (
    if 8 ≤ i.toNat then .fault { code := .illegal }
    else with1 s d e fun v s1 => .ok (s1.modHere (·.modMe fun m =>
      { m with shadow := Tbl.set m.shadow i.toNat (v &&& mxMask i.toNat) })))
/-- The format code of an operand after SCA or SCB (R208). -/
def effFmt (sc : Bool) (f : BitVec 5) : BitVec 5 := if sc then f else f &&& 15#5

/-- R208's pair check on two format codes (R92, R93). -/
def pairOk (r : List Word) (fa fb : BitVec 5) : Bool :=
  let a := effFmt (cfgSca r) fa
  let b := effFmt (cfgScb r) fb
  match Elem.ofCode (a.setWidth 4), Elem.ofCode (b.setWidth 4) with
  | some ea, some eb =>
    (match pairClass ea eb with
     | none => false
     | some true => !cfgInt r
     | some false => cfgInt r && !a.getLsbD 4 && !b.getLsbD 4)
  | _, _ => false

/-- The first visited pair, both of whose slots are FULL or IN-USE, that fails the pair check: its codes
(DEDUCED, log 39). -/
def Core.badPair (k : Core) (r : List Word) : Option (BitVec 5 × BitVec 5) :=
  ((walkPairs r).find? fun p => (k.slot p.1).ready && (k.slot p.2).ready && !pairOk r (k.slot p.1).fmt (k.slot p.2).fmt).map
    fun p => (effFmt (cfgSca r) (k.slot p.1).fmt, effFmt (cfgScb r) (k.slot p.2).fmt)

/-- The SPLIT rules of R216. -/
def splitOk (r : List Word) : Bool :=
  !cfgSplit r || (cfgInt r && !cfgDrn r && (List.range 6).all fun l =>
    !nestBit r l 41 && (decide (l ≤ cfgSplv r) || decide (nestTrip r l = 0)) && (decide (l < cfgSplv r) || !nestBit r l 38))

/-- Element code of the drain. -/
def drainElem (r : List Word) : Elem := (Elem.ofCode (cfgDfmt r)).getD .fp32
/-- Bytes that the drain writes: 256 w per granule (R209). -/
def drainBytes (r : List Word) : Nat := ((List.range 8).countP (dstMask r)) * (256 * elemWidth (drainElem r))

/-- The checks of ME.GO in the order of R213 (DEDUCED, log 39). -/
def Core.goCheck (k : Core) (r : List Word) : Option Flt :=
  if cfgDrn r && decide (14 ≤ (cfgDfmt r).toNat) then some (fmtFlt' (cfgDfmt r))
  else if 6 ≤ cfgSplv r ∨ (cfgSet r 16).isEmpty ∨ (cfgSet r 24).isEmpty ∨ !splitOk r then some { code := .illegal }
  else if cfgDrn r && dstAddr r % 128 != 0 then some (addrFlt .align (.ofNat 64 (dstAddr r)) .write false)
  else if cfgDrn r && decide (0x80000 < dstAddr r + drainBytes r) then
    some (addrFlt .prot (.ofNat 64 (dstAddr r)) .write false)
  else match (List.range 8).find? fun n =>
      walkNames r (.ofNat 3 n) && (k.slot (.ofNat 3 n)).pairOdd && (k.slot (.ofNat 3 n)).ready with
    | some n => some (k.slotFlt (.ofNat 3 n))
    | none => (k.badPair r).map fun p => { code := .fmtPair, i0 := .ofNat 64 (p.1.toNat + 256 * p.2.toNat) }
where
  /-- The FMT_CODE fault of a code found (R302). -/
  fmtFlt' (c : BitVec 4) : Flt := { code := .fmtCode, i0 := c.setWidth 64 }

/-- Accepts an ME command once fewer than two are held (R211). -/
def meAccept (s : State) (x : Ext) (chk : State → Option Flt) (op : State → MeOp) (f : Me → Me) : Eff :=
  if 2 ≤ s.here.eng.me.cmds.length then waitRoom s x .me
  else acceptLong s x (chk s) fun t s1 =>
    .ok (s1.modHere (·.modMe fun m => f { m with cmds := m.cmds ++ [{ op := op s, tok := t, split := m.splits }] }))

/-- The shadow copy, registers 0-7. -/
def Core.shadowAll (k : Core) : List Word := (List.range 8).map k.shadow

/-- ME.GO: its extension word is the one the strand fetched (R212, R213; log 14). -/
def execMeGo (s : State) : Out :=
  issueL s (meAccept s (Ext.ofWord s.here.a.ext) (fun t => t.here.goCheck t.here.shadowAll)
    (fun t => .go t.here.shadowAll t.here.eng.me.goes)
    fun m => { m with goes := m.goes + 1, splits := m.splits + (cfgSplit s.here.shadowAll).toNat })

/-- ME.MODE (R213). -/
def execMeMode (a b : Reg) (e : Bool) (x : Ext) (s : State) : Out :=
  issueL s (with2 s a b e fun m seed s1 =>
    let md := if bits m 63 3 = 0 then Rmode.ofCode (m.setWidth 3) else none
    meAccept s1 x (fun _ => if md.isNone then some { code := .illegal } else none)
      (fun _ => .mode (md.getD .rne) seed) id)

/-- ME.MSK (R213, R387). -/
def execMeMsk (a : Reg) (e : Bool) (x : Ext) (s : State) : Out :=
  issueL s (with1 s a e fun v s1 =>
    meAccept s1 x (fun _ => match spOwn v 2048 128 with
        | .error f => some (addrFlt f v .read false)
        | .ok _ => none)
      (fun _ => .msk (v.setWidth 19)) id)

/-! ### The end of a command (R210, R211) -/

/-- Frees every slot whose deferred release waits for no nest any more (R215). -/
def Core.runDeferred (k : Core) : Core :=
  (List.range 8).foldl (fun k n =>
    let i : BitVec 3 := .ofNat 3 n
    if (k.slot i).defer && !(k.slot i).after.any (fun no => k.eng.me.cmds.any fun c => c.no? == some no) then k.freeSlot i
    else k) k

/-- The oldest ME command ends: its nest leaves, deferred releases run, its flags and its token follow (R210). -/
def Core.meEnd (k : Core) (r : Option (BitVec 8)) : Core :=
  match k.eng.me.cmds with
  | [] => k
  | c :: l =>
    let fl := (k.eng.me.run.map (·.flags)).getD 0#6
    let k1 := k.modMe fun m => { m with cmds := l, run := none }
    (k1.runDeferred.raise fl).endTok c.tok r

/-- ME.MSK reads its 2,048 bytes into the mask block (R214); an uncorrectable word ends it POISON (R381). -/
def Core.runMsk (k : Core) (a : Nat) : Core :=
  if k.spm.badIn a 2048 then k.meEnd (some subPoison)
  else
    let rows : Tbl (BitVec 128) := (List.range 128).map fun i => (i, BitVec.ofNat 128 (k.spm.mem.get (a + 16 * i) 16))
    ({ k with eng := { k.eng with mask := rows } } : Core).meEnd none

/-- The next command starts: a token fault passes on, ME.MODE and ME.MSK run, a nest is in flight (R211, R214). -/
def Core.meStart (k : Core) : Core :=
  match k.eng.me.cmds with
  | [] => k
  | c :: _ =>
    match k.mayStart c.tok with
    | .wait => k
    | .fail sub => k.meEnd (some sub)
    | .go =>
      match c.op with
      | .mode m seed => (k.modMe fun e => { e with mode := m, seed := seed }).meEnd none
      | .msk a => k.runMsk a.toNat
      | .go _ _ => k.modMe fun m => { m with run := some { ix := [0, 0, 0, 0, 0, 0] } }

/-- The oldest command has not started and its tokens have settled (R110, R211). -/
def Core.meCanStart (k : Core) : Bool :=
  k.eng.me.run.isNone && k.hold.isNone && (match k.eng.me.cmds with
    | [] => false
    | c :: _ => k.mayStart c.tok != .wait)

/-! ### Values of a tile (R73-R76, R207) -/

/-- Rows and columns of a slot's tile. -/
def Slot.rows (v : Slot) : Nat := 2 ^ v.rlog.toNat
def Slot.cols (v : Slot) : Nat := 2 ^ v.clog.toNat
/-- Element format of a slot. -/
def Slot.elem (v : Slot) : Elem := (Elem.ofCode (v.fmt.setWidth 4)).getD .fp32

/-- The values of row i of a slot's tile; `sc` is SCA or SCB. -/
def Slot.rowVals (v : Slot) (sc : Bool) (i : Nat) : List Num :=
  let w := elemWidth v.elem
  let row := leNat ((v.codes.drop (v.cols * w / 8 * i)).take (v.cols * w / 8))
  let scaled := sc && v.fmt.getLsbD 4
  (List.range v.cols).map fun j =>
    let c := row / 2 ^ (w * j) % 2 ^ w
    if scaled then scaledValue v.elem c (v.rowSc.getD i 0) (v.colSc.getD j 0) else codeValue v.elem c

/-- All rows. -/
def Slot.vals (v : Slot) (sc : Bool) : List (List Num) := (List.range v.rows).map (v.rowVals sc)
/-- The columns of a list of n-long rows. -/
def columns (n : Nat) (m : List (List Num)) : List (List Num) :=
  (List.range n).map fun j => m.map fun r => r.getD j .nan

/-- Chunk length (R88). -/
def chunkLen (a b : Elem) : Nat :=
  let w := Nat.max (elemWidth a) (elemWidth b)
  if w = 32 then 4 else if w = 16 then 16 else 32

/-- Cuts a list into runs of n; `fuel` bounds the runs. -/
def cut {α : Type} (n : Nat) : Nat → List α → List (List α)
  | 0, _ => []
  | _ + 1, [] => []
  | fuel + 1, x :: l => (x :: l).take n :: cut n fuel ((x :: l).drop n)

/-- Z and S of a chunk of values: every one is zero; some one is infinite or NaN (R91). -/
def chunkZS (l : List Num) : Bool × Bool :=
  (l.all fun x => match x with
    | .fin _ m _ => m == 0
    | _ => false,
   l.any fun x => match x with
    | .fin _ _ _ => false
    | _ => true)

/-- The zero-skip summary of a filled slot: Z and S of each chunk of each row, then of each column (R91, R223). -/
def Slot.summary (v : Slot) : List (Bool × Bool) :=
  let m := v.vals true
  let n := chunkLen v.elem v.elem
  (m ++ columns v.cols m).flatMap fun l => (cut n l.length l).map chunkZS

/-- The exact sum of finite values as an integer at exponent `lo`. -/
def sumAt (lo : Int) : List Num → Int
  | [] => 0
  | .fin s m e :: l => toIntAt s m e lo + sumAt lo l
  | _ :: l => sumAt lo l

/-- The least exponent of a list of values. -/
def minExp : List Num → Int
  | [] => 0
  | .fin _ _ e :: l => min e (minExp l)
  | _ :: l => minExp l

/-- An integer at an exponent as a value. -/
def ofIntAt (i : Int) (e : Int) : Num := .fin (decide (i < 0)) i.natAbs e

/-- A chunk: its products summed exactly and rounded once to FP32, RNE, with its flags (R88, R89). Where a NaN product
stands beside infinite ones of both signs, the row of the NaN decides and no NV is raised for the infinities
(DESIGN CHOICE, log 96). -/
def chunkSum (xs ys : List Num) : Nat × Flags :=
  let ps := xs.zipWith numMul ys
  let f := ps.foldl (fun f p => f ||| p.2) 0#6
  let vs := ps.map (·.1)
  if vs.any (· == .nan) then (nan32, f)
  else if vs.any (· == .inf true) && vs.any (· == .inf false) then (nan32, f ||| flNV)
  else if vs.any (· == .inf true) then (inf32 true, f)
  else if vs.any (· == .inf false) then (inf32 false, f)
  else
    let lo := minExp vs
    let t := sumAt lo vs
    if t = 0 then (0, f)
    else
      let r := convert .fp32 false .rne 0 (ofIntAt t lo)
      (r.1, f ||| r.2)

/-- The chunks of one output element added to the accumulator in order (R88). -/
def addChunks (n : Nat) (acc : Nat × Flags) (xs ys : List Num) : Nat × Flags :=
  ((cut n xs.length xs).zip (cut n ys.length ys)).foldl (fun a c =>
    let t := chunkSum c.1 c.2
    let r := fpAdd .fp32 .rne 0 a.1 t.1
    (r.1, a.2 ||| t.2 ||| r.2)) acc

/-- An integer value, 0 for what is none. -/
def Num.toInt : Num → Int
  | .fin s m e => toIntAt s m e 0
  | _ => 0

/-- One output element with an INT32 accumulator: modulo 2^32, no flag (R90). -/
def addInts (acc : Nat) (xs ys : List Num) : Nat :=
  (((acc : Int) + (xs.zipWith (fun x y => x.toInt * y.toInt) ys).foldl (· + ·) 0) % (2 ^ 32 : Int)).toNat

/-! ### A tile step (R207, R208) -/

/-- Row i of accumulator x. -/
def Core.accRow (k : Core) (x : BitVec 2) (i : Nat) : VReg := Tbl.get 0 k.eng.acc (128 * x.toNat + i)
/-- Writes a row and marks its granule dirty (R43). -/
def Core.setAccRow (k : Core) (x : BitVec 2) (i : Nat) (v : VReg) : Core :=
  { k with eng := { k.eng with
      acc := Tbl.set k.eng.acc (128 * x.toNat + i) v
      dirty := k.eng.dirty ||| (1#32 <<< (8 * x.toNat + i / 16)) } }

/-- The dimensions of a step: M, K, K', N (R207). -/
def stepDims (r : List Word) (A B : Slot) : Nat × Nat × Nat × Nat :=
  if cfgTrb r then (A.rows, A.cols, B.cols, B.rows) else (A.rows, A.cols, B.rows, B.cols)

/-- The checks of a step in the order of R208 (DEDUCED, log 39). -/
def Core.stepCheck (k : Core) (r : List Word) (t : StepAt) : Option (BitVec 8) :=
  let A := k.slot t.sa
  let B := k.slot t.sb
  let oddFp (n : BitVec 3) (v : Slot) : Bool := v.pairOdd || (v.fmt.setWidth 4 == 0#4 && n.getLsbD 0)
  let d := stepDims r A B
  if oddFp t.sa A || oddFp t.sb B then some subSlot
  else if !pairOk r A.fmt B.fmt then some subPair
  else if d.2.1 != d.2.2.1 || decide (128 < t.r0 + d.1) || decide (128 < t.c0 + d.2.2.2) then some subShape
  else none

/-- Some level with ZFIRST has every index up to its own at zero (R207). -/
def zeroFirst (r : List Word) (ix : List Nat) : Bool :=
  (List.range 6).any fun l => nestBit r l 38 && (ix.take (l + 1)).all (· == 0)

/-- One row of a step: columns c0 to c0 + N - 1 of the accumulator row take their new values. -/
def stepRow (r : List Word) (n : Nat) (zero : Bool) (c0 : Nat) (row : VReg) (xs : List Num) (cols : List (List Num)) :
    VReg × Flags :=
  let old := lanesOf 32 128 row
  let new := (List.range 128).map fun j =>
    let cur := old.getD j 0
    match if c0 ≤ j then cols[j - c0]? else none with
    | none => (cur, 0#6)
    | some ys =>
      let a := if zero then 0 else cur
      if cfgInt r then (addInts a xs ys, 0#6) else addChunks n (a, 0#6) xs ys
  (packV 32 (new.map (·.1)), new.foldl (fun f x => f ||| x.2) 0#6)

/-- The multiply-accumulate of a step: the accumulator rows and the flags (R207, R88-R90). -/
def Core.stepRows (k : Core) (r : List Word) (t : StepAt) (zero : Bool) : Core × Flags :=
  let A := k.slot t.sa
  let B := k.slot t.sb
  let d := stepDims r A B
  let bm := B.vals (cfgScb r)
  let cols := if cfgTrb r then bm else columns d.2.2.2 bm
  let n := chunkLen A.elem B.elem
  (List.range d.1).foldl (fun kf m =>
    let res := stepRow r n zero t.c0 (kf.1.accRow t.x (t.r0 + m)) (A.rowVals (cfgSca r) m) cols
    (kf.1.setAccRow t.x (t.r0 + m) res.1, kf.2 ||| res.2)) (k, 0#6)

/-- A FULL slot turns IN-USE, with its pair (Table 02.2). -/
def Core.useSlot (k : Core) (n : BitVec 3) : Core :=
  (k.slotGroup n).foldl (fun k m =>
    let v := k.slot m
    if v.st == .full then k.setSlot m { v with st := .inUse } else k) k

/-- The masked elements of an accumulator take their exit value (R208). -/
def Core.applyMask (k : Core) (r : List Word) (x : BitVec 2) : Core :=
  let v := if cfgInt r then 0x80000000 else inf32 true
  (List.range 128).foldl (fun k i =>
    let m := Tbl.get 0 k.eng.mask i
    if m = 0 then k
    else k.setAccRow x i (packV 32 (((lanesOf 32 128 (k.accRow x i)).zip (List.range 128)).map fun q =>
      if m.getLsbD q.2 then v else q.1))) k

/-- RELEASE-A or RELEASE-B of a slot that holds an operand (R208, Table 02.2). Where an upper level names a slot that a
lower level's exit has freed already, one that a record has filled since is freed too, and one that is only claimed stays
so (DESIGN CHOICE, log 108). -/
def Core.relSlot (k : Core) (n : BitVec 3) : Core := if (k.slot n).ready then k.freeSlot n else k

/-- The exit of level l after a step (R208). -/
def Core.exitLevel (k : Core) (r : List Word) (t : BitVec 3 × BitVec 3 × BitVec 2) (l : Nat) : Core :=
  let k1 := if nestBit r l 41 then k.applyMask r t.2.2 else k
  let k2 := if nestBit r l 39 then k1.relSlot t.1 else k1
  if nestBit r l 40 then k2.relSlot t.2.1 else k2

/-- The levels below p that exit after a step at an index vector: those before the first not at its last iteration. -/
def exits (r : List Word) (p : Nat) (ix : List Nat) : Nat → Nat → Nat
  | 0, l => l
  | fuel + 1, l => if l < p ∧ ix.getD l 0 = nestTrip r l then exits r p ix fuel (l + 1) else l

/-- The next index vector after e levels have exited. -/
def nextIx (ix : List Nat) (e : Nat) : List Nat :=
  ((List.range 6).zip ix).map fun q => if q.1 < e then 0 else if q.1 = e then q.2 + 1 else q.2

/-- The value of an accumulator element (R209). -/
def accValue (int : Bool) (c : Nat) : Num :=
  if int then ofIntAt (if c < 2 ^ 31 then c else (c : Int) - 2 ^ 32) 0 else codeValue .fp32 c

/-- One drained row: its bytes and flags (R209, R80). -/
def drainRow (r : List Word) (t : Elem) (m : Rmode) (seed : Word) (no : W32) (i : Nat) (row : VReg) : List Byte × Flags :=
  let cs := ((lanesOf 32 128 row).zip (List.range 128)).map fun q =>
    convert t false m (srHash seed no (.ofNat 32 (i * 128 + q.2))) (accValue (cfgInt r) q.1)
  (leBytes (16 * elemWidth t) (ofLanes (elemWidth t) (cs.map (·.1))), cs.foldl (fun f c => f ||| c.2) 0#6)

/-- The drain of granule g to byte p on, with its flags (R209). -/
def Core.drainGranule (k : Core) (r : List Word) (no : W32) (g p : Nat) : Core × Flags :=
  let t := drainElem r
  let w := elemWidth t
  let x : BitVec 2 := .ofNat 2 (dstAcc r)
  let rows := (List.range 16).map fun i =>
    drainRow r t k.eng.me.mode k.eng.me.seed no (16 * g + i) (k.accRow x (16 * g + i))
  let m := k.spm.write p (rows.flatMap (·.1))
  ({ k with spm := if dstSetf r then m.markFull (p / 128) (2 * w) else m }, rows.foldl (fun f r => f ||| r.2) 0#6)

/-- Changes the nest in flight. -/
def Core.setRun (k : Core) (n : MeRun) : Core := k.modMe fun m => { m with run := some n }

/-- The granules that a nest drains, ascending (R209). -/
def drainList (r : List Word) : List Nat := if cfgDrn r then (List.range 8).filter (dstMask r) else []

/-- A nest whose walk has ended, whose exits are handled and whose granules are drained completes (R210). -/
def Core.settleNest (k : Core) (r : List Word) : Core :=
  match k.eng.me.run with
  | none => k
  | some n => if n.walked && n.exits == 0 && decide ((drainList r).length ≤ n.drained) then k.meEnd none else k

/-- Once every exit of a step is handled the walk goes on, the member's claimed iteration is done, or the walk is over:
`p` is the number of levels that the walk runs (R207, R208, R216). -/
def MeRun.goOn (n : MeRun) (p : Nat) (split : Bool) : MeRun :=
  let n1 := { n with exits := 0, exited := 0 }
  if n.walked then n1
  else if n.exits = p then if split then { n1 with claimed := none } else { n1 with walked := true }
  else { n1 with ix := nextIx n.ix n.exits }

/-- Handles the next level exit of the step just run (R208). -/
def Core.exitStep (k : Core) (r : List Word) (n : MeRun) (p : Nat) (split : Bool) : Core :=
  let k1 := match n.last with
    | none => k
    | some t => k.exitLevel r t n.exited
  let n1 := { n with exited := n.exited + 1 }
  (k1.setRun (if n1.exited = n.exits then n1.goOn p split else n1)).settleNest r

/-- Where the n-th granule of a drain is written (R209). -/
def drainAt (r : List Word) (n : Nat) : Nat := dstAddr r + 256 * elemWidth (drainElem r) * n

/-- Drains the next granule of a nest whose walk has ended (R209). One that would write an uncorrectable scratchpad word
ends the nest POISON, as any engine's write of such a word does (R381; log 17). -/
def Core.drainStep (k : Core) (r : List Word) (no : W32) (n : MeRun) : Core :=
  match (drainList r)[n.drained]? with
  | none => k.settleNest r
  | some g =>
    if k.spm.badIn (drainAt r n.drained) (256 * elemWidth (drainElem r)) then k.meEnd (some subPoison)
    else
    let d := k.drainGranule r no g (drainAt r n.drained)
    (d.1.setRun { n with drained := n.drained + 1, flags := n.flags ||| d.2 }).settleNest r

/-- One tile step of the nest in flight; its exits, and after the last one the drain, follow one by one (R207-R210,
R218). `p` is the number of levels that the walk runs (R216). -/
def Core.tileStep (k : Core) (r : List Word) (n : MeRun) (p : Nat) (split : Bool) : Core :=
  let t := stepAt r n.ix
  match k.stepCheck r t with
  | some sub => k.meEnd (some sub)
  | none =>
    let res := ((k.useSlot t.sa).useSlot t.sb).stepRows r t (zeroFirst r n.ix)
    let n1 : MeRun := { n with
      checked := true, steps := n.steps + 1, flags := n.flags ||| res.2, last := some (t.sa, t.sb, t.x)
      exits := exits r p n.ix 6 0, exited := 0 }
    (res.1.setRun (if n1.exits = 0 then n1.goOn p split else n1)).settleNest r

/-! ### Dynamic split-K (R216) -/

/-- How a SPLIT nest is shared (R216, R315): not at all, from the gang's counters, or by rank. -/
inductive SplitMode
  | off
  | shared (gang : BitVec 8)
  | fixed
  deriving DecidableEq, Repr

/-- R315: live for a gang of more than one whose launch record has SPLITOK. -/
def Core.splitMode (k : Core) (r : List Word) : SplitMode :=
  if cfgSplit r && k.info.inGang && k.info.size != 1#8 && k.info.splitok then
    if k.detm then .fixed else match k.info.gang with
      | some i => .shared i
      | none => .off
  else .off

/-- A split counter of a group row. -/
def Group.ctr (G : Group) (n : Nat) : SplitCtr := Tbl.get {} G.split (n % 8)
def Group.setCtr (G : Group) (n : Nat) (v : SplitCtr) : Group := { G with split := Tbl.set G.split (n % 8) v }

/-- The ranks of a gang. -/
def ranks (size : Nat) : List (BitVec 8) := (List.range size).map (BitVec.ofNat 8)

/-- The nest of the member of a rank has completed: the counter resets once every member's nest on it has (R216). -/
def Group.splitDone (G : Group) (n size : Nat) (rank : BitVec 8) : Group :=
  let c := G.ctr n
  let d := rank :: c.done
  if (ranks size).all d.contains then G.setCtr n { done := (ranks size).foldl List.erase d }
  else G.setCtr n { c with done := d }

/-- Replaces a group row of partition p. -/
def State.modGroup (s : State) (p : PartId) (i : BitVec 8) (f : Group → Group) : State :=
  s.modPart p fun P => { P with groups := Tbl.set P.groups i.toNat (f (P.group i)) }

/-- The size of a core's gang. -/
def Core.gangSize (k : Core) : Nat := if k.info.size = 0#8 then 256 else k.info.size.toNat

/-- The run set to the start of iteration v of level SPLV. -/
def claimIx (r : List Word) (n : MeRun) (v : Nat) : MeRun :=
  { n with claimed := some v, ix := (List.range 6).map fun l => if l = cfgSplv r then v else 0 }

/-- No iteration is left for this member: its levels from SPLV up exit and its nest completes (DEDUCED, log 38). -/
def Core.splitOut (k : Core) (r : List Word) (n : MeRun) : Core :=
  (k.setRun { n with walked := true, exits := if n.last.isNone then 0 else 6, exited := cfgSplv r }).settleNest r

/-- Claims the next index of level SPLV from the gang's counter (R216) (DEDUCED, log 38). A member whose own nest on this
counter has completed, and another's has not, is at the nest 8 further on: it waits for the reset
(DESIGN CHOICE, log 103). -/
def State.claim (s : State) (c : CoreId) (r : List Word) (cmd : MeCmd) (i : BitVec 8) (n : MeRun) : State :=
  let p := s.partOf c
  let ctr := ((s.part p).group i).ctr cmd.split
  if ctr.done.contains (s.core c).info.rank then s
  else if ctr.next ≤ nestTrip r (cfgSplv r) then
    (s.modGroup p i fun G => G.setCtr cmd.split { ctr with next := ctr.next + 1 }).modCore c
      (·.modMe fun m => { m with run := some (claimIx r n ctr.next) })
  else s.modCore c (·.splitOut r n)

/-- The next index of the member's own, rank + a multiple of the gang's size (R315) (DEDUCED, log 38). -/
def State.claimFixed (s : State) (c : CoreId) (r : List Word) (n : MeRun) : State :=
  let k := s.core c
  let v := if n.last.isNone then k.info.rank.toNat else n.ix.getD (cfgSplv r) 0 + k.gangSize
  if v ≤ nestTrip r (cfgSplv r) then s.modCore c (·.modMe fun m => { m with run := some (claimIx r n v) })
  else s.modCore c (·.splitOut r n)

/-- A shared nest of core c that has ended since state s is done with its counter (R216). -/
def State.noteSplit (s : State) (c : CoreId) (t : State) : State :=
  let k := s.core c
  match k.eng.me.cmds with
  | [] => t
  | cmd :: _ =>
    match cmd.op with
    | .mode _ _ => t
    | .msk _ => t
    | .go r _ =>
      match k.splitMode r with
      | .shared i =>
        if (t.core c).eng.me.cmds.length < k.eng.me.cmds.length then
          t.modGroup (t.partOf c) i fun G => G.splitDone cmd.split k.gangSize k.info.rank
        else t
      | .off => t
      | .fixed => t

/-- ME_COMMAND_START (R211). -/
def execMeCommandStart (s : State) : Out :=
  let c := s.ev.core
  .next (if s.engineOn c && (s.core c).meCanStart then s.noteSplit c (s.modCore c (·.meStart)) else s)

/-! ### Parity replay (R215, R382) -/

/-- n bytes at a virtual address of one unit, or the sub-code of the access that fails. -/
def State.engineRead (s : State) (c : CoreId) (va : Word) (n : Nat) : Except (BitVec 8) (List Byte) :=
  match s.xlate c (s.core c).ctx .read va 1 with
  | .error f => .error (subOf f)
  | .ok x => if s.poisonedIn x.pa n then .error subPoison else .ok (s.physRead x.pa n)

/-- The bytes of a slot's fill as they stand in memory now: the tile, then its scales (DESIGN CHOICE, log 73). -/
def State.refill (s : State) (c : CoreId) (v : Slot) : Except (BitVec 8) (List Byte × List Byte) :=
  let n := v.rows * v.cols * elemWidth v.elem / 8
  let unit := v.src &&& ~~~0xFFFF#64
  let blk := unit + .ofNat 64 (bits (v.desc.setWidth 64) 19 12 * 256 + 256 * (bits v.src 15 0 / n))
  match s.engineRead c v.src n with
  | .error f => .error f
  | .ok t =>
    if v.fmt.getLsbD 4 then (s.engineRead c blk (2 * v.rows + v.cols)).map fun sc => (t, sc)
    else .ok (t, [])

/-- The scale bytes a slot holds, as its scale block has them (Table 03.4). -/
def Slot.scaleBytes (v : Slot) : List Byte := v.rowSc.flatMap (fun e => leBytes 2 e.toNat) ++ v.colSc

/-- What a replay of a slot's fill gives. -/
inductive Replay
  | good
  | fails (sub : BitVec 8)
  | changed   -- the source was rewritten: undefined within the context (R8, R382)
  deriving DecidableEq, Repr

/-- The replay of a slot with a parity error; a slot without one needs none. -/
def State.replay (s : State) (c : CoreId) (n : BitVec 3) : Replay :=
  let v := (s.core c).slot n
  if !v.bad then .good
  else match s.refill c v with
    | .error sub => .fails sub
    | .ok q => if q.1 == v.codes && q.2 == v.scaleBytes then .good else .changed

/-- The parity error of a slot about to be read is gone after its replay. -/
def Core.clearParity (k : Core) (n : BitVec 3) : Core := k.setSlot n { k.slot n with bad := false }

/-- A slot whose source was rewritten while it was filled holds a tile that nothing constrains: the codes and scales are
free, of its own format and geometry (R8, R382) (DESIGN CHOICE, log 28). -/
def State.openSlot (s : State) (c : CoreId) (n : BitVec 3) : State :=
  let v := (s.core c).slot n
  let b (i : Nat) : Byte := freeByte s.freeCtr i
  let m := v.codes.length
  let v1 := { v with
    bad := false, codes := (List.range m).map b
    rowSc := (List.range v.rowSc.length).map fun i => b (m + 2 * i) ++ b (m + 2 * i + 1)
    colSc := (List.range v.colSc.length).map fun i => b (m + 2 * v.rowSc.length + i) }
  State.modCore { s with freeCtr := s.freeCtr + 1 } c (·.setSlot n { v1 with sums := v1.summary })

/-- A slot about to be read: its parity error, if it has one, is replayed first (R215, R382). -/
def State.repair (s : State) (c : CoreId) (n : BitVec 3) : Except (BitVec 8) State :=
  match s.replay c n with
  | .good => .ok (s.modCore c (·.clearParity n))
  | .changed => .ok (s.openSlot c n)
  | .fails sub => .error sub

/-- The nest in flight ends with a sub-code, nothing else changed. -/
def State.failNest (s : State) (c : CoreId) (sub : BitVec 8) : State := s.noteSplit c (s.modCore c (·.meEnd (some sub)))

/-- One step of the nest in flight whose slots are filled (R208, R382). -/
def State.stepNest (s : State) (c : CoreId) (r : List Word) (n : MeRun) (split : Bool) : State :=
  let t := stepAt r n.ix
  match s.repair c t.sa with
  | .error sub => s.failNest c sub
  | .ok s1 =>
    match s1.repair c t.sb with
    | .error sub => s.failNest c sub
    | .ok s2 => s.noteSplit c (s2.modCore c (·.tileStep r n (if split then cfgSplv r else 6) split))

/-- The next step's slots are filled. -/
def Core.slotsReady (k : Core) (r : List Word) (n : MeRun) : Bool :=
  (k.slot (stepAt r n.ix).sa).ready && (k.slot (stepAt r n.ix).sb).ready

/-- A tile step is due and lacks at most its Breeze token: no exit or drain is left before it, its index is claimed and
its slots are filled (R208, R217, R321). -/
def Core.stepDue (k : Core) : Bool :=
  match k.eng.me.cmds, k.eng.me.run with
  | cmd :: _, some n =>
    (match cmd.op with
     | .go r _ => n.exits == 0 && !n.walked && (k.splitMode r == .off || n.claimed.isSome) && k.slotsReady r n
     | .mode _ _ => false
     | .msk _ => false)
  | _, _ => false

/-- The cores of cluster n of die d. -/
def clusterCores (d : BitVec 2) (n : Nat) : List CoreId := (List.range 8).map fun i => .ofNat 8 (64 * d.toNat + 8 * n + i)

/-- A core's ME has a nest ready to step (R217, R321). -/
def State.nestReady (s : State) (c : CoreId) : Bool := s.engineOn c && (s.core c).hold.isNone && (s.core c).stepDue

/-- Clusters of a die that wait for a token, in ring order after the last holder (DEDUCED, log 74). -/
def State.waiting (s : State) (d : BitVec 2) : List Nat :=
  let r := s.ring d
  ((List.range 8).map fun i => (r.last.toNat + 1 + i) % 8).filter fun n =>
    !r.holders.getLsbD n && (clusterCores d n).any s.nestReady

/-- A cluster that holds a token must pass it: it has held it for 65,536 clk and another cluster waits (R217, R321). -/
def State.mustPass (s : State) (c : CoreId) : Bool :=
  decide (65536 ≤ Tbl.get 0 (s.ring (dieOf c)).held (clusterOf c).toNat) && !(s.waiting (dieOf c)).isEmpty

/-- The core's ME may step: its cluster holds a token and need not pass it (R217, R321). -/
def State.mayStep (s : State) (c : CoreId) : Bool := s.hasToken c && !s.mustPass c

/-- The next move of a nest in flight whose exits are handled and whose walk goes on: it claims an index, or makes its
step once the slots and the token are there. The first step checks every visited pair first (R93, R213)
(DEDUCED, log 39). -/
def State.moveNest (s : State) (c : CoreId) (r : List Word) (n : MeRun) (cmd : MeCmd) : State :=
  let k := s.core c
  match k.splitMode r, n.claimed with
  | .shared i, none => s.noteSplit c (s.claim c r cmd i n)
  | .fixed, none => s.claimFixed c r n
  | m, _ =>
    if !(k.slotsReady r n && s.mayStep c) then s
    else if !n.checked && (k.badPair r).isSome then s.failNest c subPair
    else s.stepNest c r n (m != .off)

/-- ME_TILE_STEP (R207-R210, R213, R216-R218): the next level exit, the next granule of the drain, or the next tile step
of the nest in flight. A nest waits for its slots, its token, or the end of a hold. -/
def execMeTileStep (s : State) : Out :=
  let c := s.ev.core
  let k := s.core c
  .next (
    if !s.engineOn c || k.hold.isSome then s
    else match k.eng.me.cmds, k.eng.me.run with
      | cmd :: _, some n =>
        (match cmd.op with
         | .mode _ _ => s
         | .msk _ => s
         | .go r no =>
           let split := k.splitMode r != .off
           if n.exits ≠ 0 then
             s.noteSplit c (s.modCore c (·.exitStep r n (if split then cfgSplv r else 6) split))
           else if n.walked then s.noteSplit c (s.modCore c (·.drainStep r no n))
           else s.moveNest c r n cmd)
      | _, _ => s)

/-- MXST (R206): PAUSE is set while a step is due and its cluster holds no token or must pass it (R217). -/
def State.mxst (s : State) : Word :=
  let m := s.here.eng.me
  .ofNat 64 (m.cmds.length + 4 * m.run.isSome.toNat + 8 * (s.here.stepDue && !s.mayStep s.cur).toNat
    + 16 * (m.run.map (·.steps.toNat)).getD 0)

/-- MXR: 9 and above fault ILLEGAL (R203). -/
def execMxr (d : Reg) (i : BitVec 12) (_e : Bool) (s : State) : Out :=
  issueA s (
    if 9 ≤ i.toNat then .fault { code := .illegal }
    else alu0 s d (if i = 8#12 then s.mxst else s.here.shadow i.toNat))

/-! ### The execute strand's accumulator access (R43, R198) -/

/-- ACCRD: waits while the granule is in use. -/
def execAccrd (d : VNo) (c : BitVec 2) (r : BitVec 7) (p : PNo) (_e : Bool) (s : State) : Out :=
  issueX s (
    if s.here.accInUse c then .stall (.acc (.ofNat 5 (8 * c.toNat + r.toNat / 16)))
    else s.wrV d 32 (s.here.preg p) (s.here.accRow c r.toNat) .ok)

/-- ACCWR: with no active lane it changes nothing. A granule in use is tested before an empty source (R177)
(DESIGN CHOICE, log 99). -/
def execAccwr (a : VNo) (c : BitVec 2) (r : BitVec 7) (p : PNo) (e : Bool) (s : State) : Out :=
  issueX s (
    if s.here.accInUse c then .stall (.acc (.ofNat 5 (8 * c.toNat + r.toNat / 16)))
    else s.vgate e [a] none <| s.rdV e a fun x s1 =>
      let pg := widen 32 (s.here.preg p)
      if pg = 0#512 then .ok s1
      else
        let m := byteMask pg
        .ok (s1.modHere fun k => k.setAccRow c r.toNat ((x &&& m) ||| (k.accRow c r.toNat &&& ~~~m))))

/-- Zeroes a granule and clears its dirty flag (R43, R198). -/
def Core.zeroGranule (k : Core) (x : BitVec 2) (g : Nat) : Core :=
  { k with eng := { k.eng with
      acc := (List.range 16).foldl (fun t i => Tbl.erase t (128 * x.toNat + 16 * g + i)) k.eng.acc
      dirty := k.eng.dirty &&& ~~~(1#32 <<< (8 * x.toNat + g)) } }

/-- ACCZ: a mask of 0 does nothing. -/
def execAccz (m : BitVec 8) (c : BitVec 2) (_e : Bool) (s : State) : Out :=
  issueX s (
    if m != 0#8 && s.here.accInUse c then .stall (.acc (.ofNat 5 (8 * c.toNat)))
    else .ok (s.modHere fun k =>
      ((List.range 8).filter fun g => m.getLsbD g).foldl (fun k g => k.zeroGranule c g) k))

end Sys2Proof.Machine
end

