-- ==== Sys2Proof/Machine/Records.lean ====
section
/-! DEFINITION. Launch records: their status, patches, arms, counts and release (R25-R29, R163, R164, R307, R308), and
the commit or abandonment of a task's queue effects (R21-R23). -/
namespace Sys2Proof.Machine

/-- Kinds of launch record (R25). -/
def kTask : BitVec 2 := 0#2
def kGang : BitVec 2 := 1#2
def kPipe : BitVec 2 := 2#2

/-- State code of LRSTAT word 0 as an issuer sees it (R164, R308). -/
def LSt.code (st : LSt) (issuer : Option Nat) : Nat :=
  match st with
  | .idle => 0
  | .held h => if issuer = some h then 1 else 2
  | .armed => 3
  | .queued => 4
  | .running => 5
  | .unbuilt => 6

/-- LRSTAT word 0 (R164). -/
def LRec.word0 (r : LRec) (issuer : Option Nat) : Word :=
  .ofNat 64 (r.st.code issuer + 8 * r.ovf.toNat + 16 * r.kind.toNat + r.join.toNat * 2 ^ 32)

/-- The continuation record that a launch record yields (R307). -/
def LRec.cont (r : LRec) : Cont :=
  { code := r.code, frame := r.frame, join := r.jinit, ctx := r.ctx, prio := r.prio, replay := r.replay
    nonreplay := r.nonreplay, det := r.det, gvalid := r.gvalid, gids := r.gids, live := r.live, spill := r.spill
    wdog := r.wdog }

/-- A continuation record as 256 bits (Table 01.1). -/
def Cont.image (c : Cont) : Nat :=
  c.code.toNat + c.frame.toNat * 2 ^ 64 + c.join.toNat * 2 ^ 128 + c.ctx.toNat * 2 ^ 160 + c.prio.toNat * 2 ^ 176
    + c.replay.toNat * 2 ^ 178 + c.nonreplay.toNat * 2 ^ 179 + c.det.toNat * 2 ^ 180 + c.gvalid.toNat * 2 ^ 184
    + c.gids.toNat * 2 ^ 192 + c.live.toNat * 2 ^ 224 + c.spill.toNat * 2 ^ 237 + c.wdog.toNat * 2 ^ 247

/-- The group id in the slot that names the gang's own group. -/
def LRec.gangId (r : LRec) : BitVec 8 := r.gids.extractLsb' (8 * r.gangslot.toNat) 8

/-- Gang size: 1 for a TASK record. -/
def LRec.size (r : LRec) : Nat := if r.kind == kGang then r.ngang.toNat else 1

/-- What a core is given of the task of rank `rank` that record i releases (R15, R25). -/
def LRec.info (i : BitVec 12) (r : LRec) (rank : Nat) : TaskInfo :=
  { cont := r.cont, lrec := i, rank := .ofNat 8 rank, size := .ofNat 8 r.size, argp := r.argp, args := r.args
    splitok := r.splitok, gang := if r.kind == kGang then some r.gangId else none }

/-- Where record i's image lies (R307). -/
def Part.recAddr (P : Part) (i : BitVec 12) : Nat := P.lrpool.toNat + 128 * i.toNat

/-- Replaces record i and writes its STAT field in the pool (Table 17.1), within the partition's own memory (R356). -/
def State.putRec (s : State) (p : PartId) (i : BitVec 12) (r : LRec) : State :=
  let s1 := s.modPart p fun P => { P with recs := Tbl.set P.recs i.toNat r }
  s1.ownPut p ((s.part p).recAddr i + 120) (leBytes 8 (r.word0 none).toNat)

/-- Replaces one word of a list. -/
def setArg : List Word → Nat → Word → List Word
  | [], 0, v => [v]
  | [], n + 1, v => 0 :: setArg [] n v
  | _ :: l, 0, v => v :: l
  | x :: l, n + 1, v => x :: setArg l n v

/-- A patch of a record's field (Table 01.4). -/
def LRec.patch (r : LRec) (f : BitVec 4) (v : Word) : LRec :=
  if f.toNat < 8 then { r with args := setArg r.args f.toNat v }
  else if f = 8#4 then { r with argp := v }
  else { r with prio := v.setWidth 2 }

/-- A patch applied to the record and to its image in the pool. -/
def State.patchRec (s : State) (p : PartId) (i : BitVec 12) (f : BitVec 4) (v : Word) : State :=
  let r := ((s.part p).lrec i).patch f v
  let a := (s.part p).recAddr i
  let s1 := s.putRec p i r
  if f.toNat < 8 then s1.ownPut p (a + 24 + 8 * f.toNat) (leBytes 8 v.toNat)
  else if f = 8#4 then s1.ownPut p (a + 16) (leBytes 8 v.toNat)
  else s1.ownPut p (a + 95) (leBytes 1 (r.prio.toNat + 4 * r.pceil.toNat))

/-- Ready queue of a priority. -/
def Part.ready (P : Part) (k : BitVec 2) : List REnt := Tbl.get [] P.rq k.toNat
/-- Replaces the ready queue of a priority. -/
def Part.setReady (P : Part) (k : BitVec 2) (l : List REnt) : Part := { P with rq := Tbl.set P.rq k.toNat l }
/-- An entry joins the tail of its priority's ready queue (R29). -/
def Part.enqueue (P : Part) (k : BitVec 2) (e : REnt) : Part := P.setReady k (P.ready k ++ [e])

/-- The ready-queue entry that a record's release makes (R25, R29, R314). -/
def LRec.entry (i : BitVec 12) (r : LRec) : REnt :=
  { kind := if r.kind == kGang then .gang i else if r.kind == kPipe then .pipe i else .task (r.info i 0)
    ctx := r.ctx, lrec := i, det := r.det }

/-- The record is released: QUEUED, and its entry joins its ready queue (R29). -/
def State.releaseRec (s : State) (p : PartId) (i : BitVec 12) : State :=
  let r := (s.part p).lrec i
  (s.putRec p i { r with st := .queued, join := 0, left := r.size }).modPart p (·.enqueue r.prio (r.entry i))

/-- A committing decrement total j (Table 01.3, R26). -/
def State.decRec (s : State) (p : PartId) (i : BitVec 12) (j : Nat) : State :=
  let r := (s.part p).lrec i
  match r.st with
  | .unbuilt => s
  | .armed =>
    if j < r.join.toNat then s.putRec p i { r with join := r.join - .ofNat 32 j }
    else
      let s1 := s.modPart p fun P => { P with recs := Tbl.set P.recs i.toNat { r with ovf := r.ovf || decide (r.join.toNat < j) } }
      s1.releaseRec p i
  | _ => s.putRec p i { r with ovf := true }

/-- The record is armed: JOIN from the initial join count, QUEUED at once if that is 0 and no decrement follows (R26). -/
def State.armRec (s : State) (p : PartId) (i : BitVec 12) : State :=
  let r := (s.part p).lrec i
  s.putRec p i { r with st := .armed, join := r.jinit, armed := false }

/-- Released if its JOIN is 0. -/
def State.releaseIfZero (s : State) (p : PartId) (i : BitVec 12) : State :=
  if ((s.part p).lrec i).st == .armed && ((s.part p).lrec i).join == 0#32 then s.releaseRec p i else s

/-- The supervisor's or the Sluice's arm of an IDLE record (R28). -/
def State.armNow (s : State) (p : PartId) (i : BitVec 12) : State := (s.armRec p i).releaseIfZero p i

/-! ### A task's provisional effects -/

/-- The slot record of a task. -/
def Part.slotOf (P : Part) (t : TaskInfo) : SlotRec := (P.ctx t.cont.ctx).slotRec t.slot
/-- The holder key of a task. -/
def TaskInfo.key (t : TaskInfo) : Nat := holderKey t.cont.ctx t.slot
/-- Adds a provisional effect on a launch record (R22). -/
def State.addEff (s : State) (e : LrEff) : State :=
  s.modMyPart fun P => P.modSlot s.here.info.cont.ctx s.here.info.slot fun r => { r with effs := r.effs ++ [e] }

/-- The record an effect is on. -/
def LrEff.ix : LrEff → BitVec 12
  | .patch i _ _ => i
  | .dec i => i

/-- Records a task's commit or abandonment concerns: those it has effects on and those it holds, ascending
(DEDUCED, log 43). -/
def Part.touched (P : Part) (h : Nat) (effs : List LrEff) : List Nat :=
  let held := P.recs.filterMap fun kv => if kv.2.st = .held h then some (BitVec.ofNat 12 kv.1).toNat else none
  (effs.map (·.ix.toNat) ++ held).foldl insAsc []

/-- Applies a task's patches of one record, in program order. -/
def State.applyPatches (s : State) (p : PartId) (i : BitVec 12) : List LrEff → State
  | [] => s
  | .patch j f v :: l => (if j = i then s.patchRec p i f v else s).applyPatches p i l
  | .dec _ :: l => s.applyPatches p i l

/-- Decrements among a task's effects on one record. -/
def decsOn (i : BitVec 12) (effs : List LrEff) : Nat :=
  effs.countP fun e => match e with
    | .dec j => j == i
    | .patch _ _ _ => false

/-- Commits a task's events on one record: its patches, its arm, the sum of its decrements (R27, Table 01.3). -/
def State.commitRec (s : State) (p : PartId) (h : Nat) (effs : List LrEff) (n : Nat) : State :=
  let i : BitVec 12 := .ofNat 12 n
  let r := (s.part p).lrec i
  let j := decsOn i effs
  if r.st = .held h then
    let s1 := s.applyPatches p i effs
    if r.armed then
      let s2 := s1.armRec p i
      if j = 0 then s2.releaseIfZero p i else s2.decRec p i j
    else
      let r1 := (s1.part p).lrec i
      s1.putRec p i { r1 with st := .idle, ovf := r1.ovf || decide (0 < j) }
  else if j = 0 then s else s.decRec p i j

/-- Commits a task's queue effects: queues, then each record (R21, R22) (DEDUCED, log 43). -/
def State.commitEffects (s : State) (p : PartId) (t : TaskInfo) : State :=
  let effs := ((s.part p).slotOf t).effs
  let s1 := s.modPart p (·.commitQueues t.key)
  ((s1.part p).touched t.key effs).foldl (fun s n => s.commitRec p t.key effs n) s1

/-- Undoes a task's queue effects: pops return, the rest vanishes, held records go back to IDLE (R23). -/
def State.dropEffects (s : State) (p : PartId) (t : TaskInfo) : State :=
  let effs := ((s.part p).slotOf t).effs
  let s1 := s.modPart p (·.abandonQueues t.key)
  ((s1.part p).touched t.key effs).foldl (fun s n =>
    let i : BitVec 12 := .ofNat 12 n
    let r := (s.part p).lrec i
    if r.st = .held t.key then s.putRec p i { r with st := .idle, armed := false } else s) s1

/-- One task of a TASK or GANG record less: IDLE when none remains (Table 01.3). A PIPE record goes IDLE as it drains. -/
def State.taskGone (s : State) (p : PartId) (t : TaskInfo) : State :=
  let r := (s.part p).lrec t.lrec
  if r.kind == kPipe then s
  else
    let n := r.left - 1
    s.putRec p t.lrec { r with left := n, st := if n = 0 ∧ r.st = .running then .idle else r.st }

/-- A core as a task comes to it: everything but what belongs to the core itself is at its start value (R15, R46). -/
def Core.fresh (k : Core) : Core := { out := k.out, stopping := k.stopping, tlb := k.tlb }

/-- Engines from which whatever was accepted, in flight, open or asked for is taken; tokens, slots, accumulators, flags,
bitmaps and masks stand (R46). -/
def Eng.quenched (e : Eng) : Eng :=
  { e with gs := [], me := { e.me with cmds := [], run := none }, ce := [], se := [], win := [], treq := [] }

/-- A core whose task has left it: it is idle and nothing waits or goes on, and what the task left in its registers,
queues and arrays stands until the next task starts (R15, R46). -/
def Core.vacated (k : Core) : Core :=
  { k with
    occ := .idle, info := {}, hold := none, atEnd := false, save := .none, errs := [], absent := []
    a := { k.a with pend := [], wait := none, waitClk := 0, dog := 0, begun := [] }
    x := { k.x with run := .idle, wait := none, dog := 0, trap := none, taken := false }
    eng := k.eng.quenched }

/-- Returns a task's permits to the pool (R242, R324) (DEDUCED, log 81). -/
def Part.returnPermits (P : Part) (k : Core) : Part :=
  if k.detm then P else { P with permits := P.permits - k.a.permits.toNat }

/-- A task's CXL pages are no longer held resident for it (R265). -/
def Part.endHolds (P : Part) (h : Nat) : Part :=
  { P with tierPages := P.tierPages.map fun t => { t with holders := t.holders.filter (· != h) } }

/-- A posted Weir move takes effect at the core's task boundary (R255, R317, R386). -/
def Pipe.settle (x : Pipe) (c : CoreId) : Pipe :=
  match x.moves.find? (·.1 == c) with
  | none => x
  | some m => { x with
      cores := x.cores.map fun q => if q.1 == c then m else q
      moves := x.moves.filter (·.1 != c) }

/-- What leaving core c changes in its partition, whether the task ends, is abandoned or has been saved. -/
def Part.leaveCore (P : Part) (c : CoreId) (k : Core) : Part :=
  let P1 := (P.returnPermits k).endHolds k.holder
  { P1 with pipes := Tbl.mapVal (fun _ x => x.settle c) P1.pipes }

/-- Takes a core's task away: what it held of the partition returns, `f` acts on its save slot, AMORR returns to it are
dropped (R152) and the core is idle. -/
def State.leave (s : State) (p : PartId) (c : CoreId) (f : SlotRec → SlotRec) : State :=
  let k := s.core c
  let s1 := s.modPart p fun P => (P.leaveCore c k).modSlot k.info.cont.ctx k.info.slot f
  { s1.setCore c k.vacated with amorr := s1.amorr.filter (·.core != c) }

/-- No ring record, written or waiting, answers for the task of a slot any more. The record stays outstanding, and a command
that answers it is accepted and acts on nothing (DESIGN CHOICE, log 127). -/
def Part.forget (P : Part) (ctx : BitVec 16) (n : BitVec 10) : Part :=
  let keep (c : BitVec 16) (l : List (BitVec 10)) := if c == ctx then l.filter (· != n) else l
  { P with sup := { P.sup with
      out := P.sup.out.map fun o => { o with slots := keep o.ctx o.slots }
      ring := P.sup.ring.map fun r => { r with slots := keep r.ctx r.slots } } }

/-- A task that ends or is abandoned gives up its slot (R334). -/
def State.vacate (s : State) (p : PartId) (c : CoreId) : State :=
  let t := (s.core c).info
  (s.leave p c fun _ => {}).modPart p (·.forget t.cont.ctx t.slot)

/-- A task retires: its effects commit and its core is free (R21). -/
def State.retireTask (s : State) (p : PartId) (c : CoreId) : State :=
  let t := (s.core c).info
  ((s.commitEffects p t).taskGone p t).vacate p c

/-- Abandons the task on a core (R23); a stage task's item returns to its Rill. -/
def State.abandonTask (s : State) (p : PartId) (c : CoreId) : State :=
  let t := (s.core c).info
  ((s.dropEffects p t).taskGone p t).vacate p c

end Sys2Proof.Machine
end

