-- ==== Sys2Proof/Machine/Search.lean ====
section
/-! DEFINITION. The search engine: signature rows, their places and limits, and its commands (R231-R239). -/
namespace Sys2Proof.Machine

/-! ### Instructions (R234, R235) -/

/-- TAG and PAGE of a key register. -/
def keyTag (v : Word) : BitVec 10 := v.extractLsb' 32 10
def keyPage (v : Word) : W32 := v.setWidth 32
/-- Bits [62:42] are 0, and ALL only where it is legal (R234). -/
def keyOk (v : Word) (all : Bool) : Bool := bits v 62 42 == 0 && (all || !v.getLsbD 63)

/-- The tokens of a command that names none. -/
def noToks : Toks := { ext := { stamp := 0xFFF#12, prod := 0, cona := 0, conb := 0, conc := 0 } }

/-- Adds a command to the SE. -/
def Core.seAdd (k : Core) (op : SeOp) (t : Toks) : Core := { k with eng := { k.eng with se := k.eng.se ++ [{ op := op, tok := t }] } }
/-- Four commands are held (R235). -/
def Core.seFull (k : Core) : Bool := decide (4 ≤ k.eng.se.length)

/-- A command without tokens: it waits for room. -/
def seShort (s : State) (op : SeOp) : Eff := if s.here.seFull then .stall .se else .ok (s.modHere fun k => k.seAdd op noToks)
/-- A long command. -/
def seLong (s : State) (x : Ext) (op : SeOp) : Eff :=
  if s.here.seFull then waitRoom s x .se
  else acceptLong s x none fun t s1 => .ok (s1.modHere fun k => k.seAdd op t)

/-- A scratchpad operand of an SE command, checked at issue (R234, R387). -/
def seAddr (v : Word) (size align : Nat) (go : BitVec 19 → Eff) : Eff :=
  match spOwn v size align with
  | .error f => .fault (addrFlt f v .read false)
  | .ok a => go (.ofNat 19 a)

/-- SE.INS (R234, R235) (DEDUCED, log 40). -/
def execSeIns (a b : Reg) (e : Bool) (x : Ext) (s : State) : Out :=
  issueL s (with2 s a b e fun v key s1 =>
    if !keyOk key false then .fault { code := .illegal }
    else seAddr v 32 32 fun o => seLong s1 x (.ins o (keyTag key) (keyPage key)))
/-- SE.DEL: ALL is legal here (R234, R235) (DEDUCED, log 40). -/
def execSeDel (a : Reg) (e : Bool) (s : State) : Out :=
  issueA s (with1 s a e fun key s1 =>
    if !keyOk key true then .fault { code := .illegal }
    else seShort s1 (.del (keyTag key) (keyPage key) (key.getLsbD 63)))
/-- SE.AGE (R234, R235) (DEDUCED, log 40). -/
def execSeAge (a b : Reg) (e : Bool) (s : State) : Out :=
  issueA s (with2 s a b e fun v key s1 =>
    if !keyOk key false then .fault { code := .illegal }
    else seAddr v 1024 8 fun o => seShort s1 (.age o (keyTag key)))
/-- SE.SEL (R234, R236). -/
def execSeSel (a : Reg) (e : Bool) (x : Ext) (s : State) : Out :=
  issueL s (with1 s a e fun v s1 => seAddr v 64 64 fun o => seLong s1 x (.sel o))

/-- SE.CNT: d is empty from issue until the command has run; a port faults ILLEGAL (R140, R235). -/
def execSeCnt (d a : Reg) (e : Bool) (s : State) : Out :=
  issueA s (
    if isPort d then .fault { code := .illegal }
    else s.gate e [a] [d] (s.rd a fun key s1 =>
      if !keyOk key false then .fault { code := .illegal }
      else if s1.here.seFull then .stall .se
      else .ok (s1.modHere fun k =>
        let k1 := k.seAdd (.cnt d (keyTag key) k.a.pc) noToks
        if d = 0#6 then k1 else { k1 with a := { k1.a with empty := k1.a.empty ||| regBit d } })))

/-- The grant of a context (R233). -/
def Part.sigGrant (P : Part) (ctx : BitVec 16) : Nat := (P.ctx ctx).siggrant.toNat

/-- SE.QUOTA: SEQUOTA and d at issue; the rows in excess move as the command runs (R235). -/
def execSeQuota (d a : Reg) (e : Bool) (s : State) : Out :=
  issueA s (s.gate e [a] [d] (s.rd a fun v s1 =>
    if bits v 63 13 ≠ 0 then .fault { code := .illegal }
    else if s1.here.seFull then .stall .se
    else
      let q := Nat.min v.toNat (s1.myPart.sigGrant s1.here.ctx)
      (s1.modHere fun k => ({ k with ctl := { k.ctl with sequota := .ofNat 13 q } } : Core).seAdd .quota noToks).wr
        d (.ofNat 64 q) .ok))

/-! ### Rows and their places (R232, R233) -/

/-- The row has this context and tag. -/
def SigRow.of (r : SigRow) (ctx : BitVec 16) (tag : BitVec 10) : Bool := r.ctx == ctx && r.tag == tag
/-- The row has this key. -/
def SigRow.hasKey (r : SigRow) (ctx : BitVec 16) (tag : BitVec 10) (page : W32) : Bool := r.of ctx tag && r.page == page

/-- Rows that core c's array holds. -/
def arrayCount (c : CoreId) (rows : List SigRow) : Nat := rows.countP (·.loc == some c)

/-- One context per array: rows of another context leave it (R232). -/
def ownArray (c : CoreId) (ctx : BitVec 16) (rows : List SigRow) : List SigRow :=
  rows.map fun r => if r.loc == some c && r.ctx != ctx then { r with loc := none } else r
/-- One array per tag: rows of the tag in another core's array move to the Spillway (R232). -/
def ownTag (c : CoreId) (ctx : BitVec 16) (tag : BitVec 10) (rows : List SigRow) : List SigRow :=
  rows.map fun r => if r.of ctx tag && r.loc != some c then { r with loc := none } else r

/-- Row a leaves an array before row b: the higher AGE, then the lower PAGE, then the lower TAG (R233). -/
def leavesFirst (a b : SigRow) : Bool :=
  decide (b.age < a.age) || (a.age == b.age && (decide (a.page < b.page) || (a.page == b.page && decide (a.tag < b.tag))))

/-- The row that leaves core c's array next. -/
def nextOut (c : CoreId) (rows : List SigRow) : Option SigRow :=
  (rows.filter (·.loc == some c)).foldl (fun o r => match o with
    | none => some r
    | some b => if leavesFirst r b then some r else some b) none

/-- Moves one row to the Spillway. -/
def spillRow (c : CoreId) (rows : List SigRow) : List SigRow :=
  match nextOut c rows with
  | none => rows
  | some x => rows.map fun r => if r.loc == some c && r.ctx == x.ctx && r.tag == x.tag && r.page == x.page then { r with loc := none } else r

/-- Moves rows until the array holds at most q; `fuel` bounds the moves. -/
def spillTo (c : CoreId) (q : Nat) : Nat → List SigRow → List SigRow
  | 0, rows => rows
  | fuel + 1, rows => if arrayCount c rows ≤ q then rows else spillTo c q fuel (spillRow c rows)

/-- Changes the rows of the moving core's partition. -/
def State.modRows (s : State) (f : List SigRow → List SigRow) : State := s.modMyPart fun P => { P with rows := f P.rows }

/-- Rows of a tag at most (R233). -/
def tagRows : Nat := 262144

/-- Inserts or replaces a row (R233, R235); none when a limit would be passed. -/
def insertRow (c : CoreId) (ctx : BitVec 16) (tag : BitVec 10) (page : W32) (sig : BitVec 256) (cap quota : Nat)
    (rows : List SigRow) : Option (List SigRow) :=
  if rows.any (·.hasKey ctx tag page) then
    some (rows.map fun r => if r.hasKey ctx tag page then { r with sig := sig, bad := false } else r)
  else if cap ≤ rows.countP (·.ctx == ctx) ∨ tagRows ≤ rows.countP (·.of ctx tag) then none
  else
    let rows1 := if 4096 ≤ arrayCount c rows then spillRow c rows else rows
    some (spillTo c quota 4097 (rows1 ++ [{ ctx := ctx, tag := tag, page := page, sig := sig, loc := some c }]))

/-- SE.AGE on the rows (R235). -/
def ageRows (ctx : BitVec 16) (tag : BitVec 10) (pages : List W32) (rows : List SigRow) : List SigRow :=
  rows.map fun r =>
    if r.of ctx tag then { r with age := if pages.contains r.page then 0 else if r.age = 15#4 then 15 else r.age + 1 } else r

/-! ### SE.SEL (R236-R238) -/

/-- Fields of the 64-byte descriptor. -/
def selField (d : BitVec 512) (byte n : Nat) : Nat := d.toNat / 2 ^ (8 * byte) % 2 ^ (8 * n)
/-- A descriptor whose fields are in range (R236). -/
def selOk (d : BitVec 512) : Bool :=
  decide (selField d 36 2 ≤ 1023) && decide (selField d 38 1 ≤ 4) && decide (selField d 39 1 ≤ 28)
    && decide (selField d 40 1 ≤ 64) && selField d 41 7 == 0 && selField d 60 4 == 0
    && selField d 48 8 % 32 == 0 && selField d 56 4 % 8 == 0 && decide (selField d 56 4 + 775 ≤ 0x7FFFF)

/-- Number of ones. -/
def popCount (x : BitVec 256) : Nat := (List.range 256).countP fun i => x.getLsbD i

/-- A candidate ranks before another: higher score, then lower page (R237). -/
def ranksFirst (a b : Nat × Nat) : Bool := decide (b.1 < a.1) || (a.1 == b.1 && decide (a.2 < b.2))

/-- Inserts a candidate into a ranked list. -/
def rankIn (x : Nat × Nat) : List (Nat × Nat) → List (Nat × Nat)
  | [] => [x]
  | y :: l => if ranksFirst x y then x :: y :: l else y :: rankIn x l

/-- The sink and recent pages: first recent page rb, counts (R237). -/
def sinkCount (d : BitVec 512) : Nat := Nat.min (selField d 38 1) (selField d 32 4 + 1)
def firstRecent (d : BitVec 512) : Nat := Nat.max (sinkCount d) (selField d 32 4 + 1 - selField d 39 1)
def recentCount (d : BitVec 512) : Nat := selField d 32 4 + 1 - firstRecent d

/-- The list's entries: (page, score field) (R236, R237). -/
def selEntries (d : BitVec 512) (rows : List SigRow) : List (Nat × Nat) :=
  let win := (List.range (sinkCount d)) ++ (List.range (recentCount d)).map (firstRecent d + ·)
  let cand := (rows.filter fun r => decide (sinkCount d ≤ r.page.toNat) && decide (r.page.toNat < firstRecent d)).foldl
    (fun l r => rankIn (256 - popCount (r.sig ^^^ (d.setWidth 256)), r.page.toNat) l) []
  win.map (fun p => (p, 0x1FF)) ++ (cand.take (selField d 40 1)).map fun q => (q.2, q.1)

/-- The result list's bytes. -/
def selBytes (d : BitVec 512) (rows : List SigRow) : List Byte :=
  let es := selEntries d rows
  leBytes 8 (es.length + 256 * sinkCount d + 65536 * recentCount d) ++ es.flatMap fun q => leBytes 8 (q.1 + 2 ^ 32 * q.2)

/-- Rebuilds the rows of a tag that fail parity, from BACK + 32 x PAGE (R238). -/
def State.rebuild (s : State) (back : Word) (ctx : BitVec 16) (tag : BitVec 10) : List SigRow → Except (BitVec 8) (List SigRow)
  | [] => .ok []
  | r :: l =>
    if r.of ctx tag && r.bad then
      match s.xlate s.cur s.here.ctx .read (back + .ofNat 64 (32 * r.page.toNat)) 32 with
      | .error f => .error (subOf f)
      | .ok x =>
        if s.poisoned x.pa then .error subPoison
        else (s.rebuild back ctx tag l).map ({ r with sig := .ofNat 256 (s.mem.get x.pa 32), bad := false } :: ·)
    else (s.rebuild back ctx tag l).map (r :: ·)

/-- SE.SEL as it runs; an uncorrectable word under its descriptor or its list ends it POISON (R381; log 17). -/
def State.runSel (s : State) (a : Nat) : Except (BitVec 8) State :=
  if s.here.spm.badIn a 64 then .error subPoison
  else
    let d : BitVec 512 := .ofNat 512 (s.here.spm.mem.get a 64)
    if !selOk d then .error subRecord
    else
      let tag : BitVec 10 := .ofNat 10 (selField d 36 2)
      let s1 := s.modRows (ownTag s.cur s.here.ctx tag)
      match s1.rebuild (.ofNat 64 (selField d 48 8)) s.here.ctx tag s1.myPart.rows with
      | .error e => .error e
      | .ok rows =>
        let s2 := s1.modRows fun _ => rows
        let bs := selBytes d (rows.filter (·.of s.here.ctx tag))
        if s2.here.spm.badIn (selField d 56 4) bs.length then .error subPoison
        else .ok (s2.modSpm s2.cur (·.write (selField d 56 4) bs))

/-! ### A command runs (R235) -/

/-- A register takes a result that was on its way (R36). -/
def Core.fillReg (k : Core) (r : Reg) (v : Word) : Core :=
  let k1 := k.setReg r v
  { k1 with a := { k1.a with empty := k1.a.empty &&& ~~~regBit r } }

/-- The effect of one command on the moving core, or its sub-code. -/
def State.runSe (s : State) (op : SeOp) : Except (BitVec 8) State :=
  let c := s.cur
  let ctx := s.here.ctx
  let s := s.modRows (ownArray c ctx)
  match op with
  | .ins a tag page =>
    let s := s.modRows (ownTag c ctx tag)
    if s.here.spm.badIn a.toNat 32 then .error subPoison
    else match insertRow c ctx tag page (.ofNat 256 (s.here.spm.mem.get a.toNat 32)) (s.myPart.ctx ctx).sigcap.toNat
        s.here.ctl.sequota.toNat s.myPart.rows with
      | none => .error subCapacity
      | some rows => .ok (s.modRows fun _ => rows)
  | .del tag page all =>
    .ok ((s.modRows (ownTag c ctx tag)).modRows (·.filter fun r => !(if all then r.of ctx tag else r.hasKey ctx tag page)))
  | .age a tag =>
    let s := s.modRows (ownTag c ctx tag)
    let n := s.here.spm.mem.get a.toNat 1 % 128
    if s.here.spm.badIn a.toNat (8 + 8 * n) then .error subPoison
    else
      let pages := (List.range n).map fun i => BitVec.ofNat 32 (s.here.spm.mem.get (a.toNat + 8 + 8 * i) 4)
      .ok (s.modRows (ageRows ctx tag pages))
  | .sel a => s.runSel a.toNat
  | .cnt d tag _ =>
    let s := s.modRows (ownTag c ctx tag)
    .ok (s.modHere fun k => k.fillReg d (.ofNat 64 (s.myPart.rows.countP (·.of ctx tag))))
  | .quota => .ok (s.modRows fun rows => spillTo c s.here.ctl.sequota.toNat (rows.length) rows)

/-- The oldest command leaves and its token follows. -/
def Core.seEnd (k : Core) (r : Option (BitVec 8)) : Core :=
  match k.eng.se with
  | [] => k
  | c :: l => ({ k with eng := { k.eng with se := l } } : Core).endTok c.tok r

/-- SE_COMMAND_RUN: through a hold as well (R235, R239, R299). -/
def execSeCommandRun (s : State) : Out :=
  let s1 : State := { s with cur := s.ev.core }
  .next (
    if !s.engineOn s.ev.core then s
    else match s1.here.eng.se with
      | [] => s
      | c :: _ =>
        match s1.here.mayStart c.tok with
        | .wait => s
        | .fail sub => s1.modHere (·.seEnd (some sub))
        | .go =>
          match s1.runSe c.op with
          | .error e => s1.modHere (·.seEnd (some e))
          | .ok t => t.modHere (·.seEnd none))

end Sys2Proof.Machine
end

