-- ==== Sys2Proof/Machine/Sys.lean ====
section
/-! DEFINITION. User system functions of the A-strand (R50-R52, R171-R174). -/
namespace Sys2Proof.Machine

/-- NOP (R171). -/
def execNop (s : State) : Out := issueA s (.ok s)
/-- ISYNC: every fetch reads memory as it stands, so nothing is held (R119, R171; log 4). -/
def execIsync (s : State) : Out := issueA s (.ok s)
/-- TRAP n: user trap 0x07 with TPC the next instruction (R171). -/
def execTrap (i : BitVec 12) (_e : Bool) (s : State) : Out :=
  issueA s (.trap { code := trapTrap, t0 := i.setWidth 64, after := true })

/-- TRET ends the handler of the X-strand's trap too: the held X-strand is released (R178) (DEDUCED, log 82). -/
def Core.releaseX (k : Core) : Core :=
  if k.x.taken then { k with x := { k.x with trap := none, taken := false } } else k
/-- TRET: ILLEGAL with the in-trap bit clear (R172). -/
def execTret (s : State) : Out :=
  issueA s (
    if s.here.a.inTrap then .jump (s.modHere fun k => k.leaveTrap.releaseX) s.here.ctl.tpc
    else .fault { code := .illegal })

/-- The registers that a call delivers (R173). -/
def callRegs : List Reg := [8#6, 9#6, 10#6, 11#6, 12#6, 13#6, 14#6, 15#6]

/-- The record of a call (R301, R302, R305) (DEDUCED, log 36). -/
def State.callRec (s : State) (n : BitVec 12) : RingRec :=
  let k := s.here
  let flags := if k.info.cont.det then 16 else 0
  { kind := 2#8, code := 0#8, ctx := k.ctx, slots := [k.info.slot]
    body := recBody 2 0 0 flags s.cur k.ctx k.info.lrec k.info.rank k.a.pc k.a.ir 0
      (n.setWidth 64) (k.reg 8#6) (k.reg 9#6) }

/-- SCALL: writes its record once and waits for the supervisor's return. It reads s8-s15, and the return writes s8 and
s9 (R36, R173, R305) (DEDUCED, log 36). In a handler entered from that wait another SCALL waits for the first one's return
and then makes its own call (DESIGN CHOICE, log 109). -/
def execScall (i : BitVec 12) (e : Bool) (s : State) : Out :=
  issueA s (
    if s.here.a.scall.isSome then .stall .scall
    else s.gate e callRegs [8#6, 9#6] (
      let s1 := s.queueRecs (s.partOf s.cur) [s.callRec i]
      .stallIn (s1.modHere fun k => { k with a := { k.a with scall := some k.a.pc } }) .scall))

/-! ### Control registers (Table 02.4) -/

/-- TASKID (Table 02.6). -/
def Core.taskid (k : Core) : Word :=
  .ofNat 64 (k.info.lrec.toNat + k.ctx.toNat * 2 ^ 16 + k.info.rank.toNat * 2 ^ 32
    + (k.info.stage.getD 0).toNat * 2 ^ 40)
/-- GSLOT (Table 02.7). -/
def Core.gslot (k : Core) : Word := .ofNat 64 (k.info.cont.gids.toNat + k.info.cont.gvalid.toNat * 2 ^ 32)

/-- Bits [1:0] and [63:56] cleared: TVEC (Table 02.4). -/
def vecMask : Word := 0x00FFFFFFFFFFFFFC#64

/-- The value of a user control register, or none for a number not in Table 02.4. -/
def State.readCtl (s : State) (n : BitVec 12) : Option Word :=
  let k := s.here
  match n.toNat with
  | 0x00 => some k.ctl.rndm
  | 0x01 => some k.taskid
  | 0x02 => some (s.cur.setWidth 64)
  | 0x03 => some (k.ctl.fc.setWidth 64)
  | 0x04 => some (k.ctl.flen.setWidth 64)
  | 0x05 => some (if k.detm then 1 else 0)
  | 0x06 => some k.ctl.spovf
  | 0x07 => some k.spco
  | 0x08 => some k.ctl.tvec
  | 0x09 => some (k.ctl.tcause.setWidth 64)
  | 0x0A => some k.ctl.tinfo0
  | 0x0B => some k.ctl.tinfo1
  | 0x0C => some k.ctl.tinfo2
  | 0x0D => some k.ctl.tinfo3
  | 0x0E => some k.ctl.tpc
  | 0x0F => some k.ctl.rngseed
  | 0x10 => some (k.ctl.slipd.setWidth 64)
  | 0x11 => some k.gslot
  | 0x12 => some (k.ctl.sequota.setWidth 64)
  | 0x13 => some k.ctl.cycle
  | 0x14 => some k.ctl.retired
  | _ => none

/-- Changes the control registers of the moving core. -/
def State.modCtl (s : State) (f : Ctl → Ctl) : State := s.modHere fun k => { k with ctl := f k.ctl }

/-- A write of a user control register: the new state, or the fault. A read-only register ignores it; an event in the clk
of a write that clears its flag leaves the flag set (R50, R51). -/
def State.writeCtl (s : State) (n : BitVec 12) (v : Word) : Except Flt State :=
  match n.toNat with
  | 0x00 =>
    match Rmode.ofCode (v.setWidth 3) with
    | none => .error { code := .illegal }
    | some m => .ok (s.modCtl fun c => { c with mode := m, flags := v.extractLsb' 8 6 ||| c.recent })
  | 0x04 => .ok (s.modCtl fun c => { c with flen := v.setWidth 12 })
  | 0x06 =>
    if bits v 63 56 ≠ 0 then .error (addrFlt .prot v .read false)
    else if bits v 2 0 ≠ 0 then .error (addrFlt .align v .read false)
    else .ok (s.modCtl fun c => { c with spovf := v })
  | 0x08 => .ok (s.modCtl fun c => { c with tvec := v &&& vecMask })
  | 0x09 => .ok (s.modCtl fun c => { c with tcause := v.setWidth 8 })
  | 0x0A => .ok (s.modCtl fun c => { c with tinfo0 := v })
  | 0x0B => .ok (s.modCtl fun c => { c with tinfo1 := v })
  | 0x0C => .ok (s.modCtl fun c => { c with tinfo2 := v })
  | 0x0D => .ok (s.modCtl fun c => { c with tinfo3 := v })
  | 0x0E => .ok (s.modCtl fun c => { c with tpc := v &&& ~~~3#64 })
  | 0x0F => .ok (s.modCtl fun c => { c with rngseed := v })
  | k => if k ≤ 0x14 then .ok s else .error { code := .illegal }

/-- RDCTL: a number outside Table 02.4 faults ILLEGAL (R50). -/
def execRdctl (d : Reg) (i : BitVec 12) (_e : Bool) (s : State) : Out :=
  issueA s (
    match s.readCtl i with
    | none => .fault { code := .illegal }
    | some v => alu0 s d v)
/-- WRCTL: the number is checked before the register is read (R50, R139). -/
def execWrctl (d : Reg) (i : BitVec 12) (e : Bool) (s : State) : Out :=
  issueA s (
    match s.readCtl i with
    | none => .fault { code := .illegal }
    | some _ => with1 s d e fun v s1 =>
      match s1.writeCtl i v with
      | .error f => .fault f
      | .ok t => .ok t)

/-- IFLUSH: no instruction is held in a cache, so only the check remains (R174; log 4). -/
def execIflush (a b : Reg) (e : Bool) (s : State) : Out :=
  issueA s (with2 s a b e fun x _ s1 =>
    if bits x 63 56 ≠ 0 then .fault (addrFlt .prot x .read false) else .ok s1)

end Sys2Proof.Machine
end

