-- ==== Sys2Proof/Machine/Copy.lean ====
section
/-! DEFINITION. The copy engine: transfer records, channels and chains (R219-R229, R265). -/
namespace Sys2Proof.Machine

/-! ### A transfer record (Table 10.1) -/

/-- The 64 bytes of a record as 512 bits. -/
abbrev Rec := BitVec 512

def rNext (r : Rec) : Word := r.extractLsb' 0 64
def rOwn (r : Rec) : Bool := r.getLsbD 64
def rKind (r : Rec) : Nat := (r.extractLsb' 65 4).toNat
def rSetf (r : Rec) : Bool := r.getLsbD 69
def rInc (r : Rec) : Bool := r.getLsbD 70
def rFlg (r : Rec) : BitVec 6 := r.extractLsb' 71 6
def rCom (r : Rec) : Bool := r.getLsbD 77
def rSkind (r : Rec) : Bool := r.getLsbD 78
def rDkind (r : Rec) : Nat := (r.extractLsb' 79 2).toNat
def rOvr (r : Rec) : BitVec 24 := r.extractLsb' 81 24
def rAop (r : Rec) : BitVec 4 := r.extractLsb' 105 4
def rResv (r : Rec) : BitVec 19 := r.extractLsb' 109 19
def rSadr (r : Rec) : Word := r.extractLsb' 128 64
def rDadr (r : Rec) : Word := r.extractLsb' 192 64
def rLen0 (r : Rec) : BitVec 16 := r.extractLsb' 256 16
def rCnt1 (r : Rec) : BitVec 16 := r.extractLsb' 272 16
def rCnt2 (r : Rec) : BitVec 16 := r.extractLsb' 288 16
def rStr1 (r : Rec) : W32 := r.extractLsb' 304 32
def rStr2 (r : Rec) : W32 := r.extractLsb' 336 32
def rAux16 (r : Rec) : BitVec 16 := r.extractLsb' 368 16
def rAux64 (r : Rec) : Word := r.extractLsb' 384 64
def rN0 (r : Rec) : Nat := (rLen0 r).toNat + 1
def rN1 (r : Rec) : Nat := (rCnt1 r).toNat + 1
def rN2 (r : Rec) : Nat := (rCnt2 r).toNat + 1

def kCopy : Nat := 0
def kGather : Nat := 1
def kScatter : Nat := 2
def kFill : Nat := 3
def kBatch : Nat := 4
def kTierreq : Nat := 5
def kRoute : Nat := 6
def kFilterw : Nat := 7

/-- Whether a kind uses each field of Table 10.1 (R221, Table 10.2): SADR, DADR, LEN0, CNT1, CNT2, STR1, STR2, AUX16,
AUX64, AOP, OVR, SKIND, DKIND. Fields common to all kinds are not listed (log 24). -/
def recUses (k : Nat) : List Bool :=
  match k with
  | 0 => [true, true, true, true, true, true, true, false, false, false, true, true, true]
  | 1 => [true, true, true, true, false, true, false, false, true, false, false, true, true]
  | 2 => [true, true, true, true, false, true, false, false, true, false, false, true, true]
  | 3 => [false, true, true, true, true, false, false, false, true, false, false, false, true]
  | 4 => [true, true, false, true, false, true, false, false, true, true, false, true, false]
  | 5 => [true, false, false, false, false, false, false, false, false, false, false, false, false]
  | 6 => [true, true, true, true, true, true, true, true, true, false, false, true, false]
  | _ => [true, true, false, true, false, true, false, false, false, false, false, false, false]

/-- The fields of `recUses` as numbers, in its order (DEDUCED, log 24). -/
def recFields (r : Rec) : List Nat :=
  [(rSadr r).toNat, (rDadr r).toNat, (rLen0 r).toNat, (rCnt1 r).toNat, (rCnt2 r).toNat, (rStr1 r).toNat, (rStr2 r).toNat,
   (rAux16 r).toNat, (rAux64 r).toNat, (rAop r).toNat, (rOvr r).toNat, (rSkind r).toNat, rDkind r]

/-- The AUX64 bits that a kind uses (R221) (DEDUCED, log 24). -/
def aux64Ok (r : Rec) : Bool :=
  match rKind r with
  | 3 => true
  | 6 => (rAux64 r &&& ~~~0x7FFFF0007FFFF#64) == 0#64
  | _ => (rAux64 r &&& ~~~0x7FFFF#64) == 0#64

/-- Bytes that a kind with a limit moves. -/
def recBytes (r : Rec) : Nat :=
  match rKind r with
  | 0 => rN0 r * rN1 r * rN2 r
  | 3 => rN0 r * rN1 r * rN2 r
  | _ => rN0 r * rN1 r

/-- A slot destination: COPY only, SKIND 0, no lengths, counts or strides, DADR[3:0] only (Table 10.3). -/
def slotDestOk (r : Rec) : Bool :=
  rDkind r != 2 || (rKind r == kCopy && !rSkind r && rLen0 r == 0#16 && rCnt1 r == 0#16 && rCnt2 r == 0#16
    && rStr1 r == 0#32 && rStr2 r == 0#32 && bits (rDadr r) 63 4 == 0)

/-- The rules of a well-formed record (R221); one broken ends it FAULT, sub-code RECORD: so do a stride that is not a
multiple as Table 10.2 has it and the bits of a slot's DADR (DESIGN CHOICE, log 117). -/
def recordOk (r : Rec) : Bool :=
  decide (rKind r < 8) && bits (rNext r) 5 0 == 0 && bits (rNext r) 63 56 == 0 && rResv r == 0#19
    && ((recUses (rKind r)).zip (recFields r)).all (fun q => q.1 || q.2 == 0)
    && aux64Ok r && slotDestOk r
    && (match rKind r with
        | 0 => decide (recBytes r ≤ 262144)
        | 1 => decide (recBytes r ≤ 262144) && decide (rN1 r ≤ 4096)
        | 2 => decide (recBytes r ≤ 262144) && decide (rN1 r ≤ 4096)
        | 3 => decide (recBytes r ≤ 262144)
        | 4 => decide (rN1 r ≤ 4096) && decide ((rAop r).toNat ≤ 8) && rSkind r && (rStr1 r).toNat % 8 == 0
        | 6 => decide (rN1 r ≤ 4096) && decide (rN2 r ≤ 1024)
        | 7 => decide (bits (rSadr r) 8 2 + rN1 r ≤ 128) && (rStr1 r).toNat % 4 == 0
        | _ => true)

/-! ### Places and moves -/

/-- Where a run of bytes lies: physical memory, or one core's scratchpad. -/
inductive Place
  | mem (pa n : Nat)
  | spm (c : CoreId) (a n : Nat)
  deriving DecidableEq, Repr

/-- Two places share a byte. -/
def Place.meets : Place → Place → Bool
  | .mem a n, .mem b m => decide (a < b + m) && decide (b < a + n)
  | .spm c a n, .spm d b m => c == d && decide (a < b + m) && decide (b < a + n)
  | _, _ => false

/-- What one run of a record needs: its source, by address or as bytes, and its destination address. -/
structure Move where
  src : Sum Word (List Byte)
  dst : Word
  n : Nat
  deriving DecidableEq, Repr

/-- A run's places. -/
structure Placed where
  places : List Place
  deriving DecidableEq, Repr

/-- The pages that n bytes from a virtual address touch, each as its first address and length; `fuel` bounds them. -/
def pagesOf : Nat → Word → Nat → List (Word × Nat)
  | 0, _, _ => []
  | fuel + 1, va, n =>
    if n = 0 then []
    else
      let k := Nat.min n (65536 - bits va 15 0)
      (va, k) :: pagesOf fuel (va + .ofNat 64 k) (n - k)

/-- n bytes from a global address on run past the end of the space (R387, step 4). -/
def pastEnd (a n : Nat) : Bool := decide (2 ^ 56 < a + n)

/-- A global run: its space and its end, then page by page under R148; any byte alignment is allowed (Table 10.3, R387). -/
def State.globRun (s : State) (acc : Acc) (va : Word) (n : Nat) : Except (BitVec 8) Placed :=
  if pastEnd va.toNat n then .error subProt
  else (pagesOf (n / 65536 + 2) va n).foldl (fun r q =>
    match r with
    | .error e => .error e
    | .ok pl =>
      match s.xlate s.cur s.here.ctx acc q.1 1 with
      | .error f => .error (subOf f)
      | .ok x => .ok { places := pl.places ++ [.mem x.pa q.2] }) (.ok { places := [] })

/-- A run in the own scratchpad at a 64-bit address: [18:0] only, no run past the end (R58, R222). Other bits of it end
the record PROT (DESIGN CHOICE, log 117). -/
def ownRun (c : CoreId) (v : Word) (n : Nat) : Except (BitVec 8) Placed :=
  match spOwn v n 1 with
  | .error f => .error (subOf f)
  | .ok a => .ok { places := [.spm c a n] }

/-- Where a record's source run lies (SKIND). -/
def State.srcRun (s : State) (r : Rec) (v : Word) (n : Nat) : Except (BitVec 8) Placed :=
  if rSkind r then ownRun s.cur v n else s.globRun .read v n

/-- The cores that a multicast record writes, or PROT (R222, R31). -/
def State.castCores (s : State) (r : Rec) : Except (BitVec 8) (List CoreId) :=
  if bits (rDadr r) 63 34 ≠ 0 ∨ bits (rDadr r) 31 19 ≠ 0 then .error subProt
  else match s.slotGroup ((rDadr r).extractLsb' 32 2) 3#2 with
    | none => .error subProt
    | some (i, G) => .ok (allCores.filter fun c => G.mask.getLsbD c.toNat && (s.core c).runsTask && (s.core c).holdsGroup i)

/-- Where a destination run lies (Table 10.3): `cast` are a multicast's cores. -/
def State.dstRun (s : State) (r : Rec) (cast : List CoreId) (v : Word) (n : Nat) : Except (BitVec 8) Placed :=
  if rDkind r = 0 then s.globRun .write v n
  else if rDkind r = 1 then ownRun s.cur v n
  else match spOwn v n 1 with
    | .error f => .error (subOf f)
    | .ok a => .ok { places := cast.map fun c => .spm c a n }

/-- The bytes at a place, or POISON (R116, R381). -/
def State.readPlace (s : State) : Place → Except (BitVec 8) (List Byte)
  | .mem pa n => if s.poisonedIn pa n then .error subPoison else .ok (s.physRead pa n)
  | .spm c a n => if (s.core c).spm.badIn a n then .error subPoison else .ok ((s.core c).spm.mem.readN a n)

/-- Bytes of a list of places, in order. -/
def State.readPlaces (s : State) : List Place → Except (BitVec 8) (List Byte)
  | [] => .ok []
  | p :: l =>
    match s.readPlace p with
    | .error e => .error e
    | .ok b => (s.readPlaces l).map (b ++ ·)

/-- A write waiting to be made: a place and its bytes with their enables. -/
structure Put where
  at_ : Place
  bytes : List (Byte × Bool)
  deriving DecidableEq, Repr

/-- Lays bytes over consecutive memory places, or over each of several scratchpads. -/
def putsOn : List Place → List Byte → List Put
  | [], _ => []
  | .mem pa n :: l, bs => { at_ := .mem pa n, bytes := (bs.take n).map fun b => (b, true) } :: putsOn l (bs.drop n)
  | .spm c a n :: l, bs => { at_ := .spm c a n, bytes := bs.map fun b => (b, true) } :: putsOn l bs

/-- Makes one write. -/
def State.doPut (s : State) (p : Put) : State :=
  match p.at_ with
  | .mem pa _ => s.physWriteEn pa p.bytes
  | .spm c a _ => s.modSpm c (·.writeEn a p.bytes)

/-- A write touches an uncorrectable scratchpad word, or a device that has dropped off its link (R379, R381;
log 17). -/
def State.putBad (s : State) (p : Put) : Bool :=
  match p.at_ with
  | .mem pa n => s.linkDown pa n
  | .spm c a _ => (s.core c).spm.badEn a p.bytes

/-- A byte of core c's scratchpad is written by one of the writes. -/
def putHits (ps : List Put) (c : CoreId) (b : Nat) : Bool :=
  ps.any fun p => match p.at_ with
    | .mem _ _ => false
    | .spm d a n => d == c && decide (a ≤ b) && decide (b < a + n) && ((p.bytes[b - a]?).map (·.2)).getD false

/-- The lines of each scratchpad that the writes touch. -/
def putLines (ps : List Put) : List (CoreId × Nat) :=
  ps.flatMap fun p => match p.at_ with
    | .mem _ _ => []
    | .spm c a n => (List.range ((a + n - 1) / 128 - a / 128 + 1)).map fun i => (c, a / 128 + i)

/-- SETFULL: the full bit of each line all of whose bytes the record has written (R111, R222). -/
def State.putFull (s : State) (ps : List Put) : State :=
  (putLines ps).foldl (fun s q =>
    if (List.range 128).all fun b => putHits ps q.1 (128 * q.2 + b) then s.modSpm q.1 (·.markFull q.2 1) else s) s

/-- A physical byte is written by one of the writes. -/
def putMem (ps : List Put) (b : Nat) : Bool :=
  ps.any fun p => match p.at_ with
    | .mem a n => decide (a ≤ b) && decide (b < a + n) && ((p.bytes[b - a]?).map (·.2)).getD false
    | .spm _ _ _ => false

/-- A poisoned line all of whose bytes the record has written is good again (R116). -/
def State.putClean (s : State) (ps : List Put) : State :=
  { s with poison := s.poison.filter fun l => !((List.range 128).all fun b => putMem ps (128 * l + b)) }

/-- The writes of a record, then its full bits. -/
def State.doPuts (s : State) (setf : Bool) (ps : List Put) : State :=
  let s1 := (ps.foldl (fun s p => s.doPut p) s).putClean ps
  if setf then s1.putFull ps else s1

/-- The address at which a place begins. -/
def Place.start : Place → Nat
  | .mem pa _ => pa
  | .spm _ a _ => a

/-- Changes the bytes of writes: `f n i q` gives byte q of write n, at address i. -/
def mapPuts (f : Nat → Nat → Byte × Bool → Byte × Bool) (ps : List Put) : List Put :=
  ((List.range ps.length).zip ps).map fun q =>
    { q.2 with bytes := ((List.range q.2.bytes.length).zip q.2.bytes).map fun b => f q.1 (q.2.at_.start + b.1) b.2 }

/-- The writes of a record that ends FAULT: which of them performed is open, a free value for each aligned 8-byte part,
which performs whole or not at all (R101, R224; log 5). -/
def State.openPuts (s : State) (setf : Bool) (ps : List Put) : State :=
  State.doPuts { s with freeCtr := s.freeCtr + ps.length } setf
    (mapPuts (fun n i q => (q.1, q.2 && (freeByte (s.freeCtr + n) (i / 8)).getLsbD 0)) ps)

/-- The writes of a record whose source overlaps its destination: the bytes it leaves there are free (R8, R222)
(DESIGN CHOICE, log 28). -/
def State.freePuts (s : State) (setf : Bool) (ps after : List Put) : State :=
  State.doPuts { s with freeCtr := s.freeCtr + ps.length } setf
    (mapPuts (fun n i q => (freeByte (s.freeCtr + n) i, q.2)) ps ++ after)

/-! ### How a record ends -/

/-- The end of a record, or that it waits. -/
inductive RecEnd
  | ok (s : State) (count : Nat)
  | miss                                     -- TIERMISS (R225)
  | bad (s : State) (sub : BitVec 8) (count : Nat)
  | wait (s : State)                         -- BATCH-ATOMIC's page, FILTER-WRITE's granule, TIERREQ's entry

/-- A move with its places and its data, or its failing check. -/
def State.place (s : State) (r : Rec) (cast : List CoreId) (m : Move) : Except (BitVec 8) (Placed × Placed) :=
  let src := match m.src with
    | .inl v => s.srcRun r v m.n
    | .inr _ => .ok { places := [] }
  match src with
  | .error e => .error e
  | .ok a => (s.dstRun r cast m.dst m.n).map fun b => (a, b)

/-- The data of a placed move. -/
def State.moveData (s : State) (m : Move) (a : Placed) : Except (BitVec 8) (List Byte) :=
  match m.src with
  | .inl _ => s.readPlaces a.places
  | .inr bs => .ok bs

/-- Some page of a global run is a CXL page that is not resident, whatever the other pages are and whatever the page's
permissions: residency comes before the checks of R148 (R224, R225). -/
def State.globMiss (s : State) (va : Word) (n : Nat) : Bool :=
  (pagesOf (n / 65536 + 2) va n).any fun q =>
    bits q.1 63 56 == 0 && (match s.findLeaf s.cur s.here.ctx q.1 with
      | .error _ => false
      | .ok l => notResident l.1)

/-- A move of which some page is not resident. -/
def State.moveMiss (s : State) (r : Rec) (m : Move) : Bool :=
  (match m.src with
   | .inl v => !rSkind r && s.globMiss v m.n
   | .inr _ => false) || (rDkind r == 0 && s.globMiss m.dst m.n)

/-- What a list of moves does: the writes of those that pass their checks, and the first failing sub-code. -/
structure Moved where
  puts : List Put := []
  srcs : List Place := []
  dsts : List Place := []
  err : Option (BitVec 8) := none

/-- One move added: every check is made, in order (R148, R116). -/
def State.addMove (s : State) (r : Rec) (cast : List CoreId) (acc : Moved) (m : Move) : Moved :=
  let fail (e : BitVec 8) : Moved := { acc with err := acc.err.or (some e) }
  match s.place r cast m with
  | .error e => fail e
  | .ok (a, b) =>
    match s.moveData m a with
    | .error e => fail e
    | .ok bs =>
      let ps := putsOn b.places bs
      if ps.any s.putBad then fail subPoison
      else { acc with puts := acc.puts ++ ps, srcs := acc.srcs ++ a.places, dsts := acc.dsts ++ b.places }

/-- Performs the moves of a record (R224, R225): residency first, then the accesses (DEDUCED, log 29), the writes `after`
them last. A source that overlaps the destination leaves free bytes (DESIGN CHOICE, log 28). -/
def State.doMoves (s : State) (r : Rec) (cast : List CoreId) (ms : List Move) (count : Nat) (extra : Option (BitVec 8))
    (after : List Put) : RecEnd :=
  if ms.any (s.moveMiss r) then .miss
  else
    let m := ms.foldl (fun a x => s.addMove r cast a x) {}
    match (m.err.or extra).or (if after.any s.putBad then some subPoison else none) with
    | some e => .bad (s.openPuts (rSetf r) m.puts) e count
    | none =>
      if m.srcs.any fun p => m.dsts.any p.meets then .ok (s.freePuts (rSetf r) m.puts after) count
      else .ok (s.doPuts (rSetf r) (m.puts ++ after)) count

/-! ### The kinds (Table 10.2) -/

/-- A signed stride times a count, added to an address. -/
def stride (a : Word) (st : W32) (n : Nat) : Word := a + sextW st * .ofNat 64 n

/-- COPY's runs. -/
def copyMoves (r : Rec) (base : Word) : List Move :=
  (List.range (rN2 r)).flatMap fun c2 => (List.range (rN1 r)).map fun c1 =>
    { src := .inl (stride (stride (rSadr r) (rStr2 r) c2) (rStr1 r) c1)
      dst := base + .ofNat 64 ((c2 * rN1 r + c1) * rN0 r), n := rN0 r }

/-- FILL's one run: byte j is byte j mod 8 of AUX64. -/
def fillMoves (r : Rec) (base : Word) : List Move :=
  let n := recBytes r
  [{ src := .inr ((List.range n).map fun j => (rAux64 r).extractLsb' (8 * (j % 8)) 8), dst := base, n := n }]

/-- The n indices of `sz` bytes at an own-scratchpad address, or the failing check: a list that is not aligned ends the
record ALIGN (DESIGN CHOICE, log 117). -/
def State.readIdx (s : State) (a : Word) (n sz align : Nat) : Except (BitVec 8) (List Nat) :=
  match spOwn a (sz * n) align with
  | .error f => .error (subOf f)
  | .ok o =>
    if s.here.spm.badIn o (sz * n) then .error subPoison
    else .ok ((List.range n).map fun i => s.here.spm.mem.get (o + sz * i) sz)

/-- GATHER's or SCATTER's runs. -/
def indexMoves (r : Rec) (base : Word) (idx : List Nat) : List Move :=
  ((List.range idx.length).zip idx).map fun q =>
    if rKind r = kGather then
      { src := .inl (stride (rSadr r) (rStr1 r) q.2), dst := base + .ofNat 64 (q.1 * rN0 r), n := rN0 r }
    else { src := .inl (rSadr r + .ofNat 64 (q.1 * rN0 r)), dst := stride base (rStr1 r) q.2, n := rN0 r }

/-- COPY to memory or scratchpad, GATHER, SCATTER and FILL. A multicast's group slot is checked before the pages' residency
(R225) (DESIGN CHOICE, log 117). -/
def State.moveRec (s : State) (r : Rec) : RecEnd :=
  match if rDkind r = 3 then s.castCores r else .ok [] with
  | .error e => .bad s e 0
  | .ok cast =>
    let base : Word := if rDkind r = 3 then .ofNat 64 (bits (rDadr r) 18 0) else rDadr r
    if rKind r = kCopy then s.doMoves r cast (copyMoves r base) 0 none []
    else if rKind r = kFill then s.doMoves r cast (fillMoves r base) 0 none []
    else match s.readIdx (rAux64 r) (rN1 r) 4 4 with
      | .error e => .bad s e 0
      | .ok idx => s.doMoves r cast (indexMoves r base idx) 0 none []

/-! ### Slot fills (R66, R68, R223) -/

/-- A format descriptor's fields (Table 03.3). -/
def fdFmt (d : BitVec 24) : BitVec 5 := d.extractLsb' 0 5
def fdFmtv (d : BitVec 24) : Bool := d.getLsbD 5
def fdRlog (d : BitVec 24) : BitVec 3 := d.extractLsb' 6 3
def fdClog (d : BitVec 24) : BitVec 3 := d.extractLsb' 9 3
def fdSoff (d : BitVec 24) : Nat := (d.extractLsb' 12 8).toNat

/-- Bytes of a tile (R67). -/
def tileBytes (d : BitVec 24) : Nat :=
  2 ^ (fdRlog d).toNat * 2 ^ (fdClog d).toNat * elemWidth ((Elem.ofCode ((fdFmt d).setWidth 4)).getD .fp32) / 8

/-- The checks of R66 and R68 on a descriptor and a tile address. -/
def descCheck (d : BitVec 24) (va : Word) : Option (BitVec 8) :=
  let sc := (fdFmt d).getLsbD 4
  let rr := 2 ^ (fdRlog d).toNat
  let cc := 2 ^ (fdClog d).toNat
  let tb := tileBytes d
  let o := bits va 15 0
  if !fdFmtv d || decide (14 ≤ (fdFmt d).toNat % 16) || decide ((fdRlog d).toNat < 3) || decide ((fdClog d).toNat < 3)
      || (sc && fdSoff d == 0) || (sc && decide (192 < 2 * rr + cc)) then some subFmt
  else if o % tb != 0 || (fdSoff d != 0 && decide (fdSoff d * 256 < o + tb)) || (fdSoff d == 0 && decide (65536 < o + tb))
      || (sc && decide (65536 < fdSoff d * 256 + 256 * (o / tb) + 256)) then some subAlign
  else none

/-- Step 2 of R223. -/
def Core.slotTakes (k : Core) (n : BitVec 3) (pair : Bool) (d : BitVec 24) : Bool :=
  let v := k.slot n
  if pair then
    !n.getLsbD 0 && v.st == .claimed && v.pairEven && (k.slot (n + 1)).st == .claimed
      && (fdFmt d).setWidth 4 == 0#4 && decide (tileBytes d ≤ 65536)
  else v.st == .claimed && !v.pairEven && !v.pairOdd && (fdFmt d).setWidth 4 != 0#4 && decide (tileBytes d ≤ 32768)

/-- The slot filled with a tile's codes, scales and zero-skip summary (R91): FULL, a pair as a whole. -/
def Core.fillSlot (k : Core) (n : BitVec 3) (d : BitVec 24) (va : Word) (codes scale : List Byte) : Core :=
  let rr := 2 ^ (fdRlog d).toNat
  let cc := 2 ^ (fdClog d).toNat
  let sc := (fdFmt d).getLsbD 4
  let v : Slot :=
    { k.slot n with
      st := .full, fmt := fdFmt d, rlog := fdRlog d, clog := fdClog d, codes := codes
      rowSc := if sc then (List.range rr).map fun i => BitVec.ofNat 16 (leNat ((scale.drop (2 * i)).take 2)) else []
      colSc := if sc then (scale.drop (2 * rr)).take cc else []
      src := va, desc := d, bad := false }
  let k1 := k.setSlot n { v with sums := v.summary }
  if v.pairEven then k1.setSlot (n + 1) { k1.slot (n + 1) with st := .full } else k1

/-- COPY into an operand slot (R223): an override's geometry is known before the address is translated, so its checks come
first (R387). -/
def State.slotRec' (s : State) (r : Rec) : RecEnd :=
  let va := rSadr r
  let n : BitVec 3 := (rDadr r).setWidth 3
  let pair := (rDadr r).getLsbD 3
  if s.globMiss va 1 then .miss
  else match if bits va 63 56 ≠ 0 then some subProt else if fdFmtv (rOvr r) then descCheck (rOvr r) va else none with
  | some e => .bad s e 0
  | none =>
    match s.xlate s.cur s.here.ctx .read va 1 with
    | .error f => .bad s (subOf f) 0
    | .ok x =>
      let d := if fdFmtv (rOvr r) then rOvr r else pteFmtd x.pte
      match descCheck d va with
      | some e => .bad s e 0
      | none =>
        if !s.here.slotTakes n pair d then .bad s subSlot 0
        else
          let blk := (va &&& ~~~0xFFFF#64) + .ofNat 64 (fdSoff d * 256 + 256 * (bits va 15 0 / tileBytes d))
          let sc := if (fdFmt d).getLsbD 4 then
              s.engineRead s.cur blk (2 * 2 ^ (fdRlog d).toNat + 2 ^ (fdClog d).toNat)
            else .ok []
          match s.engineRead s.cur va (tileBytes d), sc with
          | .error e, _ => .bad s e 0
          | .ok _, .error e => .bad s e 0
          | .ok t, .ok q => .ok (s.modHere (·.fillSlot n d va t q)) 0

/-! ### BATCH-ATOMIC (R221, R229, Table 03.2) -/

/-- SETF of a BATCH-ATOMIC of which i elements have performed: the lines that its old values fill (R222). -/
def State.batchFull (s : State) (r : Rec) (i : Nat) : State :=
  let a := (rAux64 r).toNat
  if rSetf r then
    (List.range (i / 16 + 1)).foldl (fun s k =>
      let l := (a + 127) / 128 + k
      if 128 * l + 128 ≤ a + 8 * i then s.modSpm s.cur (·.markFull l 1) else s) s
  else s

/-- Elements from the `i`-th on, in ascending order; COUNT is the number performed. The operands and the old values may
stand at any byte of the scratchpad, as a record's runs may (Table 10.3), because the record names no alignment for
them (DESIGN CHOICE, log 104). -/
def State.batch (s : State) (r : Rec) : Nat → Nat → RecEnd × Nat
  | 0, i => (.ok (s.batchFull r i) i, i)
  | fuel + 1, i =>
    if rN1 r ≤ i then (.ok (s.batchFull r i) i, i)
    else
      match spOwn (rSadr r + .ofNat 64 (8 * i)) 8 1, spOwn (rAux64 r + .ofNat 64 (8 * i)) 8 1 with
      | .error f, _ => (.bad (s.batchFull r i) (subOf f) i, i)
      | .ok _, .error f => (.bad (s.batchFull r i) (subOf f) i, i)
      | .ok o, .ok q =>
        let va := stride (rDadr r) (rStr1 r) i
        if s.here.spm.badIn o 8 || s.here.spm.badIn q 8 then (.bad (s.batchFull r i) subPoison i, i)
        else match s.xlate s.cur s.here.ctx .atomic va 8 with
          | .error f => (.bad (s.batchFull r i) (subOf f) i, i)
          | .ok x =>
            if notResident x.pte && !s.pageDown x.pte then (.wait (s.modMyPart (·.askPage s.here.ctx va)), i)
            else if s.poisoned x.pa then (.bad (s.batchFull r i) subPoison i, i)
            else
              let old : Word := .ofNat 64 (s.mem.get x.pa 8)
              let v : Word := .ofNat 64 (s.here.spm.mem.get o 8)
              let s1 := match (AmoOp.ofCode (rAop r)).bind fun op => amoNew op old v 0 with
                | some w => s.physWrite x.pa (leBytes 8 w.toNat)
                | none => s
              (s1.modSpm s1.cur (·.write q (leBytes 8 old.toNat))).batch r fuel (i + 1)

/-! ### TIERREQ (R221, R265, R336) -/

/-- An increment of a flag of the moving core (R47). -/
def State.incHere (s : State) (f : BitVec 6) : State := s.modHere (·.incFlag f 1)

/-- The tier manager's note of the page of a leaf (R265). -/
def TierPage.isOf (t : TierPage) (l : Leaf) : Bool := t.pteAddr == l.addr && t.hframe.toNat * 65536 == pteHframe l.pte

/-- A task keeps the page of a resident leaf resident (R265). -/
def Part.keepPage (P : Part) (ctx : BitVec 16) (va : Word) (l : Leaf) (h : Nat) : Part :=
  let old := ((P.tierPages.find? (·.isOf l)).map (·.holders)).getD []
  let new : TierPage := { ctx := ctx, va := va &&& ~~~0xFFFF#64, hframe := .ofNat 36 (pteHframe l.pte / 65536), pteAddr := l.addr
                          holders := h :: old.filter (· != h) }
  { P with tierPages := P.tierPages.filter (·.pteAddr != l.addr) ++ [new] }

/-- A task keeps the CXL page of an address resident, if it is (R265) (DEDUCED, log 41). -/
def State.holdPage (s : State) (p : PartId) (ctx : BitVec 16) (va : Word) (h : Nat) : State :=
  match s.walk (s.part p) ctx va with
  | .error _ => s
  | .ok l => if pteTier l.pte = 1 ∧ pteRsd l.pte then s.modPart p (·.keepPage ctx va l h) else s

/-- TIERREQ (DEDUCED, log 41). A page on a device that has dropped off its link cannot be asked for (R379)
(DESIGN CHOICE, log 107). -/
def State.tierRec (s : State) (r : Rec) : RecEnd :=
  let va := rSadr r
  match s.xlate s.cur s.here.ctx .read va 1 with
  | .error f => .bad s (subOf f) 0
  | .ok x =>
    if pteTier x.pte = 2 then .bad s subProt 0
    else if notResident x.pte && s.pageDown x.pte then .bad s subPoison 0
    else if notResident x.pte then
      if !rInc r then .ok (s.modMyPart (·.askPage s.here.ctx va)) 0
      else if 64 ≤ s.here.eng.treq.length then .wait s
      else
        .ok ((s.modMyPart (·.askPage s.here.ctx va)).modHere fun k =>
          { k with eng := { k.eng with treq := k.eng.treq ++ [(va &&& ~~~0xFFFF#64, rFlg r)] } }) 0
    else if rInc r then .ok ((s.holdPage (s.partOf s.cur) s.here.ctx va s.here.holder).incHere (rFlg r)) 0
    else .ok s 0

/-! ### ROUTE (R221) -/

/-- What the token walk of a ROUTE gives: moves, placed counts, dropped tokens, and whether an id is out of range. -/
structure Routed where
  moves : List Move := []
  placed : Tbl Nat := []
  dropped : List Nat := []
  bad : Bool := false

/-- One token of a ROUTE; tokens after an id out of range are not taken. -/
def routeToken (r : Rec) (acc : Routed) (t e : Nat) : Routed :=
  if acc.bad || e == 0xFFFF then acc
  else if rN2 r ≤ e then { acc with bad := true }
  else
    let j := Tbl.get 0 acc.placed e
    if (rAux16 r).toNat ≤ j then { acc with dropped := acc.dropped ++ [t] }
    else
      let m : Move :=
        { src := .inl (stride (rSadr r) (rStr1 r) t)
          dst := stride (rDadr r) (rStr2 r) e + .ofNat 64 (j * rN0 r), n := rN0 r }
      { acc with moves := acc.moves ++ [m], placed := Tbl.set acc.placed e (j + 1) }

/-- ROUTE. The token ids and the placed counts may stand at any byte of the scratchpad (DESIGN CHOICE, log 104); a dropped
token's number is written as 32 bits, like the counts before it (DESIGN CHOICE, log 105). -/
def State.routeRec (s : State) (r : Rec) : RecEnd :=
  match s.readIdx (.ofNat 64 (bits (rAux64 r) 18 0)) (rN1 r) 2 1 with
  | .error e => .bad s e 0
  | .ok ids =>
    let w := ((List.range ids.length).zip ids).foldl (fun a q => routeToken r a q.1 q.2) {}
    let area := (List.range (rN2 r)).flatMap (fun e => leBytes 4 (Tbl.get 0 w.placed e)) ++ w.dropped.flatMap (leBytes 4 ·)
    let o := bits (rAux64 r) 50 32
    let extra := if w.bad then some subRoute else if 0x80000 < o + area.length then some subProt else none
    s.doMoves r [] w.moves w.dropped.length extra
      [{ at_ := .spm s.cur o area.length, bytes := area.map fun b => (b, true) }]

/-! ### FILTER-WRITE (R221, R243) -/

/-- Fields of a window descriptor (R243). -/
def winField (d : BitVec 512) (byte n : Nat) : Nat := d.toNat / 2 ^ (8 * byte) % 2 ^ (8 * n)
def winBase (d : BitVec 512) : Nat := winField d 0 8
def winV (d : BitVec 512) : Nat := winField d 8 4
def winRows (d : BitVec 512) : Nat := winField d 12 2
/-- Bytes of a window. -/
def winBytes (d : BitVec 512) : Nat := 4 * winV d * winRows d

/-- Every byte of a run of 512 lies in an open window of the core. -/
def Core.inWindow (k : Core) (a : Word) : Bool :=
  (List.range 512).all fun i => k.eng.win.any fun w =>
    decide (winBase w.2.desc ≤ (a + .ofNat 64 i).toNat) && decide ((a + .ofNat 64 i).toNat < winBase w.2.desc + winBytes w.2.desc)

/-- FILTER-WRITE. -/
def State.filterRec (s : State) (r : Rec) : RecEnd :=
  let x : BitVec 2 := (rSadr r).setWidth 2
  let f := bits (rSadr r) 8 2
  if s.here.accInUse x then .wait s
  else
    let ms : List Move := (List.range (rN1 r)).map fun i =>
      { src := .inr (leBytes 512 (s.here.accRow x (f + i)).toNat), dst := stride (rDadr r) (rStr1 r) i, n := 512 }
    let inside := ms.filter fun m => s.here.inWindow m.dst
    s.doMoves r [] inside 0 (if inside.length = ms.length then none else some subFilter) []

/-- A record's kind performed. -/
def State.perform (s : State) (r : Rec) (elem : Nat) : RecEnd × Nat :=
  if !recordOk r then (.bad s subRecord 0, elem)
  else match rKind r with
    | 4 => s.batch r (rN1 r) elem
    | 5 => (s.tierRec r, elem)
    | 6 => (s.routeRec r, elem)
    | 7 => (s.filterRec r, elem)
    | _ => (if rDkind r = 2 then s.slotRec' r else s.moveRec r, elem)

/-! ### Channels -/

/-- Channel ch. -/
def Core.chan (k : Core) (ch : BitVec 2) : Chan := Tbl.get {} k.eng.ce ch.toNat
/-- Replaces channel ch. -/
def Core.setChan (k : Core) (ch : BitVec 2) (v : Chan) : Core := { k with eng := { k.eng with ce := Tbl.set k.eng.ce ch.toNat v } }

/-- The oldest chain of a channel ends (R227, R228): `r` is its token's sub-code. -/
def Core.chainEnd (k : Core) (ch : BitVec 2) (r : Option (BitVec 8)) (miss : Bool) : Core :=
  let v := k.chan ch
  match v.held with
  | [] => k
  | h :: l =>
    (k.setChan ch { v with held := l, running := false, next := 0, elem := 0, busy := false, abort := false
                           miss := miss, fault := r.isSome }).endTok h.tok r

/-- The oldest chain starts: at a zero address it ends at once (R227). -/
def Core.chainStart (k : Core) (ch : BitVec 2) : Core :=
  let v := k.chan ch
  match v.held with
  | [] => k
  | h :: _ =>
    match k.mayStart h.tok with
    | .wait => k
    | .fail sub => k.chainEnd ch (some sub) false
    | .go => if h.first = 0 then k.chainEnd ch none false else k.setChan ch { v with running := true, next := h.first }

/-- A channel's oldest chain has not started and its tokens have settled. -/
def Core.chainCanStart (k : Core) (ch : BitVec 2) : Bool :=
  let v := k.chan ch
  !v.running && k.hold.isNone && (match v.held with
    | [] => false
    | h :: _ => k.mayStart h.tok != .wait)

/-- The channel an event names. -/
def evChan (s : State) : BitVec 2 := s.ev.n.setWidth 2

/-- CE_CHAIN_START (R227). -/
def execCeChainStart (s : State) : Out :=
  let c := s.ev.core
  .next (if s.engineOn c && (s.core c).chainCanStart (evChan s) then s.modCore c (·.chainStart (evChan s)) else s)

/-- STATUS, then OWN (R220): a TIERMISS keeps OWN (DEDUCED, log 29). -/
def State.writeStatus (s : State) (pa : Nat) (code : Nat) (sub : BitVec 8) (count : Nat) : State :=
  let s1 := s.physWrite (pa + 56) (leBytes 8 (code + 256 * sub.toNat + 2 ^ 32 * count))
  if code = 1 then s1 else s1.physWrite (pa + 8) [s1.mem.read (pa + 8) &&& 0xFE#8]

/-- The channel goes on to the next record, or its chain ends (R227, R228). -/
def Core.chainGo (k : Core) (ch : BitVec 2) (addr next : Word) : Core :=
  let v := { k.chan ch with last := addr, elem := 0, busy := false }
  let k1 := k.setChan ch v
  if v.abort then k1.chainEnd ch (some subAborted) false
  else if next = 0 then k1.chainEnd ch none false
  else k1.setChan ch { v with next := next }

/-- The chain stops at a record (R224, R227). CE.STAT then shows that record, one with OWN = 0 or one that cannot be read
among them (R228) (DESIGN CHOICE, log 106). -/
def Core.chainStop (k : Core) (ch : BitVec 2) (addr : Word) (r : Option (BitVec 8)) (miss : Bool) : Core :=
  let v := k.chan ch
  (k.setChan ch { v with last := addr }).chainEnd ch (if v.abort then some subAborted else r) (miss && !v.abort)

/-- One record of the running chain on the moving core (R224) (DEDUCED, log 29). -/
def State.doRecord (s : State) (ch : BitVec 2) : Out :=
  let v := s.here.chan ch
  let a := v.next
  match s.xlate s.cur s.here.ctx .read a 64 with
  | .error _ => .next (s.modHere (·.chainStop ch a (some subRecord) false))
  | .ok x =>
    if pteTier x.pte ≠ 0 then .next (s.modHere (·.chainStop ch a (some subRecord) false))
    else if s.poisoned x.pa then .next (s.modHere (·.chainStop ch a (some subPoison) false))
    else
      let r : Rec := .ofNat 512 (s.mem.get x.pa 64)
      if !rOwn r then .next (s.modHere (·.chainStop ch a none false))
      else
        let e := s.perform r v.elem
        match e.1 with
        | .wait t => .next (t.modHere fun k => k.setChan ch { v with last := a, elem := e.2, busy := true })
        | .miss =>
          let t := s.writeStatus x.pa 1 0 0
          .next (t.modHere fun k => if rCom r then k.chainGo ch a (rNext r) else k.chainStop ch a none true)
        | .bad t sub n =>
          let t1 := t.writeStatus x.pa 2 sub n
          .next (t1.modHere (·.chainStop ch a (some sub) false))
        | .ok t n =>
          let t1 := t.writeStatus x.pa 0 0 (if rKind r = kBatch ∨ rKind r = kRoute then n else 0)
          let t2 := if rInc r && rKind r != kTierreq then t1.incHere (rFlg r) else t1
          .next (t2.modHere fun k => k.chainGo ch a (rNext r))

/-- CE_RECORD (R224) (DESIGN CHOICE, log 28). -/
def execCeRecord (s : State) : Out :=
  let c := s.ev.core
  if s.engineOn c && (s.core c).hold.isNone && ((s.core c).chan (evChan s)).running then
    State.doRecord { s with cur := c } (evChan s)
  else .next s

/-! ### Instructions (R226-R228) -/

/-- A channel number in a register field: 4-63 fault ILLEGAL (R226). -/
def chanNo (d : Reg) : Option (BitVec 2) := if d.toNat < 4 then some (d.setWidth 2) else none

/-- CE.GO: the address is checked at issue; two chains held make it wait (R227). -/
def execCeGo (d a : Reg) (e : Bool) (x : Ext) (s : State) : Out :=
  issueL s (
    match chanNo d with
    | none => .fault { code := .illegal }
    | some ch =>
      with1 s a e fun v s1 =>
        if bits v 63 56 ≠ 0 then .fault (addrFlt .prot v .read false)
        else if bits v 5 0 ≠ 0 then .fault (addrFlt .align v .read false)
        else if 2 ≤ (s1.here.chan ch).held.length then waitRoom s1 x (.ce ch)
        else acceptLong s1 x none fun t s2 =>
          .ok (s2.modHere fun k =>
            let c := k.chan ch
            k.setChan ch { c with held := c.held ++ [{ first := v, tok := t }] }))

/-- Discards a channel's chains that have not started (R228). -/
def Core.dropPending (k : Core) (ch : BitVec 2) : Core :=
  let v := k.chan ch
  let keep := if v.running then v.held.take 1 else []
  let gone := if v.running then v.held.drop 1 else v.held
  let k1 := k.setChan ch { v with held := keep, fault := v.fault || !gone.isEmpty, miss := v.miss && gone.isEmpty }
  gone.foldl (fun k h => k.endTok h.tok (some subAborted)) k1

/-- CE.ABORT (R228): a running chain stops at once, or as its record in flight ends. -/
def execCeAbort (d : Reg) (_e : Bool) (s : State) : Out :=
  issueA s (
    match chanNo d with
    | none => .fault { code := .illegal }
    | some ch => .ok (s.modHere fun k =>
        let k1 := k.dropPending ch
        let v := k1.chan ch
        if !v.running then k1
        else if v.busy then k1.setChan ch { v with abort := true }
        else k1.chainEnd ch (some subAborted) false))

/-- The CE.STAT word of a channel (R228). -/
def Chan.stat (v : Chan) : Word :=
  (v.last &&& ~~~63#64) ||| .ofNat 64 (v.held.length + 4 * v.running.toNat + 8 * v.miss.toNat + 16 * v.fault.toNat)

/-- CE.STAT (R228). -/
def execCeStat (d a : Reg) (_e : Bool) (s : State) : Out :=
  issueA s (
    match chanNo a with
    | none => .fault { code := .illegal }
    | some ch => alu0 s d (s.here.chan ch).stat)

end Sys2Proof.Machine
end

