-- ==== Sys2Proof/Machine/Window.lean ====
section
/-! DEFINITION. Logit-filter windows: FLTARM, FLTCLOSE and the rows' results (R243-R245, R351). -/
namespace Sys2Proof.Machine

/-! ### The descriptor (R243) -/

def winK (d : BitVec 512) : Nat := winField d 14 2
def winScale (d : BitVec 512) : Nat := winField d 16 4
def winC (d : BitVec 512) : Nat := winField d 20 4
def winCmode (d : BitVec 512) : Bool := d.getLsbD 192
def winMask (d : BitVec 512) : Nat := winField d 32 8
def winRbase (d : BitVec 512) : Nat := winField d 40 8
/-- Bytes of one row's result block (R245). -/
def winBlock (d : BitVec 512) : Nat := 16 + 8 * winK d

/-- Fields in range and reserved fields 0. -/
def winOk (d : BitVec 512) : Bool :=
  decide (1 ≤ winV d) && decide (winV d ≤ 262144) && decide (1 ≤ winRows d) && decide (winRows d ≤ 64)
    && decide (1 ≤ winK d) && decide (winK d ≤ 256) && decide (winField d 24 1 < 2) && winField d 25 7 == 0
    && winField d 48 16 == 0

/-- Window n of a core. -/
def Core.window? (k : Core) (n : BitVec 2) : Option Window := Tbl.find? k.eng.win n.toNat
/-- Opens or changes window n. -/
def Core.setWindow (k : Core) (n : BitVec 2) (w : Window) : Core := { k with eng := { k.eng with win := Tbl.set k.eng.win n.toNat w } }
/-- Closes window n. -/
def Core.dropWindow (k : Core) (n : BitVec 2) : Core := { k with eng := { k.eng with win := Tbl.erase k.eng.win n.toNat } }

/-- The 64 KiB units that n bytes from an address touch. -/
def unitsOf (a n : Nat) : List Nat := (List.range ((a + n - 1) / 65536 - a / 65536 + 1)).map (a / 65536 + ·)

/-- The frames of a window's units: every page HBM, filter-enabled and on row 0's home stack (R243)
(DEDUCED, log 33). -/
def State.winFrames (s : State) (d : BitVec 512) : Except Flt (List (Nat × Nat)) :=
  (unitsOf (winBase d) (winBytes d)).foldl (fun r u =>
    match r with
    | .error f => .error f
    | .ok l =>
      let va : Word := .ofNat 64 (if u = winBase d / 65536 then winBase d else 65536 * u)
      match s.xlate s.cur s.here.ctx .read va 1 with
      | .error f => .error (addrFlt f va .read false)
      | .ok x =>
        let home := match l with
          | [] => stackOf x.pa
          | q :: _ => stackOf q.2
        if pteTier x.pte ≠ 0 ∨ !pteFwe x.pte ∨ stackOf x.pa ≠ home then .error (addrFlt .prot va .read false)
        else .ok (l ++ [(u, x.pa - bits va 15 0)])) (.ok [])

/-- The format descriptor of a window's page as R66 and R68 have it, without a tile's place (DEDUCED, log 33). Any format
that they allow opens the window (DESIGN CHOICE, log 114). -/
def winFormatOk (d : BitVec 24) : Bool :=
  fdFmtv d && decide ((fdFmt d).toNat % 16 < 14) && decide (3 ≤ (fdRlog d).toNat) && decide (3 ≤ (fdClog d).toNat)
    && (!(fdFmt d).getLsbD 4 || fdSoff d != 0 && decide (2 * 2 ^ (fdRlog d).toNat + 2 ^ (fdClog d).toNat ≤ 192))

/-- The FMT_CODE fault of the first page of a window whose descriptor fails (R66). -/
def State.winFormat (s : State) (d : BitVec 512) : Option Flt :=
  (unitsOf (winBase d) (winBytes d)).findSome? fun u =>
    match s.xlate s.cur s.here.ctx .read (.ofNat 64 (65536 * u)) 1 with
    | .error _ => none
    | .ok x => if winFormatOk (pteFmtd x.pte) then none else some (fmtFlt (fdFmt (pteFmtd x.pte)))

/-- Translates every unit of a region, for its first failing address. -/
def State.regionCheck (s : State) (acc : Acc) (a n : Nat) : Option Flt :=
  (pagesOf (n / 65536 + 2) (.ofNat 64 a) n).findSome? fun q =>
    match s.xlate s.cur s.here.ctx acc q.1 1 with
    | .error f => some (addrFlt f q.1 acc false)
    | .ok _ => none

/-- The address checks of a descriptor before its translations in the order of R387, each step over WBASE, MASK and RBASE:
space, alignment, end (DEDUCED, log 33). -/
def winAddrCheck (d : BitVec 512) : Option Flt :=
  let w : Word := .ofNat 64 (winBase d)
  let m : Word := .ofNat 64 (winMask d)
  let r : Word := .ofNat 64 (winRbase d)
  if bits w 63 56 ≠ 0 then some (addrFlt .prot w .read false)
  else if bits m 63 56 ≠ 0 then some (addrFlt .prot m .read false)
  else if bits r 63 56 ≠ 0 then some (addrFlt .prot r .write false)
  else if winBase d % 512 ≠ 0 then some (addrFlt .align w .read false)
  else if winMask d % 8 ≠ 0 then some (addrFlt .align m .read false)
  else if winRbase d % 16 ≠ 0 then some (addrFlt .align r .write false)
  else if pastEnd (winBase d) (winBytes d) then some (addrFlt .prot w .read false)
  else if winMask d ≠ 0 && pastEnd (winMask d) ((winV d + 7) / 8) then some (addrFlt .prot m .read false)
  else if pastEnd (winRbase d) (winRows d * winBlock d) then some (addrFlt .prot r .write false)
  else none

/-- The frames of a descriptor that passes every check of R243, or the fault (DEDUCED, log 31) (DEDUCED, log 33). -/
def State.armCheck (s : State) (n : BitVec 2) (v : Word) : Except Flt Window :=
  match spOwn v 64 64 with
  | .error f => .error (addrFlt f v .read false)
  | .ok o =>
    if s.here.spm.badIn o 64 then .error spPoison
    else
      let d : BitVec 512 := .ofNat 512 (s.here.spm.mem.get o 64)
      if (s.here.window? n).isSome || !winOk d then .error { code := .illegal }
      else match winAddrCheck d with
        | some f => .error f
        | none =>
          match s.winFrames d with
          | .error f => .error f
          | .ok fr =>
            match if winMask d = 0 then none else s.regionCheck .read (winMask d) ((winV d + 7) / 8) with
            | some f => .error f
            | none =>
              match (s.regionCheck .write (winRbase d) (winRows d * winBlock d)).or (s.winFormat d) with
              | some f => .error f
              | none => .ok { desc := d, frames := fr }

/-- FLTARM opens the window once its consumed tokens allow, and its token turns DONE (R110, R243)
(DEDUCED, log 31). -/
def armOpen (s : State) (n : BitVec 2) (w : Window) (t : Toks) (s1 : State) : Eff :=
  match s.here.mayStart t with
  | .wait => .stall .toks
  | .fail sub => .ok (s1.modHere (·.endTok t (some sub)))
  | .go => .ok (s1.modHere fun k => (k.setWindow n w).endTok t none)

/-- FLTARM (R243): a window number of 4-63 faults ILLEGAL (R139) (DEDUCED, log 31). -/
def execFltarm (d a : Reg) (e : Bool) (x : Ext) (s : State) : Out :=
  issueL s (
    match chanNo d with
    | none => .fault { code := .illegal }
    | some n =>
      with1 s a e fun v s1 =>
        match s1.armCheck n v with
        | .error f => acceptLong s1 x (some f) fun _ s2 => .ok s2
        | .ok w => acceptLong s1 x none fun t s2 => armOpen s1 n w t s2)

/-- Every row's result block is written. -/
def Window.allDone (w : Window) : Bool := (List.range (winRows w.desc)).all fun q => w.done.getLsbD q

/-- FLTCLOSE (R244). -/
def execFltclose (d : Reg) (_e : Bool) (s : State) : Out :=
  issueA s (
    match chanNo d with
    | none => .fault { code := .illegal }
    | some n =>
      match s.here.window? n with
      | none => .fault { code := .illegal }
      | some w =>
        if w.closing && w.allDone then .ok (s.modHere (·.dropWindow n))
        else if w.closing then .stall (.filter n)
        else .stallIn (s.modHere (·.setWindow n { w with closing := true })) (.filter n))

/-! ### A row's result (R245) -/

/-- The physical address of a window byte, through the frames bound at FLTARM (R351) (DEDUCED, log 32). -/
def Window.pa (w : Window) (a : Nat) : Option Nat := (w.frames.find? (·.1 == a / 65536)).map fun q => q.2 + a % 65536

/-- A byte as the filter reads it: a byte of a poisoned line is free, because the filter has no token to fault
(DESIGN CHOICE, log 100). -/
def State.winByte (s : State) (pa : Nat) : Byte := if s.poisoned pa then freeByte s.freeCtr pa else s.mem.read pa

/-- The FP32 codes of row q, as its bytes stand whatever format the page names (R243, R245) (DESIGN CHOICE, log 114);
none while the window is not bound. -/
def State.winRow (s : State) (w : Window) (q : Nat) : Option (List Nat) :=
  (List.range (winV w.desc)).foldr (fun i acc => acc.bind fun l =>
    (w.pa (winBase w.desc + 4 * (winV w.desc * q + i))).map fun a =>
      leNat ((List.range 4).map fun j => s.winByte (a + j)) :: l) (some [])

/-- A byte at a virtual address of core c's context. -/
def State.ctxByte (s : State) (c : CoreId) (va : Word) : Option Byte :=
  match s.xlate c (s.core c).ctx .read va 1 with
  | .error _ => none
  | .ok x => some (s.winByte x.pa)

/-- The mask bits of a window; none while an address does not translate (DEDUCED, log 32). -/
def State.winMaskBits (s : State) (c : CoreId) (d : BitVec 512) : Option (List Bool) :=
  if winMask d = 0 then some (List.replicate (winV d) true)
  else
    ((List.range ((winV d + 7) / 8)).foldr (fun i acc => acc.bind fun l => (s.ctxByte c (.ofNat 64 (winMask d + i))).map (· :: l)) (some [])).map
      fun bs => (List.range (winV d)).map fun i => (bs.getD (i / 8) 0).getLsbD (i % 8)

/-- x is larger than y, -0 = +0; the earlier index wins a tie (R245). -/
def largerFirst (a b : Nat × Nat) : Bool :=
  numLt (codeValue .fp32 b.2) (codeValue .fp32 a.2) || (numEq (codeValue .fp32 a.2) (codeValue .fp32 b.2) && decide (a.1 < b.1))

/-- Inserts (index, value) into a list ordered by value descending, then index. -/
def largeIn (x : Nat × Nat) : List (Nat × Nat) → List (Nat × Nat)
  | [] => [x]
  | y :: l => if largerFirst x y then x :: y :: l else y :: largeIn x l

/-- The code is a NaN of FP32. -/
def isNan32 (c : Nat) : Bool := codeValue .fp32 c == .nan

/-- The term t[i] of an eligible element (R245): one rounding of x * SCALE - c, then 2^u as VEXP2. -/
def winTerm (scale c x : Nat) : Nat :=
  let p := numMul (codeValue .fp32 x) (codeValue .fp32 scale)
  let q := numAdd .rne p.1 (codeValue .fp32 c).neg
  let u := convert .fp32 false .rne 0 q.1
  (fpExp2 .rne 0 u.1).1

/-- The exact sum of terms, rounded once; an infinite term gives +Inf, a NaN term NaN. -/
def winSum (ts : List Nat) : Nat :=
  let vs := ts.map (codeValue .fp32)
  if vs.any (· == .nan) then nan32
  else if vs.any (· == .inf false) then inf32 false
  else
    let lo := minExp vs
    let t := sumAt lo vs
    if t = 0 then 0 else (convert .fp32 false .rne 0 (ofIntAt t lo)).1

/-- The result block of a row (R245). -/
def winResult (d : BitVec 512) (xs : List Nat) (ms : List Bool) : List Byte :=
  let all := (List.range xs.length).zip (xs.zip ms)
  let nans := all.countP fun q => q.2.2 && isNan32 q.2.1
  let el := (all.filter fun q => q.2.2 && !isNan32 q.2.1).map fun q => (q.1, q.2.1)
  let ranked := el.foldl (fun l x => largeIn x l) []
  let top := match ranked with
    | [] => (0xFFFFFFFF, inf32 true)
    | x :: _ => x
  let c := if winCmode d then (convert .fp32 false .rne 0 (numMul (codeValue .fp32 top.2) (codeValue .fp32 (winScale d))).1).1
    else winC d
  let sum := if el.any fun q => codeValue .fp32 q.2 == .inf false then inf32 false
    else winSum (el.map fun q => winTerm (winScale d) c q.2)
  let list := ranked.take (winK d)
  let pad := List.replicate (winK d - list.length) (0xFFFFFFFF, inf32 true)
  leBytes 4 top.2 ++ leBytes 4 top.1 ++ leBytes 4 sum ++ leBytes 4 nans
    ++ (list ++ pad).flatMap fun q => leBytes 4 q.1 ++ leBytes 4 q.2

/-- The physical bytes of a result block, written under the task's context; none if it does not translate. A byte on a
device that has dropped off its link is not written (R379) (DESIGN CHOICE, log 100). -/
def State.putBlock (s : State) (c : CoreId) (a : Nat) (bs : List Byte) : Option State :=
  ((List.range bs.length).zip bs).foldl (fun t q => t.bind fun t =>
    match t.xlate c (t.core c).ctx .write (.ofNat 64 (a + q.1)) 1 with
    | .error _ => none
    | .ok x => some (if t.linkDown x.pa 1 then t else t.physWrite x.pa [q.2])) (some s)

/-- FILTER_RESULT: the base die writes one row's block once FLTCLOSE has begun (R244, R245) (DEDUCED, log 32). -/
def execFilterResult (s : State) : Out :=
  let c := s.ev.core
  let n : BitVec 2 := s.ev.n.setWidth 2
  let q := s.ev.lane.toNat
  .next (
    match (s.core c).window? n with
    | none => s
    | some w =>
      if !s.engineOn c || !w.closing || decide (winRows w.desc ≤ q) || w.done.getLsbD q then s
      else match s.winMaskBits c w.desc, s.winRow w q with
        | some ms, some xs =>
          match s.putBlock c (winRbase w.desc + q * winBlock w.desc) (winResult w.desc xs ms) with
          | none => s
          | some t => State.modCore { t with freeCtr := t.freeCtr + 1 } c fun k =>
              k.setWindow n { w with done := w.done ||| (1#64 <<< q) }
        | _, _ => s)

end Sys2Proof.Machine
end

