-- ==== Sys2Proof/Machine/Save.lean ====
section
/-! DEFINITION. The save image of a task: its layout (R335-R337), writing it, reading it back, and what a failed save or
restore does (R330-R342). -/
namespace Sys2Proof.Machine

/-! ### Places (R334, R335) -/

/-- Bytes of one half of a save slot. -/
def halfSize : Nat := 0x110000
/-- The virtual address of half h of save slot n. -/
def Ctx.halfVa (x : Ctx) (n : BitVec 10) (h : Bool) : Nat := x.savebase.toNat + n.toNat * (2 * halfSize) + h.toNat * halfSize

/-- The physical address of a byte of a save slot: a pinned, writable HBM page of the context (R334, R353). -/
def State.savePa (s : State) (p : PartId) (ctx : BitVec 16) (va : Nat) : Option Nat :=
  match s.walk (s.part p) ctx (.ofNat 64 va) with
  | .error _ => none
  | .ok l => if pteTier l.pte = 0 ∧ ptePin l.pte ∧ pteW l.pte ∧ !s.dead.getLsbD (stackOf (leafPa l.pte l.big (.ofNat 64 va))) then
      some (leafPa l.pte l.big (.ofNat 64 va))
    else none

/-- Pieces of a range that do not cross a 64 KiB boundary: address and length. `fuel` bounds their number. -/
def pieces : Nat → Nat → Nat → List (Nat × Nat)
  | 0, _, _ => []
  | fuel + 1, va, n =>
    if n = 0 then []
    else
      let k := Nat.min n (65536 - va % 65536)
      (va, k) :: pieces fuel (va + k) (n - k)

/-- Writes bytes of a save slot; none if a page of it does not stand as CREATE checked it (R353). -/
def State.putSave (s : State) (p : PartId) (ctx : BitVec 16) (va : Nat) (bs : List Byte) : Option State :=
  (pieces (bs.length / 65536 + 2) va bs.length).foldl (fun o q => o.bind fun t =>
    (t.savePa p ctx q.1).map fun pa => t.physWrite pa ((bs.drop (q.1 - va)).take q.2)) (some s)

/-- Reads bytes of a save slot; none for a poisoned line or a page that does not stand (R342). -/
def State.getSave (s : State) (p : PartId) (ctx : BitVec 16) (va n : Nat) : Option (List Byte) :=
  (pieces (n / 65536 + 2) va n).foldr (fun q o => o.bind fun l =>
    match s.savePa p ctx q.1 with
    | none => none
    | some pa => if s.poisonedIn pa q.2 then none else some (s.physRead pa q.2 ++ l)) (some [])

/-! ### Codes -/

/-- A token in the engine regions: its extension word and its state before it turned PENDING (log 7). -/
def Toks.word (t : Toks) : Nat := t.pre.st.code + t.pre.sub.toNat * 2 ^ 8 + t.ext.word.toNat * 2 ^ 32
/-- A token state from its code. -/
def TokSt.ofCode (n : Nat) : TokSt :=
  match n % 4 with
  | 0 => .idle | 1 => .pending | 2 => .done | _ => .faulted
/-- Reads `Toks.word` back. -/
def Toks.ofWord (w : Nat) : Toks :=
  { ext := Ext.ofWord (.ofNat 32 (w / 2 ^ 32)), pre := { st := .ofCode w, sub := .ofNat 8 (w / 2 ^ 8) } }
/-- A slot state from its code. -/
def SlotSt.ofCode (n : Nat) : SlotSt :=
  match n % 4 with
  | 0 => .free | 1 => .claimed | 2 => .full | _ => .inUse

/-- Bit i of a number, as 0 or 1. -/
def bitN (n i : Nat) : Nat := n / 2 ^ i % 2
/-- Bits from lo on, n of them. -/
def fieldN (v lo n : Nat) : Nat := v / 2 ^ lo % 2 ^ n

/-- Writes a list of 8-byte words. -/
def Mem.put8 (m : Mem) (a : Nat) (l : List Nat) : Mem := m.writeN a (l.flatMap (leBytes 8))
/-- The 8-byte word at an address. -/
def Mem.w8 (m : Mem) (a : Nat) : Nat := m.get a 8

/-! ### Engine regions (log 7: the spec gives their content, the model their layout) -/

/-- An accepted ME command: 11 words. -/
def MeCmd.words (c : MeCmd) : List Nat :=
  let head (k : Nat) := k + c.split % 8 * 2 ^ 8
  match c.op with
  | .go r no => head 1 :: c.tok.word :: no.toNat :: (List.range 8).map fun i => (mxReg r i).toNat
  | .mode m seed => [head 2, c.tok.word, m.code.toNat, seed.toNat, 0, 0, 0, 0, 0, 0, 0]
  | .msk a => [head 3, c.tok.word, a.toNat, 0, 0, 0, 0, 0, 0, 0, 0]

/-- Reads an ME command back. -/
def MeCmd.ofMem (m : Mem) (a : Nat) : MeCmd :=
  let h := m.w8 a
  let op : MeOp := match h % 256 with
    | 1 => .go ((List.range 8).map fun i => .ofNat 64 (m.w8 (a + 24 + 8 * i))) (.ofNat 32 (m.w8 (a + 16)))
    | 2 => .mode ((Rmode.ofCode (.ofNat 3 (m.w8 (a + 16)))).getD .rne) (.ofNat 64 (m.w8 (a + 24)))
    | _ => .msk (.ofNat 19 (m.w8 (a + 16)))
  { op := op, tok := .ofWord (m.w8 (a + 8)), split := h / 2 ^ 8 }

/-- The nest in flight: 4 words. -/
def MeRun.words (n : MeRun) : List Nat :=
  let ix := (List.range 6).map fun i => n.ix.getD i 0
  let l := n.last.getD (0, 0, 0)
  [ (ix.take 4).foldr (fun v t => v % 65536 + 65536 * t) 0,
    (ix.drop 4).foldr (fun v t => v % 65536 + 65536 * t) 0 + n.claimed.getD 0 * 2 ^ 32,
    n.steps.toNat + n.flags.toNat * 2 ^ 32,
    1 + n.checked.toNat * 2 + n.claimed.isSome.toNat * 4 + n.last.isSome.toNat * 8
      + l.1.toNat * 2 ^ 8 + l.2.1.toNat * 2 ^ 12 + l.2.2.toNat * 2 ^ 16
      + n.exits * 2 ^ 20 + n.exited * 2 ^ 24 + n.walked.toNat * 2 ^ 28 + n.drained * 2 ^ 32 ]

/-- Reads a nest in flight back. -/
def MeRun.ofMem (m : Mem) (a : Nat) : Option MeRun :=
  let w0 := m.w8 a
  let w1 := m.w8 (a + 8)
  let w2 := m.w8 (a + 16)
  let w3 := m.w8 (a + 24)
  if w3 % 2 = 0 then none
  else some {
    ix := (List.range 4).map (fun i => fieldN w0 (16 * i) 16) ++ [fieldN w1 0 16, fieldN w1 16 16]
    steps := .ofNat 32 w2, flags := .ofNat 6 (w2 / 2 ^ 32), checked := bitN w3 1 == 1
    claimed := if bitN w3 2 = 1 then some (w1 / 2 ^ 32) else none
    last := if bitN w3 3 = 1 then some (.ofNat 3 (w3 / 2 ^ 8), .ofNat 3 (w3 / 2 ^ 12), .ofNat 2 (w3 / 2 ^ 16)) else none
    exits := fieldN w3 20 4, exited := fieldN w3 24 4, walked := bitN w3 28 == 1, drained := fieldN w3 32 4 }

/-- What a slot carries beside its data: 2 words, with the accepted nests that its deferred release waits for. -/
def Slot.words (v : Slot) (cmds : List MeCmd) : List Nat :=
  let waits (i : Nat) : Nat := (((cmds[i]?).bind (·.no?)).any fun no => v.after.contains no).toNat
  [waits 0 * 2 ^ 41 + waits 1 * 2 ^ 42 + v.fmt.toNat + v.rlog.toNat * 2 ^ 5 + v.clog.toNat * 2 ^ 8 + v.desc.toNat * 2 ^ 16 + v.bad.toNat * 2 ^ 40, v.src.toNat]

/-- The ME region, from 0x640 (DESIGN CHOICE, log 7). -/
def Core.meWords (k : Core) : List Nat :=
  let m := k.eng.me
  let cmd (i : Nat) := match m.cmds[i]? with
    | some c => c.words
    | none => List.replicate 11 0
  (List.range 8).map (fun i => (k.shadow i).toNat)
    ++ [m.goes.toNat + m.splits % 8 * 2 ^ 32, m.mode.code.toNat + m.cmds.length * 2 ^ 8
          + k.ctl.fcSub.toNat * 2 ^ 16 + k.a.peerGroup.toNat * 2 ^ 24, m.seed.toNat]
    ++ (match m.run with
        | some n => n.words
        | none => [0, 0, 0, 0])
    ++ cmd 0 ++ cmd 1 ++ (List.range 8).flatMap fun i => (k.slot (.ofNat 3 i)).words m.cmds

/-- Reads the ME region back. -/
def meOfMem (m : Mem) : Me :=
  let w8 := m.w8 (0x640 + 64)
  let w9 := m.w8 (0x640 + 72)
  { shadow := (List.range 8).map fun i => (i, BitVec.ofNat 64 (m.w8 (0x640 + 8 * i)))
    goes := .ofNat 32 w8, splits := w8 / 2 ^ 32, mode := (Rmode.ofCode (.ofNat 3 w9)).getD .rne
    seed := .ofNat 64 (m.w8 (0x640 + 80)), run := MeRun.ofMem m (0x640 + 88)
    cmds := ((List.range 2).filter (· < fieldN w9 8 8)).map fun i => MeCmd.ofMem m (0x640 + 120 + 88 * i) }

/-- A channel: 7 words (R229). A record that waits without having performed anything starts again
(DESIGN CHOICE, log 7). -/
def Chan.words (v : Chan) : List Nat :=
  let ch (i : Nat) := match v.held[i]? with
    | some h => [h.first.toNat, h.tok.word]
    | none => [0, 0]
  [ v.next.toNat, v.last.toNat,
    v.held.length + v.running.toNat * 2 ^ 2 + v.miss.toNat * 2 ^ 3 + v.fault.toNat * 2 ^ 4 + v.abort.toNat * 2 ^ 5
      + v.busy.toNat * 2 ^ 6 + v.elem * 2 ^ 32 ] ++ ch 0 ++ ch 1

/-- Reads a channel back. -/
def Chan.ofMem (m : Mem) (a : Nat) : Chan :=
  let w := m.w8 (a + 16)
  { next := .ofNat 64 (m.w8 a), last := .ofNat 64 (m.w8 (a + 8)), running := bitN w 2 == 1, miss := bitN w 3 == 1
    fault := bitN w 4 == 1, abort := bitN w 5 == 1, busy := bitN w 6 == 1, elem := w / 2 ^ 32
    held := ((List.range 2).filter (· < fieldN w 0 2)).map fun i =>
      { first := .ofNat 64 (m.w8 (a + 24 + 16 * i)), tok := .ofWord (m.w8 (a + 32 + 16 * i)) } }

/-- Where a gather's entry stands in its load queue. -/
def Core.gatherPos (k : Core) (m : Nat) (g : Gs) : Nat :=
  ((List.range 8).find? fun i => ((k.lq g.lq)[i]?.map (·.gather == some (BitVec.ofNat 3 m))).getD false).getD 0

/-- A gather or scatter in flight under bitmap m: 2 words of the GS region. -/
def Core.gsWords (k : Core) (m : Nat) : List Nat :=
  match Tbl.find? k.eng.gs m with
  | none => [0, 0]
  | some g =>
    [g.base.toNat, (if g.scatter then sqNum g.sq else g.lq.toNat) + g.scatter.toNat * 2 ^ 2 + 2 ^ 3
      + k.gatherPos m g * 2 ^ 4 + g.pc.toNat * 2 ^ 8]

/-! ### The image (R335-R337) -/

/-- Gathers and scatters in flight, in ascending bitmap. -/
def Core.inFlight (k : Core) : List (Nat × Gs) :=
  (List.range 8).filterMap fun m => (Tbl.find? k.eng.gs m).map fun g => (m, g)
/-- Scatters in flight from store queue q. -/
def Core.heldOf (k : Core) (q : Sq) : List SqEnt := (k.inFlight.filter fun x => x.2.scatter && x.2.sq == q).map (·.2.data)

/-- Granules in use (R43). -/
def Core.granulesInUse (k : Core) : Nat :=
  ((List.range 4).filter fun x => k.accInUse (.ofNat 2 x)).foldl (fun n x => n + 0xFF * 2 ^ (8 * x)) 0
/-- Granules present in the image: dirty or in use (R335). -/
def Core.granulesPresent (k : Core) : Nat := k.eng.dirty.toNat ||| k.granulesInUse
/-- Slots present in the image: FULL or IN-USE (R335). -/
def Core.slotsPresent (k : Core) : Nat :=
  ((List.range 8).filter fun n => (k.slot (.ofNat 3 n)).ready).foldl (fun v n => v + 2 ^ n) 0

/-- TSTATE (Table 18.9). -/
def Core.tstate (k : Core) : Nat :=
  let x := match k.x.trap, k.x.run with
    | some _, _ => 2
    | none, .running => 1
    | none, .idle => 0
  1 + k.detm.toNat * 2 + k.info.cont.replay.toNat * 4 + k.a.inTrap.toNat * 8 + x * 16
    + (k.x.trap.isSome && !k.x.taken).toNat * 64 + ((k.x.trap.map (·.toNat - 56)).getD 0) % 4 * 128
    + k.a.scall.isSome.toNat * 512 + k.hold.isSome.toNat * 1024 + k.a.gbar.isSome.toNat * 4096 + k.a.handoff.isSome.toNat * 8192

/-- The peer chosen: a rank when its task is a member of the gang (R337). -/
def State.peerCode (s : State) (k : Core) : Nat :=
  match k.a.peer with
  | none => 0
  | some c =>
    let t := s.core c
    if k.info.gang.isSome && t.runsTask && t.info.gang.isSome && t.info.lrec == k.info.lrec && t.info.cont.ctx == k.info.cont.ctx
    then t.info.rank.toNat + 2 ^ 8 + 2 ^ 9 else c.toNat + 2 ^ 9

/-- QCNT (Table 18.9). -/
def Core.qcnt (k : Core) : Nat :=
  let l := (List.range 4).map (fun q => (k.lq (.ofNat 2 q)).length) ++ [(k.sq .sq0).length, (k.sq .sq1).length,
    (k.sq .sq2).length, k.q.iq.length, k.q.xq.length, k.inFlight.length, (k.heldOf .sq0).length, (k.heldOf .sq1).length,
    (k.heldOf .sq2).length]
  l.foldr (fun n t => n % 16 + 16 * t) 0

/-- A store-queue entry's 576 bytes. -/
def SqEnt.bytes (e : SqEnt) : List Byte := leBytes 512 e.data.toNat ++ leBytes 64 e.en.toNat
/-- An IQ entry's 528 bytes. -/
def IqEnt.bytes (e : IqEnt) : List Byte := leBytes 512 e.idx.toNat ++ leBytes 16 e.mask.toNat

/-- Writes entries of n bytes each from an address on. -/
def Mem.putEach (m : Mem) (a n : Nat) : List (List Byte) → Mem
  | [] => m
  | e :: l => Mem.putEach (m.writeN a e) (a + n) n l

/-- The queue part (R337). -/
def Core.queueImage (k : Core) (m : Mem) : Mem :=
  let m1 := (List.range 4).foldl (fun m q =>
    m.putEach (0x9C00 + 0x800 * q) 512 ((k.lq (.ofNat 2 q)).map fun e => leBytes 512 e.data.toNat)) m
  let m2 := [Sq.sq0, .sq1, .sq2].foldl (fun m q =>
    m.putEach (0xBC00 + 0x6C0 * sqNum q) 576 ((k.sq q ++ k.heldOf q).map SqEnt.bytes)) m1
  let m3 := m2.putEach 0xD040 528 ((k.q.iq ++ k.inFlight.map (·.2.iq)).map IqEnt.bytes)
  m3.putEach 0xD670 8 (k.q.xq.map fun x => leBytes 8 x.toNat)

/-- The header without VALID and GEN (Table 18.9). `s` gives the control registers, which are read on core c. -/
def State.headerImage (s : State) (c : CoreId) (gen : Nat) (fseq : Nat) : Mem :=
  let k := s.core c
  let t : State := { s with cur := c }
  let wins := (List.range 4).filter fun n => (k.window? (.ofNat 2 n)).isSome
  let bound := (List.range 7).filter fun n => (Tbl.find? k.a.ports n).isSome
  let m0 : Mem := Mem.put8 [] 0 [gen]
  let m1 := m0.put 0x8 8 (1 + k.info.cont.ctx.toNat * 2 ^ 16 + k.info.lrec.toNat * 2 ^ 32 + k.info.rank.toNat * 2 ^ 48
    + k.info.size.toNat * 2 ^ 56)
  let m2 := m1.put 0x14 4 fseq
  let m3 := m2.put 0x18 8 (k.granulesPresent + k.granulesInUse * 2 ^ 32)
  let m4 := m3.put 0x20 8 (k.ostat.toNat + k.slotsPresent * 2 ^ 32)
  let m5 := m4.put 0x28 4 (k.info.cont.live.toNat + k.info.cont.spill.toNat * 2 ^ 13)
  let m6 := m5.put8 0x30 [k.qcnt, k.a.pc.toNat, k.x.pc.toNat]
  let m7 := m6.put8 0x60 ((List.range 64).map fun n => if 48 ≤ n ∧ n ≤ 55 then 0 else (k.reg (.ofNat 6 n)).toNat)
  let m8 := m7.put8 0x260 ((List.range 21).map fun n => ((t.readCtl (.ofNat 12 n)).getD 0).toNat)
  let m9 := m8.put8 0x308 [k.x.vrb.toNat + k.x.prb.toNat * 2 ^ 8 + k.x.lc.toNat * 2 ^ 32,
    s.peerCode k + k.a.permits.toNat * 2 ^ 10 + k.eng.gstk.length * 2 ^ 15 + wins.foldl (fun v n => v + 2 ^ (19 + n)) 0]
  let m10 := (List.range 32).foldl (fun m n => m.put (0x320 + 2 * n) 2 ((k.tok n).st.code + (k.tok n).sub.toNat * 256)) m9
  let m11 := (List.range 64).foldl (fun m n => m.put (0x360 + 4 * n) 4 (k.flag (.ofNat 6 n)).toNat) m10
  let m12 := (List.range 8).foldl (fun m n => m.put (0x460 + 16 * n) 16 (Tbl.get 0#128 k.eng.cb n).toNat) m11
  let m13 := m12.putEach 0x4E0 2 (k.eng.gstk.reverse.map fun x => leBytes 2 x.toNat)
  let m14 := (List.range 4).foldl (fun m n => m.put (0x4F0 + 4 * n) 4 (k.phaseOf (.ofNat 2 n))) m13
  let m15 := m14.put8 0x500 ((List.range 7).map fun n => ((Tbl.find? k.a.ports n).getD 0).toNat)
  let m16 := m15.put 0x538 1 (bound.foldl (fun v n => v + 2 ^ n) 0)
  let m17 := wins.foldl (fun m n => m.put (0x540 + 64 * n) 64 (((k.window? (.ofNat 2 n)).map (fun w : Window => w.desc)).getD 0).toNat) m16
  let m18 := m17.put8 0x640 k.meWords
  let m19 := (List.range 4).foldl (fun m n => m.put8 (0x840 + 64 * n) (Tbl.get ({} : Chan) k.eng.ce n).words) m18
  let m20 := (List.range 8).foldl (fun m n => m.put8 (0x940 + 16 * n) (k.gsWords n)) m19
  (List.range k.eng.treq.length).foldl (fun m n =>
    let e := k.eng.treq.getD n (0, 0)
    m.put (0x9C0 + 8 * n) 8 ((e.1 &&& 0x00FFFFFFFFFF0000#64).toNat + e.2.toNat + 64)) m20

/-- Lines of the task's live region and carve-out (R14). -/
def Core.ownLines (k : Core) : List Nat :=
  let live := k.info.cont.live.toNat
  (List.range live) ++ ((List.range (8 * k.info.cont.spill.toNat)).map (k.spco.toNat / 128 + ·)).filter (live ≤ ·)

/-- Every part but the header, in ascending offset: offset and bytes (Table 18.8, R335) (DESIGN CHOICE, log 7). -/
def Core.parts (k : Core) : List (Nat × List Byte) :=
  let q := k.queueImage []
  let full := (List.range 4096).map fun n => k.spm.isFull n && k.ownLines.contains n
  [ (0x1000, (List.range 64).flatMap fun n => leBytes 512 (Tbl.get 0#4096 k.x.v n).toNat),
    (0x9000, (List.range 16).flatMap fun n => leBytes 64 (if n = 0 then allOn else Tbl.get 0#512 k.x.p n).toNat),
    (0x9400, (List.range 128).flatMap fun n => leBytes 16 (Tbl.get 0#128 k.eng.mask n).toNat),
    (0x9C00, q.readN 0x9C00 0x4000),
    (0xDC00, (List.range 512).map fun b => BitVec.ofNat 8 ((List.range 8).foldl (fun v i =>
      v + (full.getD (8 * b + i) false).toNat * 2 ^ i) 0)) ]
  ++ ((List.range 32).filter fun g => k.granulesPresent.testBit g).map (fun g =>
      (0x10000 + 0x2000 * g, (List.range 16).flatMap fun i =>
        leBytes 512 (k.accRow (.ofNat 2 (g / 8)) (16 * (g % 8) + i)).toNat))
  ++ ((List.range 8).filter fun n => (k.slot (.ofNat 3 n)).ready && !(k.slot (.ofNat 3 n)).pairOdd).map (fun n =>
      (0x50000 + 0x8000 * n, (k.slot (.ofNat 3 n)).codes ++ (k.slot (.ofNat 3 n)).scaleBytes))
  ++ k.ownLines.map fun n => (0x90000 + 128 * n, k.spm.mem.readN (128 * n) 128)

/-- What the image has no bytes for (log 7). -/
def Core.marks (k : Core) : Marks :=
  { regs := k.a.bad
    lq := (List.range 4).flatMap fun q => (((List.range 8).zip (k.lq (.ofNat 2 q))).filterMap fun e =>
      e.2.bad.map fun va => (q, e.1, va))
    spm := k.spm.bad.filter fun w => k.ownLines.contains (w / 16)
    errs := k.errs, gbar := k.a.gbar, handoff := k.a.handoff, begun := k.a.begun, xir := k.x.ir, missed := k.a.missed
    scall := k.a.scall }

/-- The address of the valid half of the image of core c's task. -/
def State.imageVa (s : State) (p : PartId) (c : CoreId) : Nat :=
  let t := (s.core c).info
  ((s.part p).ctx t.cont.ctx).halfVa t.slot (((s.part p).slotOf t).half.getD false)

/-- The bytes that a save writes for a part: a part still absent is copied from the old half; none when a word of it is
poisoned (R339). -/
def State.partBytes (s : State) (p : PartId) (c : CoreId) (q : Nat × List Byte) : Option (List Byte) :=
  match (s.core c).absent.find? fun a => decide (a.1 ≤ q.1) && decide (q.1 < a.1 + a.2) with
  | none => some q.2
  | some a =>
    let n := if 0x50000 ≤ q.1 ∧ q.1 < 0x90000 then a.2 else q.2.length
    s.getSave p (s.core c).info.cont.ctx (s.imageVa p c + q.1) n

/-- Writes the image of core c's task to the other half of its slot, header last, and its record in the queue logic
(R334). -/
def State.writeImage (s : State) (p : PartId) (c : CoreId) : Option State :=
  let k := s.core c
  let ctx := k.info.cont.ctx
  let r := (s.part p).slotOf k.info
  let half := match r.half with
    | none => false
    | some h => !h
  let gen := match r.half with
    | none => 1
    | some _ => r.gen.toNat + 1
  let base := ((s.part p).ctx ctx).halfVa k.info.slot half
  let hdr := s.headerImage c gen ((r.seq.map (·.toNat)).getD 0)
  let body := k.parts.foldl (fun o q => o.bind fun t => (s.partBytes p c q).bind fun bs => t.putSave p ctx (base + q.1) bs)
    (some s)
  let hd := body.bind fun t => t.putSave p ctx base ((hdr.put 0x10 4 (k.tstate - 1)).readN 0 4096)
  let done := hd.bind fun t => t.putSave p ctx (base + 0x10) (leBytes 4 k.tstate)
  done.map fun t => t.modPart p fun P => P.modSlot ctx k.info.slot fun r =>
    { r with half := some half, gen := .ofNat 64 gen, info := k.info, hold := k.hold, marks := k.marks }

/-! ### Restoring (R339, R340) -/

/-- The vectors, predicates, mask block, queues and full bits: read with the header before the first instruction (R339). -/
def eagerRead : Nat × Nat := (0x1000, 0xCE00)

/-- The parts that a restore leaves absent: present granules, slots and scratchpad lines, by offset and length (R339). -/
def absentParts (m : Mem) : List (Nat × Nat) :=
  let gp := m.get 0x18 4
  let st := m.get 0x20 8
  let live := fieldN (m.get 0x28 4) 0 13
  let spill := fieldN (m.get 0x28 4) 13 10
  let pres (n : Nat) : Bool := bitN st (32 + n) == 1 && !(decide (0 < n) && bitN st (16 + n - 1) == 1)
  ((List.range 32).filter fun g => gp.testBit g).map (fun g => (0x10000 + 0x2000 * g, 0x2000))
  ++ ((List.range 8).filter fun n => pres n).map (fun n =>
      (0x50000 + 0x8000 * n, if bitN st (16 + n) = 1 then 0x10000 else 0x8000))
  ++ (if live = 0 then [] else [(0x90000, 128 * live)])
  ++ (if spill = 0 then [] else [(0x90000 + (0x80000 - 1024 * spill), 1024 * spill)])

/-- The header and the eager parts of the image at an address: none when a word of them is poisoned or the header is not
VALID with that GEN (R339, R342). -/
def State.readHalf (s : State) (p : PartId) (ctx : BitVec 16) (base : Nat) (gen : Word) : Option Mem :=
  match s.getSave p ctx base 4096 with
  | none => none
  | some hb =>
    let m : Mem := Mem.writeN [] 0 hb
    if bitN (m.get 0x10 4) 0 = 0 ∨ m.get 0 8 ≠ gen.toNat then none
    else (s.getSave p ctx (base + eagerRead.1) eagerRead.2).map fun b => m.writeN eagerRead.1 b

/-- What a restore reads at once of a slot's valid image (R334). -/
def State.readImage (s : State) (p : PartId) (ctx : BitVec 16) (n : BitVec 10) (r : SlotRec) : Option Mem :=
  match r.half with
  | none => none
  | some h => s.readHalf p ctx (((s.part p).ctx ctx).halfVa n h) r.gen

/-- n values from a place on, keyed from 0. -/
def tblOf {α : Type} (n : Nat) (f : Nat → α) : Tbl α := (List.range n).map fun i => (i, f i)

/-- A slot's stored tile from its part of the image (R65, R337). -/
def Slot.withData (v : Slot) (bs : List Byte) : Slot :=
  let m := Mem.writeN [] 0 bs
  let nb := v.rows * v.cols * elemWidth v.elem / 8
  let sc := v.fmt.getLsbD 4
  let v1 := { v with
    codes := m.readN 0 nb
    rowSc := if sc then (List.range v.rows).map fun i => BitVec.ofNat 16 (m.get (nb + 2 * i) 2) else []
    colSc := if sc then m.readN (nb + 2 * v.rows) v.cols else [] }
  { v1 with sums := v1.summary }

/-- A slot as its image's header has it; its tile is absent (R339). -/
def slotOfImage (m : Mem) (n : Nat) : Slot :=
  let st := m.get 0x20 8
  let w := m.w8 (0x640 + 8 * (15 + 22 + 2 * n))
  let src := m.w8 (0x640 + 8 * (16 + 22 + 2 * n))
  let even := bitN st (16 + n) == 1
  let odd := decide (0 < n) && bitN st (16 + n - 1) == 1
  let v : Slot :=
    { st := .ofCode (st / 4 ^ n), pairEven := even, pairOdd := odd, defer := bitN st (24 + n) == 1
      after := (((List.range 2).zip (meOfMem m).cmds).filter fun q => bitN w (41 + q.1) == 1).filterMap (·.2.no?) }
  if v.ready && !odd then
    { v with fmt := .ofNat 5 w, rlog := .ofNat 3 (w / 2 ^ 5), clog := .ofNat 3 (w / 2 ^ 8)
             desc := .ofNat 24 (w / 2 ^ 16), bad := bitN w 40 == 1, src := .ofNat 64 src }
  else v

/-- Count n of QCNT. -/
def qcntOf (m : Mem) (n : Nat) : Nat := fieldN (m.w8 0x30) (4 * n) 4

/-- Load queue q as its image has it, with the marks of its poisoned entries and of the gathers that fill it. -/
def lqOfImage (m : Mem) (mk : Marks) (q : Nat) : List LqEnt :=
  (List.range (qcntOf m q)).map fun i =>
    { data := .ofNat 4096 (m.get (0x9C00 + 0x800 * q + 512 * i) 512)
      bad := (mk.lq.find? fun e => e.1 == q && e.2.1 == i).map (·.2.2)
      gather := ((List.range 8).find? fun n =>
        let w := m.w8 (0x948 + 16 * n)
        bitN w 3 == 1 && bitN w 2 == 0 && fieldN w 0 2 == q && fieldN w 4 4 == i).map (BitVec.ofNat 3) }

/-- Store-queue entries of queue q: the queued ones and the held ones. -/
def sqOfImage (m : Mem) (q : Nat) : List SqEnt :=
  (List.range (qcntOf m (4 + q) + qcntOf m (10 + q))).map fun i =>
    let a := 0xBC00 + 0x6C0 * q + 576 * i
    { data := .ofNat 4096 (m.get a 512), en := .ofNat 512 (m.get (a + 512) 64) }

/-- IQ entries: the queued ones and the held ones. -/
def iqOfImage (m : Mem) : List IqEnt :=
  (List.range (qcntOf m 7 + qcntOf m 9)).map fun i =>
    { idx := .ofNat 4096 (m.get (0xD040 + 528 * i) 512), mask := .ofNat 128 (m.get (0xD040 + 528 * i + 512) 16) }

/-- The store queue of a number. -/
def sqOfNum (n : Nat) : Sq :=
  match n with
  | 0 => .sq0 | 1 => .sq1 | _ => .sq2

/-- Gathers and scatters in flight: each takes the next held IQ entry, a scatter the next held entry of its store
queue. -/
def gsOfImage (m : Mem) : Tbl Gs :=
  ((List.range 8).foldl (fun (acc : List (Nat × Gs) × Nat × List Nat) n =>
    let w := m.w8 (0x948 + 16 * n)
    if bitN w 3 = 0 then acc
    else
      let q := fieldN w 0 2
      let sc := bitN w 2 == 1
      let hs := acc.2.2
      let i := qcntOf m (4 + q) + hs.getD q 0
      let g : Gs :=
        { base := .ofNat 64 (m.w8 (0x940 + 16 * n)), scatter := sc, lq := if sc then 0 else .ofNat 2 q
          sq := if sc then sqOfNum q else .sq0
          iq := (iqOfImage m).getD (qcntOf m 7 + acc.2.1) { idx := 0, mask := 0 }
          data := if sc then (sqOfImage m q).getD i { data := 0, en := 0 } else { data := 0, en := 0 }
          pc := .ofNat 64 (w / 2 ^ 8) }
      (acc.1 ++ [(n, g)], acc.2.1 + 1, if sc then hs.set q (hs.getD q 0 + 1) else hs)) ([], 0, [0, 0, 0, 0])).1

/-- A program counter of an image: bits [1:0] of its word are taken as 0, for a counter never holds others (R120)
(DEDUCED, log 68). -/
def pcOfImage (v : Nat) : Word := .ofNat 64 v &&& ~~~3#64

/-- The A-strand of an image; the queue logic knows where the marks of TSTATE bits 12 and 13 stand (log 7). Its watchdog
counter starts at 0 (DESIGN CHOICE, log 92), and no task holds more than 16 permits (R8, R242) (DEDUCED, log 111). -/
def aOfImage (m : Mem) (mk : Marks) : AStrand :=
  let ts := m.get 0x10 4
  let pc : Word := pcOfImage (m.w8 0x38)
  let misc := m.w8 0x310
  let bound := m.get 0x538 1
  { pc := pc
    s := ((List.range 64).filter fun n => decide (1 ≤ n) && !(decide (48 ≤ n) && decide (n ≤ 55))).map fun n =>
      (n, BitVec.ofNat 64 (m.w8 (0x60 + 8 * n)))
    bad := mk.regs, begun := mk.begun, missed := mk.missed
    inTrap := bitN ts 3 == 1, scall := if bitN ts 9 = 1 then some (mk.scall.getD pc) else none
    gbar := if bitN ts 12 = 1 then mk.gbar else none
    handoff := if bitN ts 13 = 1 then mk.handoff else none
    ports := ((List.range 7).filter fun n => bound.testBit n).map fun n => (n, BitVec.ofNat 64 (m.w8 (0x500 + 8 * n)))
    peer := if bitN misc 9 = 1 then some (.ofNat 8 misc) else none
    peerGroup := .ofNat 8 (m.w8 (0x640 + 72) / 2 ^ 24)
    phase := tblOf 4 fun n => m.get (0x4F0 + 4 * n) 4
    permits := .ofNat 5 (Nat.min (misc / 2 ^ 10 % 32) 16) }

/-- The X-strand of an image. Its watchdog counter starts at 0 (DESIGN CHOICE, log 92). -/
def xOfImage (m : Mem) (mk : Marks) : XStrand :=
  let ts := m.get 0x10 4
  let rot := m.w8 0x308
  let x := fieldN ts 4 2
  { run := if x = 0 then .idle else .running, pc := pcOfImage (m.w8 0x40)
    v := tblOf 56 fun n => .ofNat 4096 (m.get (0x1000 + 512 * n) 512)
    p := Tbl.erase (tblOf 16 fun n => BitVec.ofNat 512 (m.get (0x9000 + 64 * n) 64)) 0
    vrb := .ofNat 5 rot, prb := .ofNat 3 (rot / 2 ^ 8), lc := .ofNat 32 (rot / 2 ^ 32)
    trap := if x = 2 then some (.ofNat 6 (56 + fieldN ts 7 2)) else none
    taken := x == 2 && bitN ts 6 == 0, ir := mk.xir }

/-- The control registers of an image (Table 18.9, CTL). -/
def ctlOfImage (m : Mem) : Ctl :=
  let r (n : Nat) : Nat := m.w8 (0x260 + 8 * n)
  { mode := (Rmode.ofCode (.ofNat 3 (r 0))).getD .rne, flags := .ofNat 6 (r 0 / 2 ^ 8), fc := .ofNat 12 (r 3)
    fcSub := .ofNat 4 (m.w8 (0x640 + 72) / 2 ^ 16), flen := .ofNat 12 (r 4), spovf := .ofNat 64 (r 6)
    tvec := .ofNat 64 (r 8) &&& vecMask, tcause := .ofNat 8 (r 9), tinfo0 := .ofNat 64 (r 10), tinfo1 := .ofNat 64 (r 11)
    tinfo2 := .ofNat 64 (r 12), tinfo3 := .ofNat 64 (r 13), tpc := pcOfImage (r 14), rngseed := .ofNat 64 (r 15)
    slipd := .ofNat 3 (r 16), sequota := .ofNat 13 (r 18), cycle := .ofNat 64 (r 19), retired := .ofNat 64 (r 20) }

/-- The engines of an image: granules and tiles are absent (R339), and open windows are bound again when the task is on
its core. -/
def engOfImage (m : Mem) : Eng :=
  let gp := m.get 0x18 4
  let misc := m.w8 0x310
  { dirty := .ofNat 32 gp
    slot := tblOf 8 (slotOfImage m), mask := tblOf 128 fun n => .ofNat 128 (m.get (0x9400 + 16 * n) 16)
    tok := tblOf 32 fun n =>
      { st := .ofCode (m.get (0x320 + 2 * n) 2), sub := .ofNat 8 (m.get (0x321 + 2 * n) 1) }
    flag := tblOf 64 fun n => .ofNat 32 (m.get (0x360 + 4 * n) 4)
    cb := tblOf 8 fun n => .ofNat 128 (m.get (0x460 + 16 * n) 16)
    gs := gsOfImage m
    gstk := ((List.range (fieldN misc 15 4)).map fun n => BitVec.ofNat 16 (m.get (0x4E0 + 2 * n) 2)).reverse
    me := meOfMem m, ce := tblOf 4 fun n => Chan.ofMem m (0x840 + 64 * n)
    win := ((List.range 4).filter fun n => bitN misc (19 + n) == 1).map fun n =>
      (n, { desc := .ofNat 512 (m.get (0x540 + 64 * n) 64), frames := [] })
    treq := ((List.range 64).filter fun n => bitN (m.w8 (0x9C0 + 8 * n)) 6 == 1).map fun n =>
      let e := m.w8 (0x9C0 + 8 * n)
      (.ofNat 64 (e / 65536 * 65536), .ofNat 6 e) }

/-- The scratchpad of an image: its lines are absent (R339), and those outside the live region and the carve-out are zero
and empty (R14). -/
def spmOfImage (m : Mem) (mk : Marks) : Spm :=
  { full := .ofNat 4096 (m.get 0xDC00 512), bad := mk.spm }

/-- A core with a task restored from its image: its present granules, slots and scratchpad lines are absent (R339). -/
def coreOfImage (k : Core) (r : SlotRec) (m : Mem) : Core :=
  { k.fresh with
    occ := .task, info := r.info, a := aOfImage m r.marks, x := xOfImage m r.marks
    q := { lq := tblOf 4 (lqOfImage m r.marks)
           sq := tblOf 3 fun q => (sqOfImage m q).take (qcntOf m (4 + q))
           iq := (iqOfImage m).take (qcntOf m 7)
           xq := (List.range (qcntOf m 8)).map fun i => .ofNat 64 (m.w8 (0xD670 + 8 * i)) }
    ctl := ctlOfImage m, eng := engOfImage m, spm := spmOfImage m r.marks, hold := r.hold, errs := r.marks.errs
    absent := absentParts m }

/-- An absent part is filled from its bytes: a granule, a slot's tile or scratchpad lines (Table 18.8, R339). -/
def Core.fillPart (k : Core) (o : Nat) (bs : List Byte) : Core :=
  if o < 0x50000 then
    let g := (o - 0x10000) / 0x2000
    { k with eng := { k.eng with acc := (List.range 16).foldl (fun t i =>
        Tbl.set t (128 * (g / 8) + 16 * (g % 8) + i) (BitVec.ofNat 4096 (leNat ((bs.drop (512 * i)).take 512)))) k.eng.acc } }
  else if o < 0x90000 then
    let n := (o - 0x50000) / 0x8000
    { k with eng := { k.eng with slot := Tbl.set k.eng.slot n ((k.slot (.ofNat 3 n)).withData bs) } }
  else { k with spm := { k.spm with mem := k.spm.mem.writeN (o - 0x90000) bs } }

/-- Fills one absent part from the valid half; none when a word of it is poisoned (R339, R342). -/
def State.fillOne (s : State) (p : PartId) (c : CoreId) (q : Nat × Nat) : Option State :=
  (s.getSave p (s.core c).info.cont.ctx (s.imageVa p c + q.1) q.2).map fun bs =>
    s.modCore c fun k => { k.fillPart q.1 bs with absent := k.absent.filter (· != q) }

/-- A peer kept as a gang rank becomes the core of that rank (R337). -/
def State.fixPeer (s : State) (p : PartId) (m : Mem) (c : CoreId) : State :=
  if bitN (m.w8 0x310) 8 = 0 then s
  else
    let k := s.core c
    let r : BitVec 8 := .ofNat 8 (m.w8 0x310)
    let q := (s.gangOn p k.info).find? fun d => (s.core d).info.rank == r
    s.setCore c { k with a := { k.a with peer := q } }

/-- An open window is armed again from its descriptor (R340). -/
def State.rearm (s : State) (c : CoreId) : State :=
  let t : State := { s with cur := c }
  (s.core c).eng.win.foldl (fun u w =>
    match t.winFrames w.2.desc with
    | .error _ => u
    | .ok fr => u.modCore c (·.setWindow (.ofNat 2 w.1) { w.2 with frames := fr })) s

/-- A TIERREQ kept in the image is requested again; a unit that no longer translates or no longer lies in the CXL tier,
or is resident, has its flag incremented at once (R283, R340). -/
def State.reask (s : State) (p : PartId) (c : CoreId) (e : Word × BitVec 6) : State :=
  let ctx := (s.core c).info.cont.ctx
  let now (t : State) : State := t.modCore c fun k =>
    (k.incFlag e.2 1 : Core)
  match s.walk (s.part p) ctx e.1 with
  | .error _ => now s
  | .ok l =>
    if notResident l.pte then
      (s.modPart p (·.askPage ctx e.1)).modCore c fun k => { k with eng := { k.eng with treq := k.eng.treq ++ [e] } }
    else if pteTier l.pte = 1 then now (s.holdPage p ctx e.1 (s.core c).holder)
    else now s

/-- The requests of an image, made again. -/
def State.reaskAll (s : State) (p : PartId) (c : CoreId) : State :=
  let l := (s.core c).eng.treq
  l.foldl (fun t e => t.reask p c e) (s.modCore c fun k => { k with eng := { k.eng with treq := [] } })

/-- Permits held are charged to the pool again, even beyond its size (R340). -/
def Part.chargePermits (P : Part) (k : Core) : Part :=
  if k.detm then P else { P with permits := P.permits + k.a.permits.toNat }

/-- Puts a saved task on core c, if its image can be read. -/
def State.loadTask (s : State) (p : PartId) (ctx : BitVec 16) (n : BitVec 10) (c : CoreId) : Option (State × Mem) :=
  let r := ((s.part p).ctx ctx).slotRec n
  (s.readImage p ctx n r).map fun m =>
    let k := coreOfImage (s.core c) r m
    let s1 := s.setCore c k
    (s1.modPart p fun P => (P.chargePermits k).modSlot ctx n fun r =>
      { r with core := some c, marks := { cmds := r.marks.cmds }, hold := none }, m)

/-! ### Requests and stops (R327, R330, R332) -/

/-- The members a pre-emption of core c's task takes with it (R32, R327). -/
def State.saveSet (s : State) (c : CoreId) : List CoreId :=
  let t := (s.core c).info
  if t.inGang then s.gangOn (s.partOf c) t else [c]

/-- Asks for the task on core c to be saved; a second request joins the first (R332). -/
def State.askSave (s : State) (c : CoreId) : State :=
  if (s.core c).occ != .task then s
  else (s.saveSet c).foldl (fun t d => t.modCore d fun k => if k.save == .none then { k with save := .asked } else k) s

/-! ### Failure (R341, R342) -/

/-- The SAVE_FAIL record of a NONREPLAY task (R301, R341). -/
def saveFailRec (t : TaskInfo) (c : CoreId) (gen pc retired : Word) : RingRec :=
  { kind := 5#8, code := 0x2F#8, ctx := t.cont.ctx
    body := recBody 5 0x2F 0 (if t.cont.det then 16 else 0) c t.cont.ctx t.lrec t.rank pc 0 0 gen pc retired }

/-- What becomes of a failed task's work: a REPLAY task's record is queued again in its launch state, a stage task's
item waits in its Rill, a NONREPLAY task is reported and gone. -/
def State.failWork (s : State) (p : PartId) (t : TaskInfo) (c : CoreId) (gen pc retired : Word) : State :=
  let s1 := s.dropEffects p t
  if t.stage.isSome then s1
  else if t.cont.replay && !t.cont.nonreplay then
    let r := (s1.part p).lrec t.lrec
    if t.inGang then s1
    else s1.modPart p (·.enqueue r.prio { kind := .task (r.info t.lrec 0), ctx := r.ctx, lrec := t.lrec, det := r.det })
  else (s1.taskGone p t).queueRecs p [saveFailRec t c gen pc retired]

/-- A REPLAY gang's entry is queued again, once. -/
def State.requeueGang (s : State) (p : PartId) (t : TaskInfo) : State :=
  if t.gang.isSome && t.cont.replay && !t.cont.nonreplay then
    let r := (s.part p).lrec t.lrec
    (s.putRec p t.lrec { r with left := r.size }).modPart p (·.enqueue r.prio (r.entry t.lrec))
  else s

/-- The GEN of a slot's valid image, 0 when there is none. -/
def SlotRec.validGen (r : SlotRec) : Word := if r.half.isSome then r.gen else 0

/-- A save of the tasks on these cores fails: each is abandoned and its slot freed (R341); a warm reset reports GEN 0
(R378). -/
def State.failCores (s : State) (p : PartId) (cs : List CoreId) (warm : Bool := false) : State :=
  let s1 := cs.foldl (fun u c =>
    let k := u.core c
    (u.failWork p k.info c (if warm then 0 else ((u.part p).slotOf k.info).validGen) k.a.pc k.ctl.retired).vacate p c) s
  match cs with
  | [] => s1
  | c :: _ => s1.requeueGang p (s.core c).info

/-- The A-strand PC and RETIRED that a saved task's image holds, as its bytes stand, poisoned or not; 0 and 0 where the
slot does not translate (R341, R342) (DESIGN CHOICE, log 120). -/
def State.savedPc (s : State) (p : PartId) (ctx : BitVec 16) (n : BitVec 10) (r : SlotRec) : Word × Word :=
  match s.savePa p ctx (((s.part p).ctx ctx).halfVa n (r.half.getD false)) with
  | none => (0, 0)
  | some pa => (.ofNat 64 (s.mem.get (pa + 0x38) 8), .ofNat 64 (s.mem.get (pa + 0x260 + 160) 8))

/-- A restore of saved tasks on their cores fails: each is abandoned and its slot freed (R342). -/
def State.failSlots (s : State) (p : PartId) (ctx : BitVec 16) (l : List (BitVec 10 × CoreId)) : State :=
  let s1 := l.foldl (fun u m =>
    let r := ((u.part p).ctx ctx).slotRec m.1
    let q := u.savedPc p ctx m.1 r
    (u.failWork p r.info m.2 r.validGen q.1 q.2).modPart p fun P => (P.modSlot ctx m.1 fun _ => {}).forget ctx m.1) s
  match l with
  | [] => s1
  | m :: _ => s1.requeueGang p (((s.part p).ctx ctx).slotRec m.1).info

end Sys2Proof.Machine
end

