-- ==== Sys2Proof/Machine/Schedule.lean ====
section
/-! DEFINITION. The scheduler: task start state (R15), ready queues and dispatch (R313), reservations and gang starts
(R314), pipeline starts and stage tasks (R252, R255, R316, R386), and the drain of a pipeline (R254). -/
namespace Sys2Proof.Machine

/-! ### Task start (R13, R15) -/

/-- R13: a record that breaks it is never started. -/
def Cont.startable (c : Cont) : Bool :=
  decide (c.live.toNat * 128 + c.spill.toNat * 1024 ≤ 524288) && bits c.code 1 0 == 0 && bits c.code 63 56 == 0

/-- Scalar registers at task start (Table 01.2). -/
def TaskInfo.startRegs (t : TaskInfo) : Tbl Word :=
  [(1, t.cont.frame), (2, t.argp), (3, t.rank.setWidth 64), (4, if t.size = 0#8 then 256 else t.size.setWidth 64)]
    ++ (List.range 8).map (fun i => (8 + i, t.args.getD i 0)) ++ [(63, 0x80000)]

/-- A core as its task starts (R15): everything not named is zero. -/
def Core.started (k : Core) (t : TaskInfo) : Core :=
  { k.fresh with occ := .task, info := t, a := { pc := t.cont.code, s := t.startRegs } }

/-- The rows of a context that core c's array holds lie in the Spillway once SEQUOTA is 0 there (R233). -/
def Part.clearArray (P : Part) (c : CoreId) (ctx : BitVec 16) : Part :=
  { P with rows := P.rows.map fun r => if r.ctx == ctx && r.loc == some c then { r with loc := none } else r }

/-- The task on core c stands in its context's slot table from its start (R334), with SEQUOTA 0 (R233). -/
def State.startTask (s : State) (p : PartId) (c : CoreId) (t : TaskInfo) : State :=
  (s.modPart p fun P => (P.modSlot t.cont.ctx t.slot fun _ => { core := some c, info := t }).clearArray c t.cont.ctx).modCore
    c (·.started t)

/-! ### Save slots (R334) -/

/-- The slot belongs to a task. -/
def SlotRec.used (r : SlotRec) : Bool := r.core.isSome || r.half.isSome
/-- Free slots of a context, ascending. -/
def Ctx.freeSlots (x : Ctx) : List (BitVec 10) :=
  ((List.range x.slots.toNat).filter fun n => !(Tbl.get ({} : SlotRec) x.use n).used).map (BitVec.ofNat 10)

/-- The context runs tasks (R329). -/
def Ctx.active (x : Ctx) : Bool := x.st == 1#8

/-! ### Who may start what -/

/-- Slots of a record whose groups limit the cores it may start on: all but a gang's own (R30). -/
def Cont.limits (c : Cont) (own : Option (BitVec 8)) : List (BitVec 8) :=
  ([0, 1, 2, 3].filter fun g => c.gvalid.getLsbD g).map (fun g => c.gids.extractLsb' (8 * g) 8) |>.filter (some · != own)

/-- Every group that the record names has core c as a member (R30). -/
def Part.groupsAllow (P : Part) (c : CoreId) (k : Cont) (own : Option (BitVec 8)) : Bool :=
  (k.limits own).all fun i => (P.group i).mask.getLsbD c.toNat

/-- A core without a task that may take a record (R313, R314, R316): in service, in no reservation, in no pipeline. -/
def State.freeCore (s : State) (p : PartId) (c : CoreId) : Bool :=
  let P := s.part p
  let k := s.core c
  P.isTaskCore c && k.occ == .idle && !k.out && !P.stopped && P.resv.all (fun r => !r.cores.contains c)
    && P.pipes.all fun x => !x.2.cores.any (·.1 == c)

/-- The free cores of a partition, ascending. -/
def State.freeCores (s : State) (p : PartId) : List CoreId := allCores.filter (s.freeCore p)

/-- The stage of a pipeline that a core serves, with the pipeline's launch record. -/
def Part.stageOf (P : Part) (c : CoreId) : Option (BitVec 12 × BitVec 4) :=
  P.pipes.findSome? fun x => (x.2.cores.find? (·.1 == c)).map fun q => (.ofNat 12 x.1, q.2)

/-- A saved stage task resumes on a core of its own stage (R329, R386). -/
def Part.stageAllows (P : Part) (c : CoreId) (t : TaskInfo) : Bool :=
  match t.stage with
  | none => (P.stageOf c).isNone
  | some st => P.stageOf c == some (t.lrec, st)

/-- Core c may start the single task of an entry (R313). -/
def Part.mayStart (P : Part) (c : CoreId) (e : REnt) : Bool :=
  match e.kind with
  | .task t => (P.ctx e.ctx).active && !(P.ctx e.ctx).freeSlots.isEmpty && P.groupsAllow c t.cont none
      && (P.stageOf c).isNone
  | .resume n =>
    let t := ((P.ctx e.ctx).slotRec n).info
    (P.ctx e.ctx).active && P.groupsAllow c t.cont none && P.stageAllows c t
  | _ => false

/-- The entry needs several cores at once (R314). -/
def REnt.multi (e : REnt) : Bool :=
  match e.kind with
  | .task _ => false
  | .resume _ => false
  | _ => true

/-- Cores an entry needs. -/
def Part.need (P : Part) (e : REnt) : Nat :=
  match e.kind with
  | .gang i => (P.lrec i).ngang.toNat
  | .pipe i => (P.lrec i).pipe.cores.toNat
  | .resumeGang l => l.length
  | _ => 1

/-- A multi-core entry may reserve core c. -/
def Part.mayReserve (P : Part) (c : CoreId) (e : REnt) : Bool :=
  let r := P.lrec e.lrec
  match e.kind with
  | .gang _ => P.groupsAllow c r.cont (some r.gangId)
  | .pipe _ => P.groupsAllow c r.cont none
  | .resumeGang l =>
    let t := ((P.ctx e.ctx).slotRec (l.headD 0)).info
    P.groupsAllow c t.cont t.gang
  | _ => false

/-- Entries in the order cores look at them: highest priority first, each queue head first. -/
def Part.entries (P : Part) : List (BitVec 2 × Nat × REnt) :=
  [3#2, 2#2, 1#2, 0#2].flatMap fun k =>
    ((List.range (P.ready k).length).zip (P.ready k)).map fun q => (k, q.1, q.2)

/-- Removes the entry at a place. -/
def Part.takeEntry (P : Part) (k : BitVec 2) (n : Nat) : Part := P.setReady k ((P.ready k).eraseIdx n)
/-- Removes a multi-core entry of a launch record and its reservation. -/
def Part.dropEntry (P : Part) (i : BitVec 12) : Part :=
  { P with
    rq := Tbl.mapVal (fun _ l => l.filter fun e => !(e.multi && e.lrec == i)) P.rq
    resv := P.resv.filter (·.lrec != i) }

/-! ### Reservation (R314) -/

/-- Cores that may come to take single records: in service, and in no pipeline. -/
def State.servesTasks (s : State) (p : PartId) (c : CoreId) : Bool :=
  (s.part p).isTaskCore c && !(s.core c).out && ((s.part p).stageOf c).isNone

/-- The head of the highest non-empty priority: the first entry that some idle core may start or reserve (R313). While
no core is idle, a record that one of the cores may start as it becomes idle keeps its place before the entries behind it
(R34, R314) (DEDUCED, log 53). -/
def State.headEntry (s : State) (p : PartId) : Option (BitVec 2 × Nat × REnt) :=
  let P := s.part p
  let free := s.freeCores p
  let cores := if free.isEmpty then allCores.filter (s.servesTasks p) else free
  P.entries.find? fun q =>
    if q.2.2.multi then (P.ctx q.2.2.ctx).active && !q.2.2.rest else cores.any fun c => P.mayStart c q.2.2

/-- The head entry begins to reserve when it needs several cores (DEDUCED, log 53). -/
def State.beginResv (s : State) (p : PartId) : State :=
  match s.headEntry p with
  | none => s
  | some (k, _, e) =>
    if e.multi && (s.part p).resv.all (·.lrec != e.lrec) then
      s.modPart p fun P => { P with resv := P.resv ++ [{ prio := k, lrec := e.lrec, cores := [] }] }
    else s

/-- A reservation takes every free core it may, lowest COREID first, up to its need (DEDUCED, log 53). -/
def State.fillResv (s : State) (p : PartId) (i : BitVec 12) : State :=
  let P := s.part p
  match P.entries.find? (fun q => q.2.2.multi && q.2.2.lrec == i) with
  | none => s
  | some (_, _, e) =>
    let free := (s.freeCores p).filter fun c => P.mayReserve c e
    s.modPart p fun P => { P with resv := P.resv.map fun r =>
      if r.lrec == i then { r with cores := r.cores ++ free.take (P.need e - r.cores.length) } else r }

/-- Reservations in the order of their priorities, older first. -/
def Part.resvOrder (P : Part) : List (BitVec 12) :=
  [3#2, 2#2, 1#2, 0#2].flatMap fun k => (P.resv.filter (·.prio == k)).map (·.lrec)

/-- One pass of the queue logic: cores out of service leave, the head entry begins, reservations fill
(DEDUCED, log 53). -/
def State.reserve (s : State) (p : PartId) : State :=
  let s0 := s.modPart p fun P => { P with resv := P.resv.map fun r => { r with cores := r.cores.filter fun c => !(s.core c).out } }
  let s1 := s0.beginResv p
  (s1.part p).resvOrder.foldl (fun t i => t.fillResv p i) s1

/-! ### Dispatch of one task (R313) -/

/-- The first entry that core c may start. -/
def Part.firstFor (P : Part) (c : CoreId) : Option (BitVec 2 × Nat × REnt) := P.entries.find? fun q => P.mayStart c q.2.2

/-- The record of a continuation record that is never started (R13, R302). It holds no task (DEDUCED, log 56). -/
def illegalRec (c : CoreId) (t : TaskInfo) : RingRec :=
  { kind := 0#8, code := faultNum .illegal, ctx := t.cont.ctx
    body := recBody 0 (faultNum .illegal).toNat 0 (if t.cont.det then 16 else 0) c t.cont.ctx t.lrec t.rank t.cont.code 0 0
      (t.lrec.setWidth 64) 0 0 }

/-- A core takes a continuation record: it starts, or is refused under R13 (DEDUCED, log 56). -/
def State.takeTask (s : State) (p : PartId) (c : CoreId) (t : TaskInfo) : State :=
  let r := (s.part p).lrec t.lrec
  let s1 := if r.st = .queued then s.putRec p t.lrec { r with st := .running } else s
  if t.cont.startable then
    match ((s1.part p).ctx t.cont.ctx).freeSlots with
    | [] => s1
    | n :: _ => s1.startTask p c { t with slot := n }
  else (s1.taskGone p t).queueRecs p [illegalRec c t]

/-- TASK_DISPATCH (R313). -/
def execTaskDispatch (s : State) : Out :=
  let c := s.ev.core
  let p := s.partOf c
  let s1 := s.reserve p
  .next (
    if !s1.freeCore p c then s1
    else match (s1.part p).firstFor c with
      | none => s1
      | some (k, n, e) =>
        match e.kind with
        | .task t => (s1.modPart p (·.takeEntry k n)).takeTask p c t
        | _ => s1)

/-! ### Gang start (R314) -/

/-- Cores in ascending COREID. -/
def sortCores (l : List CoreId) : List CoreId := allCores.filter l.contains

/-- A member mask of cores. -/
def maskOf (l : List CoreId) : BitVec 256 := l.foldl (fun m c => m ||| (1#256 <<< c.toNat)) 0

/-- Writes the gang's own group row: the chosen cores; a new gang's split counters are 0 (R216). -/
def Part.gangMask (P : Part) (i : BitVec 8) (l : List CoreId) (new : Bool) : Part :=
  let G := P.group i
  { P with groups := Tbl.set P.groups i.toNat { G with mask := maskOf l, split := if new then [] else G.split } }

/-- A gang's members start: rank r on the r-th core (DEDUCED, log 56). -/
def State.startGang (s : State) (p : PartId) (i : BitVec 12) (cs : List CoreId) : State :=
  let r := (s.part p).lrec i
  let s1 := (s.putRec p i { r with st := .running }).modPart p fun P => (P.dropEntry i).gangMask r.gangId cs true
  let slots := ((s.part p).ctx r.ctx).freeSlots
  if r.cont.startable then
    ((List.range cs.length).zip (cs.zip slots)).foldl (fun t q =>
      t.startTask p q.2.1 { r.info i q.1 with slot := q.2.2 }) s1
  else
    (s1.putRec p i { (s1.part p).lrec i with st := .idle, left := 0 }).queueRecs p [illegalRec (cs.headD 0) (r.info i 0)]

/-! ### Drain of a pipeline (R254) -/

/-- Queue id of a pipeline's Rill. -/
def LRec.rillId (r : LRec) (n : BitVec 4) : BitVec 16 := r.rqbase + n.setWidth 16

/-- Rill n of the pipeline of record i: the open entry of its id that the record's build opened. An entry that has been
closed belongs to no agent, whatever is opened under its id after that (R311). -/
def Part.rill (P : Part) (i : BitVec 12) (r : LRec) (n : BitVec 4) : Option Queue :=
  (P.queue (r.rillId n)).filter fun z => z.pipe == some (i, n)

/-- Some task of the launch record is on a core or saved. -/
def Part.hasTasks (P : Part) (r : LRec) (i : BitVec 12) : Bool :=
  (P.ctx r.ctx).use.any fun kv => kv.2.used && kv.2.info.lrec == i

/-- An entry Rill has delivered every number below its limit (R254, R309). -/
def Queue.finished (q : Queue) : Bool := (q.limit != 0 || q.closed) && decide (q.limit ≤ q.head)

/-- The pipeline has drained (R254). -/
def Part.drained (P : Part) (r : LRec) (i : BitVec 12) : Bool :=
  !P.hasTasks r i && ((List.range r.pipe.rills.length).zip r.pipe.rills).all fun q =>
    match P.rill i r (.ofNat 4 q.1) with
    | none => true
    | some x => (!q.2.extin || x.finished) && (q.2.extout || x.items.isEmpty)

/-- Pipelines that have drained return to IDLE; they give back their cores, or the place in which they wait for them. -/
def State.drainPipes (s : State) (p : PartId) : State :=
  ((s.part p).recs.filter fun x => x.2.kind == kPipe && x.2.st == .running).foldl (fun t x =>
    let i : BitVec 12 := .ofNat 12 x.1
    let r := (t.part p).lrec i
    if r.kind == kPipe && r.st == .running && (t.part p).drained r i then
      (t.putRec p i { r with st := .idle, counts := [] }).modPart p fun P =>
        { P.dropEntry i with pipes := Tbl.erase P.pipes x.1 }
    else t) s

/-! ### Pipeline start (R255, R316, R386) -/

/-- One round-robin pass over the stages: a core more for each stage below its MAXC, while cores remain. -/
def allotPass : List StageEnt → List Nat → Nat → List Nat × Nat
  | e :: es, n :: ns, left =>
    let give := decide (0 < left) && decide (n < e.maxc.toNat)
    let r := allotPass es ns (left - give.toNat)
    ((n + give.toNat) :: r.1, r.2)
  | _, ns, left => (ns, left)

/-- Passes repeat until no core remains. `fuel` bounds them. -/
def allotRounds (es : List StageEnt) : Nat → List Nat → Nat → List Nat
  | 0, ns, _ => ns
  | fuel + 1, ns, left => if left = 0 then ns else
    let r := allotPass es ns left
    allotRounds es fuel r.1 r.2

/-- Cores of each stage as the pipeline starts: recorded ones, or R255's allotment. -/
def LRec.stageCounts (r : LRec) : List Nat :=
  if !r.counts.isEmpty then r.counts
  else
    let mins := r.pipe.stages.map (·.minc.toNat)
    allotRounds r.pipe.stages 256 mins (r.pipe.cores.toNat - mins.foldl (· + ·) 0)

/-- Cores dealt out to stages in ascending stage index. -/
def dealCores : Nat → List Nat → List CoreId → List (CoreId × BitVec 4)
  | _, [], _ => []
  | st, n :: ns, cs => (cs.take n).map (fun c => (c, .ofNat 4 st)) ++ dealCores (st + 1) ns (cs.drop n)

/-- A pipeline starts on its cores. It counts Weir intervals of its own, from where the partition's stand, or from 0 at a
re-reservation, which leaves the partition's own counter as it is (DESIGN CHOICE, log 130). One with nothing left to
deliver drains at once (R254). -/
def State.startPipe (s : State) (p : PartId) (i : BitVec 12) (cs : List CoreId) : State :=
  let r := (s.part p).lrec i
  let x : Pipe := { cores := dealCores 0 r.stageCounts cs, interval := if r.counts.isEmpty then (s.part p).interval else 0 }
  ((s.putRec p i { r with st := .running, counts := [] }).modPart p fun P =>
    { P.dropEntry i with pipes := Tbl.set P.pipes i.toNat x }).drainPipes p

/-! ### Stage tasks (R249, R252) -/

/-- What a core is given of a stage task. -/
def LRec.stageInfo (i : BitVec 12) (r : LRec) (n : BitVec 4) (e : StageEnt) (slot : BitVec 10) : TaskInfo :=
  { cont := { r.cont with code := e.code, replay := true, nonreplay := false, live := e.live, spill := e.spill, wdog := e.wdog }
    lrec := i, argp := r.argp, args := r.args, stage := some n, splitok := r.splitok, slot := slot }

/-- Slot number n of a Rill is free (R250, R252). -/
def Queue.slotFree (q : Queue) (n : Nat) : Bool :=
  decide (q.head ≤ n) && decide (n < q.head + q.depth) && !q.hasNum n

/-- The committed, unheld item P of a Rill. -/
def Queue.itemP (q : Queue) : Option Nat :=
  if q.items.any (fun i => i.num == q.cursor && i.st == .ready) then some q.cursor else none

/-- The number of the item that a stage of a pipeline can start now. -/
def Part.stageItem (P : Part) (i : BitVec 12) (r : LRec) (e : StageEnt) : Option Nat :=
  match (P.rill i r e.inr).bind (·.itemP) with
  | none => none
  | some n =>
    if e.outs.all (fun o => match P.rill i r o.1 with
        | none => false
        | some q => (List.range o.2).all fun j => q.slotFree (n * o.2 + j)) then some n else none

/-- The item and the output slots are reserved for a holder (R252). -/
def Part.reserveStage (P : Part) (r : LRec) (e : StageEnt) (n h : Nat) : Part :=
  let P1 := match P.queue (r.rillId e.inr) with
    | none => P
    | some q => P.setQueue (r.rillId e.inr) { q with items := q.items.map fun i =>
        if i.num == n then { i with st := .resvIn h } else i }
  e.outs.foldl (fun P o => match P.queue (r.rillId o.1) with
    | none => P
    | some q => P.setQueue (r.rillId o.1) { q with items := q.items ++ (List.range o.2).map fun j =>
        { num := n * o.2 + j, data := [], st := .resvOut h } }) P1

/-- STAGE_TASK_START (R252, R256, R316), in a partition that is set up (R378); a stage whose CODE breaks R13 starts no
task (DEDUCED, log 56). -/
def execStageTaskStart (s : State) : Out :=
  let c := s.ev.core
  let p := s.partOf c
  let P := s.part p
  let k := s.core c
  .next (
    match P.stageOf c with
    | none => s
    | some (i, n) =>
      let r := P.lrec i
      if !P.up || k.occ != .idle || k.out || P.stopped || !(P.ctx r.ctx).active then s
      else match r.pipe.stages[n.toNat]?, (P.ctx r.ctx).freeSlots with
        | some e, slot :: _ =>
          (match P.stageItem i r e with
           | none => s
           | some num =>
             let t := r.stageInfo i n e slot
             if t.cont.startable then (s.modPart p (·.reserveStage r e num t.key)).startTask p c t
             else s.queueRecs p [illegalRec c t])
        | _, _ => s)

/-! ### Give-up of a pipeline (R329, R386) -/

/-- A pipeline of a suspended context none of whose stage tasks is on a core gives up its cores: its counts are recorded
and its entry waits at the head of its priority (DEDUCED, log 48). -/
def State.yieldPipe (s : State) (p : PartId) (i : BitVec 12) (x : Pipe) : State :=
  let r := (s.part p).lrec i
  let counts := (List.range r.pipe.stages.length).map fun n => x.cores.countP fun q => q.2.toNat == n
  (s.putRec p i { r with counts := counts }).modPart p fun P =>
    { P.setReady r.prio ({ kind := .pipe i, ctx := r.ctx, lrec := i, det := r.det } :: P.ready r.prio) with
      pipes := Tbl.erase P.pipes i.toNat }

/-- Every pipeline of a context gives up its cores. -/
def State.yieldPipes (s : State) (p : PartId) (ctx : BitVec 16) : State :=
  (s.part p).pipes.foldl (fun t x =>
    let i : BitVec 12 := .ofNat 12 x.1
    if ((t.part p).lrec i).ctx == ctx then t.yieldPipe p i x.2 else t) s

end Sys2Proof.Machine
end

