-- ==== Sys2Proof/Machine/Build.lean ====
section
/-! DEFINITION. LRCMD: building, unbuilding and draining launch records (R248, R249, R307-R309), and QCMD (R310, R311). -/
namespace Sys2Proof.Machine

/-- The copy of a result register that an agent reads (R375). -/
def agentIx : Agent → Nat
  | .sup => 0
  | .port n => 1 + n.toNat

/-- An agent's command on a partition is applied: a port's only while it holds HSEM (R374). -/
def State.mayCommand (s : State) (p : PartId) (a : Agent) : Bool :=
  (s.part p).up && (match a with
    | .sup => true
    | .port n => s.accepting && s.io.held && s.io.owner == n)

/-- The partition translates and owns what the address names: the physical address of one aligned 8-byte word read under
a context, without a TLB; none on a fault or poison (R148, R309). -/
def State.ctxWord (s : State) (p : PartId) (ctx : BitVec 16) (va : Nat) : Option Nat :=
  let a : Word := .ofNat 64 va
  if bits a 63 56 ≠ 0 then none
  else match s.walk (s.part p) ctx a with
    | .error _ => none
    | .ok l =>
      let pa := leafPa l.pte l.big a
      if (permFault ctx .read l.pte).isSome || s.poisoned pa then none else some (s.mem.get pa 8)

/-! ### The pipeline block (R248, R249) -/

/-- A stage entry from its four words; none when a field is out of range. R249 asks R13 of LIVE, SPILL and WDOG, and CODE is
held to it as a core takes the stage's task. -/
def stageOfWords (w0 w1 w2 w3 : Nat) : Option StageEnt :=
  let f (v lo n : Nat) : Nat := v / 2 ^ lo % 2 ^ n
  let outn := f w1 20 3
  let e : StageEnt :=
    { code := .ofNat 64 w0, minc := .ofNat 8 w1, maxc := .ofNat 8 (w1 / 2 ^ 8), inr := .ofNat 4 (w1 / 2 ^ 16)
      outs := (List.range outn).map fun j => (.ofNat 4 (w1 / 2 ^ (24 + 8 * j)), f w1 (28 + 8 * j) 4 + 1)
      live := .ofNat 13 w2, spill := .ofNat 10 (w2 / 2 ^ 13), wdog := .ofNat 5 (w2 / 2 ^ 23) }
  if 4 < outn ∨ f w1 23 1 ≠ 0 ∨ f w1 56 8 ≠ 0 ∨ f w2 28 36 ≠ 0 ∨ w3 ≠ 0 ∨ e.minc = 0#8 ∨ e.maxc < e.minc then none
  else if Cont.startable { live := e.live, spill := e.spill } then some e else none

/-- A Rill entry from its word; none when a field is out of range. -/
def rillOfWord (w : Nat) : Option RillEnt :=
  if w / 2 ^ 12 % 8 = 7 ∨ w / 2 ^ 15 % 2 = 1 ∨ w / 2 ^ 18 ≠ 0 then none
  else some { depth := w % 4096 + 1, elog := .ofNat 3 (w / 2 ^ 12), extin := w / 2 ^ 16 % 2 == 1, extout := w / 2 ^ 17 % 2 == 1 }

/-- All of a list of options, or none. -/
def allSome {α : Type} : List (Option α) → Option (List α)
  | [] => some []
  | none :: _ => none
  | some x :: l => (allSome l).map (x :: ·)

/-- Reads a pipeline block at an address of a context. -/
def State.readBlock (s : State) (p : PartId) (ctx : BitVec 16) (va : Nat) : Option PipeBlock :=
  let w (a : Nat) := s.ctxWord p ctx a
  match w va with
  | none => none
  | some h =>
    let ns := h % 16 + 1
    let nr := h / 16 % 16 + 1
    let stages := allSome ((List.range ns).map fun i =>
      let a := va + 8 + 32 * i
      (w a).bind fun x => (w (a + 8)).bind fun y => (w (a + 16)).bind fun z => (w (a + 24)).bind fun u => stageOfWords x y z u)
    let rills := allSome ((List.range nr).map fun i => (w (va + 8 + 32 * ns + 8 * i)).bind rillOfWord)
    match stages, rills with
    | some st, some rl =>
      if h / 2 ^ 16 % 2 ^ 16 = 0 ∧ h / 2 ^ 8 % 256 ≠ 0 then
        some { cores := .ofNat 8 (h / 2 ^ 8), limit := .ofNat 32 (h / 2 ^ 32), stages := st, rills := rl }
      else none
    | _, _ => none

/-- Producers of Rill j: stage outputs with their rates, and EXTIN. -/
def PipeBlock.rates (b : PipeBlock) (j : Nat) : List Nat :=
  b.stages.flatMap fun e => (e.outs.filter fun o => o.1.toNat == j).map (·.2)

/-- The stage that a stage's output feeds, by Rill. -/
def PipeBlock.next (b : PipeBlock) (i : Nat) : List Nat :=
  ((b.stages[i]?.map (·.outs)).getD []).flatMap fun o =>
    (List.range b.stages.length).filter fun k => (b.stages[k]?.map (·.inr)) == some o.1

/-- Removes stages without a remaining predecessor until none is left or nothing changes: the graph has no cycle. -/
def PipeBlock.acyclic (b : PipeBlock) : Nat → List Nat → Bool
  | 0, rest => rest.isEmpty
  | fuel + 1, rest =>
    b.acyclic fuel (rest.filter fun i => rest.any fun j => (b.next j).contains i)

/-- R249. -/
def PipeBlock.ok (b : PipeBlock) : Bool :=
  let n := b.rills.length
  let sum (f : StageEnt → Nat) := (b.stages.map f).foldl (· + ·) 0
  b.stages.all (fun e => decide (e.inr.toNat < n) && e.outs.all fun o => decide (o.1.toNat < n))
  && ((List.range n).zip b.rills).all (fun q =>
    let rs := b.rates q.1
    rs.length + q.2.extin.toNat == 1
      && (b.stages.countP fun e => e.inr.toNat == q.1) + q.2.extout.toNat == 1
      && rs.all fun r => decide (r ≤ q.2.depth))
  && b.acyclic 16 (List.range b.stages.length)
  && decide (sum (·.minc.toNat) ≤ b.cores.toNat) && decide (b.cores.toNat ≤ sum (·.maxc.toNat))

/-! ### The record image (Table 17.1) -/

/-- A launch record's fields as its 128-byte image has them, UNBUILT. -/
def lrecOfImage (m : Nat → Nat → Nat) : LRec :=
  let kd := m 108 4
  { code := .ofNat 64 (m 0 8), frame := .ofNat 64 (m 8 8), argp := .ofNat 64 (m 16 8)
    args := (List.range 8).map fun i => .ofNat 64 (m (24 + 8 * i) 8)
    jinit := .ofNat 32 (m 88 4), ctx := .ofNat 16 (m 92 2), kind := .ofNat 2 (m 94 1), prio := .ofNat 2 (m 95 1)
    pceil := .ofNat 2 (m 95 1 / 4), replay := m 96 1 % 2 == 1, nonreplay := m 96 1 / 2 % 2 == 1, det := m 96 1 / 4 % 2 == 1
    splitok := m 96 1 / 8 % 2 == 1, gvalid := .ofNat 4 (m 97 1), gids := .ofNat 32 (m 98 4), gangslot := .ofNat 2 (m 102 1)
    ngang := .ofNat 16 (m 104 2), rqbase := .ofNat 16 (m 106 2), live := .ofNat 13 kd, spill := .ofNat 10 (kd / 2 ^ 13)
    wdog := .ofNat 5 (kd / 2 ^ 23), pipep := .ofNat 64 (m 112 8) }

/-- The first failing field of R309's second check: ascending byte offset. A field that Table 17.1 makes 0 for the kind
counts as reserved for it (DESIGN CHOICE, log 58). -/
def fieldCheck (m : Nat → Nat → Nat) (r : LRec) : Option Nat :=
  let kind := m 94 1
  let kd := m 108 4
  ([ (0, bits r.code 1 0 != 0 || bits r.code 63 56 != 0 || (kind == 2 && r.code != 0)),
     (92, r.ctx == 0#16),
     (94, decide (3 ≤ kind)),
     (95, decide (r.pceil < r.prio) || m 95 1 / 16 != 0),
     (96, m 96 1 / 16 != 0),
     (97, m 97 1 / 16 != 0),
     (102, m 102 1 / 4 != 0 || (kind != 1 && m 102 1 != 0)),
     (103, m 103 1 != 0),
     (104, kind == 2 && m 104 2 != 0),
     (106, kind != 2 && m 106 2 != 0),
     (108, !(Cont.startable { live := r.live, spill := r.spill }) || kd / 2 ^ 28 != 0),
     (112, if kind == 2 then r.pipep == 0 || r.pipep.toNat % 8 != 0 else r.pipep != 0) ].find? (·.2)).map (·.1)

/-- A group slot whose row is not built (R309) (DESIGN CHOICE, log 58). -/
def Part.slotCheck (P : Part) (r : LRec) : Option Nat :=
  ([0, 1, 2, 3].find? fun g => r.gvalid.getLsbD g && !(P.group (r.gids.extractLsb' (8 * g) 8)).built).map (98 + ·)

/-- The gang checks of R309 (DESIGN CHOICE, log 58). -/
def Part.gangCheck (P : Part) (r : LRec) : Option Nat :=
  if r.kind == kGang then
    if r.ngang = 0#16 ∨ P.taskCores < r.ngang.toNat then some 104
    else if !r.gvalid.getLsbD r.gangslot.toNat then some 102
    else none
  else if r.kind == kTask && r.ngang != 1#16 then some 104
  else none

/-- LRRES values (Table 17.3). -/
def lrOk : Nat := 0
def lrBusy : Nat := 1
def lrField : Nat := 2
def lrPipe : Nat := 3
def lrQueue : Nat := 4
def lrBad : Nat := 5

/-- Closes a pipeline's Rills; the exit Rills stay open with their items, for the context's tasks to pop (R253, R309)
(DEDUCED, log 59). -/
def Part.closeRills (P : Part) (i : BitVec 12) (r : LRec) : Part :=
  ((List.range r.pipe.rills.length).zip r.pipe.rills).foldl (fun P q =>
    let id := r.rillId (.ofNat 4 q.1)
    match P.rill i r (.ofNat 4 q.1) with
    | none => P
    | some z =>
      if q.2.extout then P.setQueue id { z with pipe := none, rightA := 1#2 }
      else { P with queues := Tbl.erase P.queues id.toNat }) P

/-- What is left of a record that is not built: OVER alone, which only the next BUILD that passes clears (R27, R309). -/
def LRec.unbuilt (r : LRec) : LRec := { ovf := r.ovf }

/-- UNBUILD of an IDLE record (R309). -/
def State.unbuild (s : State) (p : PartId) (i : BitVec 12) : State :=
  let r := (s.part p).lrec i
  (s.modPart p (·.closeRills i r)).putRec p i r.unbuilt

/-- Opens the Rills of a built PIPE (R309, R311). -/
def Part.openRills (P : Part) (i : BitVec 12) (r : LRec) (backing : BitVec 16 → Word) : Part :=
  ((List.range r.pipe.rills.length).zip r.pipe.rills).foldl (fun P q =>
    let id := r.rillId (.ofNat 4 q.1)
    P.setQueue id
      { kind := .rill, elog := q.2.elog.setWidth 4 + 3, depth := q.2.depth, ctxA := r.ctx, rightA := 3#2, ctxB := 0, rightB := 0
        backing := backing id, limit := if q.2.extin then r.pipe.limit.toNat else 0, pipe := some (i, .ofNat 4 q.1) }) P

/-- Address of a queue-table entry (R310). -/
def Part.qentry (P : Part) (q : BitVec 16) : Nat := P.qtbase.toNat + 32 * q.toNat

/-- The checks of a BUILD after the first, on the record's image: the built record or LRRES. -/
def State.buildCheck (s : State) (p : PartId) (i : BitVec 12) : Except Nat LRec :=
  let P := s.part p
  let m (o n : Nat) : Nat := s.ownGet p (P.recAddr i + o) n
  let r := lrecOfImage m
  match ((fieldCheck m r).or (P.slotCheck r)).or (P.gangCheck r) with
  | some off => .error (lrField + 256 * off)
  | none =>
    if r.kind == kPipe then
      match s.readBlock p r.ctx r.pipep.toNat with
      | none => .error lrPipe
      | some b =>
        if !b.ok then .error lrPipe
        else if (List.range b.rills.length).any fun k =>
            decide (65536 ≤ r.rqbase.toNat + k) || (P.queue (r.rillId (.ofNat 4 k))).isSome then .error lrQueue
        else .ok { r with pipe := b }
    else .ok r

/-- BUILD (R309): LRRES. -/
def State.build (s : State) (p : PartId) (i : BitVec 12) : State × Nat :=
  let r := (s.part p).lrec i
  if r.st ≠ .unbuilt ∧ r.st ≠ .idle then (s, lrBusy)
  else
    let s1 := if r.st = .idle then s.unbuild p i else s
    match s1.buildCheck p i with
    | .error e => (s1.putRec p i r.unbuilt, e)
    | .ok b =>
      let s2 := s1.modPart p fun P => P.openRills i b fun q => .ofNat 64 (s1.ownGet p (P.qentry q + 16) 8)
      (s2.putRec p i { b with st := .idle }, lrOk)

/-- One above the highest number that has reached a Rill by a committed or a provisional push (R309). -/
def Queue.reached (q : Queue) : Nat := q.seen

/-- DRAIN closes an entry Rill and sets its limit (DEDUCED, log 59). -/
def Queue.drainRill (q : Queue) : Queue :=
  if q.closed then q
  else { q with closed := true, limit := if q.limit = 0 then q.reached else Nat.min q.limit q.reached }

/-- DRAIN of a RUNNING PIPE (R309). -/
def State.drain (s : State) (p : PartId) (i : BitVec 12) : State × Nat :=
  let r := (s.part p).lrec i
  if r.st = .running ∧ r.kind = kPipe then
    let s1 := s.modPart p fun P => ((List.range r.pipe.rills.length).zip r.pipe.rills).foldl (fun P q =>
      let id := r.rillId (.ofNat 4 q.1)
      if q.2.extin then
        match P.rill i r (.ofNat 4 q.1) with
        | none => P
        | some z => P.setQueue id z.drainRill
      else P) P
    (s1.drainPipes p, lrOk)
  else (s, lrBad)

/-- LRCMD by an agent (R308): LRRES is the agent's own copy (R375). -/
def State.lrcmd (s : State) (p : PartId) (agent : Agent) (v : Word) : State :=
  let i : BitVec 12 := v.setWidth 12
  let res : State × Nat := match bits v 14 12 with
    | 1 => s.build p i
    | 2 => if ((s.part p).lrec i).st = .idle then (s.unbuild p i, lrOk) else (s, lrBusy)
    | 3 => s.drain p i
    | _ => (s, lrBad)
  res.1.modPart p fun P =>
    { P with lrcmd := .ofNat 64 (bits v 14 0)
             lrres := Tbl.set P.lrres (agentIx agent) (.ofNat 64 res.2) }

/-- The LRCMD word of an operation on the record that an event names. -/
def lrWord (op : Nat) (i : BitVec 16) : Word := .ofNat 64 (i.toNat % 4096 + op * 4096)

/-! ### The queue table (R310, R311) -/

/-- The entry of Table 17.4 as a queue, or none when a field is out of range (FIELD); its backing store for DEPTH entries
lies in the partition's own memory (R356). SLUICE entries are the Sluice's to open (DEDUCED, log 60). -/
def Part.queueOf (P : Part) (m : Nat → Nat → Nat) : Option Queue :=
  let elog := m 1 1
  let depth := m 2 2 + 1
  let dies := m 10 1
  let kind : Option QKind := match m 0 1 with
    | 1 => some .rill
    | 2 => some .link
    | 4 => some .taskq
    | _ => none
  let backing := m 16 8
  let dieOk (d : Nat) : Bool := P.dies.getLsbD (d % 4)
  match kind with
  | none => none
  | some k =>
    let fits := match k with
      | .rill => decide (3 ≤ elog)
      | .link => decide (3 ≤ elog) && decide (elog ≤ 7) && decide (depth ≤ 256) && dieOk dies && dieOk (dies / 4)
      | _ => true
    if 9 < elog ∨ 4096 < depth ∨ 3 < m 6 1 ∨ 3 < m 7 1 ∨ 15 < dies ∨ m 11 1 ≠ 0 ∨ backing % 4096 ≠ 0
        ∨ !P.ownsBytes backing (depth * (8 * 2 ^ elog)) ∨ m 24 8 ≠ 0 ∨ !fits then none
    else some
      { kind := k, elog := .ofNat 4 elog, depth := depth, ctxA := .ofNat 16 (m 4 2), rightA := .ofNat 2 (m 6 1)
        ctxB := .ofNat 16 (m 8 2), rightB := .ofNat 2 (m 7 1), dies := .ofNat 4 dies, backing := .ofNat 64 backing
        x := .ofNat 32 (m 12 4) }

/-- The queues to which a saved task's ports are bound, as its image has them (Table 18.9) (DEDUCED, log 60). -/
def State.savedBinds (s : State) (p : PartId) (ctx : BitVec 16) (n : BitVec 10) (r : SlotRec) : List (BitVec 16) :=
  match s.savePa p ctx (((s.part p).ctx ctx).halfVa n (r.half.getD false)) with
  | none => []
  | some pa =>
    ((List.range 7).filter fun i => (s.mem.get (pa + 0x538) 1).testBit i).map fun i => .ofNat 16 (s.mem.get (pa + 0x500 + 8 * i) 2)

/-- A port is bound to queue q: one of a program on a core of the partition, or of a saved task
(DEDUCED, log 60). -/
def State.queueBound (s : State) (p : PartId) (q : BitVec 16) : Bool :=
  (allCores.any fun c => s.partOf c == p && (s.core c).occ != .idle && (s.core c).a.ports.any fun kv => descQid kv.2 == q)
  || (s.part p).ctxs.any fun x => x.2.use.any fun u => u.2.core.isNone && u.2.half.isSome
    && (s.savedBinds p (.ofNat 16 x.1) (.ofNat 10 u.1) u.2).contains q

/-- QCMD (R311): BAD, then BUSY, then FIELD. -/
def State.qcmd (s : State) (p : PartId) (v : Word) : State :=
  let P := s.part p
  let q : BitVec 16 := v.setWidth 16
  let m (o n : Nat) : Nat := s.ownGet p (P.qentry q + o) n
  let res : Part × Nat :=
    if bits v 63 19 ≠ 0 then (P, 5)
    else match bits v 18 16 with
      | 1 =>
        if (P.queue q).isSome then (P, 1)
        else (match P.queueOf m with
          | none => (P, 2)
          | some z => (P.setQueue q z, 0))
      | 2 =>
        if (P.queue q).isNone || s.queueBound p q then (P, 1)
        else ({ P with queues := Tbl.erase P.queues q.toNat }, 0)
      | _ => (P, 5)
  s.setPart p { res.1 with qcmd := .ofNat 64 (bits v 18 0), qres := .ofNat 64 res.2 }

/-! ### The events -/

/-- LR_BUILD (R309). -/
def execLrBuild (s : State) : Out :=
  .next (if s.mayCommand s.ev.part s.ev.agent then s.lrcmd s.ev.part s.ev.agent (lrWord 1 s.ev.n) else s)
/-- LR_UNBUILD (R309). -/
def execLrUnbuild (s : State) : Out :=
  .next (if s.mayCommand s.ev.part s.ev.agent then s.lrcmd s.ev.part s.ev.agent (lrWord 2 s.ev.n) else s)
/-- LR_DRAIN (R309). -/
def execLrDrain (s : State) : Out :=
  .next (if s.mayCommand s.ev.part s.ev.agent then s.lrcmd s.ev.part s.ev.agent (lrWord 3 s.ev.n) else s)
/-- QUEUE_OPEN (R311). -/
def execQueueOpen (s : State) : Out := .next (s.qcmd s.ev.part (.ofNat 64 (s.ev.n.toNat + 2 ^ 16)))
/-- QUEUE_CLOSE (R311). -/
def execQueueClose (s : State) : Out := .next (s.qcmd s.ev.part (.ofNat 64 (s.ev.n.toNat + 2 ^ 17)))

end Sys2Proof.Machine
end

