-- ==== Sys2Proof/Machine/Task.lean ====
section
/-! DEFINITION. Task operations (R21, R25-R29, R163, R164, R252). -/
namespace Sys2Proof.Machine

/-- The record index that a register names, or the PROT fault; a record of another context faults PROT, but the
supervisor acts on every record (R25, R28, R163). -/
def State.recIx (s : State) (x : Word) : Except Flt (BitVec 12) :=
  if 4096 ≤ x.toNat then .error protOpen
  else
    let i : BitVec 12 := x.setWidth 12
    let r := s.myPart.lrec i
    if !s.here.isSup && r.st != .unbuilt && r.ctx != s.here.ctx then .error protOpen else .ok i

/-- The LR_STATE fault of a record (R302). -/
def State.lrFault (s : State) (i : BitVec 12) : Flt :=
  { code := .lrState, i0 := i.setWidth 64, i1 := (s.myPart.lrec i).word0 s.holder? }

/-- The field of LRPATCH, checked against Table 01.4. -/
def patchCheck (r : LRec) (f v : Word) : Option Flt :=
  if 10 ≤ f.toNat then some { code := .illegal }
  else if f = 8 ∧ bits v 63 56 ≠ 0 then some (addrFlt .prot v .read false)
  else if f = 9 ∧ r.pceil.toNat < v.toNat then some protOpen
  else none

/-- LRPATCH on record i: the supervisor acts at once on an IDLE record, a task provisionally on one that is IDLE or
that it holds and has not armed (Table 01.3, R28). An UNBUILT record refuses every instruction but LRSTAT (R308); on
the other records the field is checked before the record's state, an order that the spec leaves open (DESIGN CHOICE,
log 97). -/
def State.lrpatch (s : State) (i : BitVec 12) (f v : Word) : Eff :=
  let r := s.myPart.lrec i
  let p := s.partOf s.cur
  if r.st = .unbuilt then .fault (s.lrFault i) else
  match patchCheck r f v with
  | some flt => .fault flt
  | none =>
    match s.holder? with
    | none => if r.st = .idle then .ok (s.patchRec p i (f.setWidth 4) v) else .fault (s.lrFault i)
    | some h =>
      if r.st = .idle ∨ (r.st = .held h ∧ r.armed = false) then
        .ok ((s.putRec p i { r with st := .held h }).addEff (.patch i (f.setWidth 4) v))
      else .fault (s.lrFault i)

/-- LRPATCH (R163). -/
def execLrpatch (d a b : Reg) (e : Bool) (s : State) : Out :=
  issueA s (with3 s a b d e fun x f v s1 =>
    match s1.recIx x with
    | .error flt => .fault flt
    | .ok i => s1.lrpatch i f v)

/-- LRARM on record i (Table 01.3, R28). -/
def State.lrarm (s : State) (i : BitVec 12) : Eff :=
  let r := s.myPart.lrec i
  let p := s.partOf s.cur
  match s.holder? with
  | none => if r.st = .idle then .ok (s.armNow p i) else .fault (s.lrFault i)
  | some h =>
    if r.st = .idle ∨ (r.st = .held h ∧ r.armed = false) then .ok (s.putRec p i { r with st := .held h, armed := true })
    else .fault (s.lrFault i)

/-- LRARM (R163). -/
def execLrarm (a : Reg) (e : Bool) (s : State) : Out :=
  issueA s (with1 s a e fun x s1 =>
    match s1.recIx x with
    | .error flt => .fault flt
    | .ok i => s1.lrarm i)

/-- JDEC on record i (R27, R28). -/
def State.jdec (s : State) (i : BitVec 12) : Eff :=
  let r := s.myPart.lrec i
  match s.holder? with
  | none => if r.st = .armed then .ok (s.decRec (s.partOf s.cur) i 1) else .fault (s.lrFault i)
  | some h => if r.st = .armed ∨ r.st = .held h then .ok (s.addEff (.dec i)) else .fault (s.lrFault i)

/-- JDEC (R27). -/
def execJdec (a : Reg) (e : Bool) (s : State) : Out :=
  issueA s (with1 s a e fun x s1 =>
    match s1.recIx x with
    | .error flt => .fault flt
    | .ok i => s1.jdec i)

/-- Word n of LRSTAT (R164). An UNBUILT or PIPE record releases no continuation record: those words are free
values (log 23). -/
def State.lrstatWord (s : State) (i : BitVec 12) (n : Nat) : Word × State :=
  let r := s.myPart.lrec i
  if n = 0 then (r.word0 s.holder?, s)
  else if r.st == .unbuilt || r.kind == kPipe then s.freshWord
  else (.ofNat 64 (r.cont.image / 2 ^ (64 * (n - 1))), s)

/-- LRSTAT: a word number above 4 faults ILLEGAL (R164), after the index is checked, an order that the spec leaves open
(DESIGN CHOICE, log 97). -/
def execLrstat (d a b : Reg) (e : Bool) (s : State) : Out :=
  issueA s (s.gate e [a, b] [d] (s.rd a fun x s1 => s1.rd b fun n s2 =>
    match s2.recIx x with
    | .error flt => .fault flt
    | .ok i =>
      if 4 < n.toNat then .fault { code := .illegal }
      else
        let r := s2.lrstatWord i n.toNat
        r.2.wr d r.1 .ok))

/-- TSELF (R163). -/
def execTself (d : Reg) (_e : Bool) (s : State) : Out := issueA s (alu0 s d (s.here.info.lrec.setWidth 64))

/-! ### END -/

/-- A stage task has made its one pop and every push (R252). -/
def stageDone (P : Part) (t : TaskInfo) : Bool :=
  (P.slotOf t).popped && P.queues.all fun kv => kv.2.items.all fun i => i.st != .resvOut t.key

/-- What END's first step waits for: the X-strand idle, every engine command finished, no gather or
scatter in flight, every token off PENDING; stores are accepted as they perform (R21). -/
def Core.quiet (k : Core) : Bool :=
  k.x.run == .idle && k.eng.me.cmds.isEmpty && k.eng.se.isEmpty && k.eng.ce.all (fun kv => kv.2.held.isEmpty)
    && k.eng.gs.isEmpty && k.eng.tok.all fun kv => kv.2.st != .pending

/-- END's first step: the task waits for END_COMMIT, or a gang member for GANG_COMMIT (R21, R32). -/
def State.reachEnd (s : State) : State := s.modHere fun k => { k with atEnd := true }

/-- END (R21, R285): ILLEGAL on the supervisor core and for a stage task whose obligations are open (R252). -/
def execEndTask (s : State) : Out :=
  issueA s (
    if s.here.isSup then .fault { code := .illegal }
    else if s.here.info.stage.isSome && !stageDone s.myPart s.here.info then .fault { code := .illegal }
    else if s.here.quiet then .stallIn s.reachEnd (if s.here.info.inGang then .gang else .endTask)
    else .stall .endTask)

end Sys2Proof.Machine
end

