-- ==== Sys2Proof/Machine/Spm.lean ====
section
/-! DEFINITION. The scratchpad instructions of the A-strand (R153). -/
namespace Sys2Proof.Machine

/-- A scratchpad load at s[a] + s[b], zero-extended (R153). A failing check of the address comes before the wait for a
full destination port (R37) (DESIGN CHOICE, log 99). -/
def spLoadEff (s : State) (d a b : Reg) (e : Bool) (size : Nat) : Eff :=
  s.gate e [a, b] [d] (s.rd a fun x s1 => s1.rd b fun y s2 =>
    match s2.spLoad a (x + y) size with
    | .error f => .fault f
    | .ok v => s2.wr d (.ofNat 64 v) .ok)

/-- A scratchpad store of the low bytes of s[d] at s[a] + s[b] (R153). -/
def spStoreEff (s : State) (d a b : Reg) (e : Bool) (size : Nat) : Eff :=
  with3 s a b d e fun x y v s1 =>
    match s1.spStore a (x + y) size (v.toNat % 2 ^ (8 * size)) with
    | .error f => .fault f
    | .ok t => .ok t

/-- SPLDB (R153). -/
def execSpldb (d a b : Reg) (e : Bool) (s : State) : Out := issueA s (spLoadEff s d a b e 1)
/-- SPLDH (R153). -/
def execSpldh (d a b : Reg) (e : Bool) (s : State) : Out := issueA s (spLoadEff s d a b e 2)
/-- SPLDW (R153). -/
def execSpldw (d a b : Reg) (e : Bool) (s : State) : Out := issueA s (spLoadEff s d a b e 4)
/-- SPLDD (R153). -/
def execSpldd (d a b : Reg) (e : Bool) (s : State) : Out := issueA s (spLoadEff s d a b e 8)
/-- SPSTB (R153). -/
def execSpstb (d a b : Reg) (e : Bool) (s : State) : Out := issueA s (spStoreEff s d a b e 1)
/-- SPSTH (R153). -/
def execSpsth (d a b : Reg) (e : Bool) (s : State) : Out := issueA s (spStoreEff s d a b e 2)
/-- SPSTW (R153). -/
def execSpstw (d a b : Reg) (e : Bool) (s : State) : Out := issueA s (spStoreEff s d a b e 4)
/-- SPSTD (R153). -/
def execSpstd (d a b : Reg) (e : Bool) (s : State) : Out := issueA s (spStoreEff s d a b e 8)

/-- An own-scratchpad operand of a full-bit instruction: through sp it is never redirected but faults PROT (R59). -/
def State.fullOwn (s : State) (a : Reg) (v : Word) (size align : Nat) : Except FCode Nat :=
  match s.here.route a v with
  | .local_ => spOwn v size align
  | _ => .error .prot

/-- SPMARKF and SPMARKE: the checks hold whatever the count; a count past line 4,095 faults PROT (R153). -/
def markEff (s : State) (a b : Reg) (e : Bool) (f : Spm → Nat → Nat → Spm) : Eff :=
  with2 s a b e fun x n s1 =>
    match s1.fullOwn a x 128 128 with
    | .error c => .fault (addrFlt c x .write false)
    | .ok o =>
      if 4096 < o / 128 + n.toNat then .fault (addrFlt .prot x .write false)
      else .ok (s1.modSpm s1.cur fun m => f m (o / 128) n.toNat)
/-- SPMARKF (R153). -/
def execSpmarkf (a b : Reg) (e : Bool) (s : State) : Out := issueA s (markEff s a b e Spm.markFull)
/-- SPMARKE (R153). -/
def execSpmarke (a b : Reg) (e : Bool) (s : State) : Out := issueA s (markEff s a b e Spm.markEmpty)
/-- SPTESTF (R153). -/
def execSptestf (d a b : Reg) (e : Bool) (s : State) : Out :=
  issueA s (s.gate e [a, b] [d] (s.rd a fun x s1 => s1.rd b fun y s2 =>
    match s2.fullOwn a (x + y) 1 1 with
    | .error c => .fault (addrFlt c (x + y) .read false)
    | .ok o => s2.wr d (if s2.here.spm.isFull (o / 128) then 1 else 0) .ok))

end Sys2Proof.Machine
end

