-- ==== Sys2Proof/Machine/Vmem.lean ====
section
/-! DEFINITION. Vector memory instructions of the A-strand (R154-R158). -/
namespace Sys2Proof.Machine

/-- The value of a byte string, as a vector register. -/
def vecOf (bs : List Byte) : VReg := .ofNat 4096 (leNat bs)
/-- The 512 bytes of an entry with their enables. -/
def entBytes (e : SqEnt) : List (Byte × Bool) :=
  (List.range 512).map fun i => (e.data.extractLsb' (8 * i) 8, e.en.getLsbD i)

/-- Where one 128-byte line of a vector access lies. -/
inductive LineAt
  | sp (core : CoreId) (off : Nat)
  | glob (pa : Nat) (va : Word)
  deriving DecidableEq, Repr

/-- Translates the line at a global address. -/
def State.globLine (s : State) (acc : Acc) (va : Word) : Except Flt LineAt :=
  match s.xlate s.cur s.here.ctx acc va 128 with
  | .error f => .error (addrFlt f va acc true)
  | .ok x => .ok (.glob x.pa va)

/-- Translates lines in ascending order; the first that fails decides (R61). -/
def State.globWalk (s : State) (acc : Acc) : List Word → Except Flt (List LineAt)
  | [] => .ok []
  | va :: l =>
    match s.globLine acc va with
    | .error f => .error f
    | .ok x => (s.globWalk acc l).map (x :: ·)

/-- The checks of a global vector access before its translation: its space, its alignment, its end (R387). -/
def globCheck (acc : Acc) (l : List Word) : Option Flt :=
  match l with
  | [] => none
  | va :: _ =>
    if bits va 63 56 ≠ 0 then some (addrFlt .prot va acc true)
    else if bits va 6 0 ≠ 0 then some (addrFlt .align va acc true)
    else (l.find? fun v => bits v 63 56 != 0).map fun v => addrFlt .prot v acc true

/-- The lines of a global vector access, every check of R387 made before any line performs. -/
def State.globLines (s : State) (acc : Acc) (l : List Word) : Except Flt (List LineAt) :=
  match globCheck acc l with
  | some f => .error f
  | none => s.globWalk acc l

/-- The four line addresses from an address on. -/
def fourLines (ea : Word) : List Word := [ea, ea + 128, ea + 256, ea + 384]

/-- The lines of a scratchpad vector access: decoded by Table 03.1, or through sp routed line by line (R55, R56, R59). -/
def State.vecLines (s : State) (acc : Acc) (a : Reg) (ea : Word) (peerOk : Bool) : Except Flt (List LineAt) :=
  let own (v : Word) (n : Nat) : Except Flt (List LineAt) :=
    match spCheck v n 128 peerOk with
    | .error f => .error (addrFlt f v acc true)
    | .ok t => (s.spCore v t true).map fun co => (List.range (n / 128)).map fun i => .sp co.1 (co.2 + 128 * i)
  if a != 63#6 then own ea 512
  else if 0x80000 ≤ ea.toNat then .error (addrFlt .prot ea acc true)
  else
    let spco := s.here.spco.toNat
    let below := (fourLines ea).filter fun l => decide (l.toNat < spco)
    if below.isEmpty then own ea 512
    else if below.length = 4 ∨ ea.toNat % 128 ≠ 0 then s.globLines acc ((fourLines ea).map (s.here.ctl.spovf + ·))
    else if 0x80000 < ea.toNat + 512 then .error (addrFlt .prot ea acc true)
    else
      match s.globLines acc (below.map (s.here.ctl.spovf + ·)) with
      | .error f => .error f
      | .ok g => .ok (g ++ (List.range (4 - below.length)).map fun i => .sp s.cur (spco + 128 * i))

/-- Reads one line: its bytes and the poisoned line it returns, or the fault of an uncorrectable word (R116, R381). -/
def State.readLine (s : State) : LineAt → Except Flt (List Byte × Option Word)
  | .sp c o => if (s.core c).spm.badIn o 128 then .error spPoison else .ok ((s.core c).spm.mem.readN o 128, none)
  | .glob pa va => .ok (s.physRead pa 128, s.badLine pa va)

/-- Reads lines in order, keeping the first poisoned one. -/
def State.readLines (s : State) : List LineAt → Except Flt (List Byte × Option Word)
  | [] => .ok ([], none)
  | l :: r =>
    match s.readLine l with
    | .error f => .error f
    | .ok (b, p) => (s.readLines r).map fun t => (b ++ t.1, p.or t.2)

/-- Writes one line's enabled bytes. -/
def State.writeLine (s : State) (bs : List (Byte × Bool)) : LineAt → State
  | .sp c o => s.modSpm c (·.writeEn o bs)
  | .glob pa _ => s.physWriteEn pa bs

/-- Writes lines in ascending order. -/
def State.writeLines (s : State) : List LineAt → List (Byte × Bool) → State
  | [], _ => s
  | l :: r, bs => (s.writeLine (bs.take 128) l).writeLines r (bs.drop 128)

/-- The POISON fault of a write of lines: the first that touches an uncorrectable word or lies on a device that has
dropped off its link (R379, R381). -/
def State.badLines (s : State) : List LineAt → List (Byte × Bool) → Option Flt
  | [], _ => none
  | .sp c o :: r, bs => if (s.core c).spm.badEn o (bs.take 128) then some spPoison else s.badLines r (bs.drop 128)
  | .glob pa va :: r, bs => if s.linkDown pa 128 then some (poisonFlt va) else s.badLines r (bs.drop 128)

/-! ### Pushes and pops -/

/-- A load queue accepts a push: fewer than max(SLIPD, 1) unpopped entries (R154). -/
def Core.lqRoom (k : Core) (q : BitVec 2) : Bool := decide ((k.lq q).length < Nat.max k.ctl.slipd.toNat 1)

/-- Pushes an entry; at SLIPD = 0 the instruction then waits for its pop (R18, R154). -/
def pushLq (s : State) (q : BitVec 2) (x : LqEnt) : Eff :=
  let t := s.modHere fun k => k.setLq q (k.lq q ++ [x])
  if s.here.ctl.slipd = 0#3 then
    .stallIn (t.modHere fun k => { k with a := { k.a with handoff := some (q, k.a.pc) } }) (.handoff q)
  else .ok t

/-- A load-queue push: first the handoff wait of an entry already pushed, then the wait for room, then the operands, with
the trap of an empty one, and the access (R36, R37, R154) (DESIGN CHOICE, log 99). -/
def pushForm (s : State) (q : BitVec 2) (go : Eff) : Eff :=
  if s.here.a.handoff = some (q, s.here.a.pc) then
    if (s.here.lq q).isEmpty then .ok (s.modHere fun k => { k with a := { k.a with handoff := none } })
    else .stall (.handoff q)
  else if s.here.lqRoom q then go
  else .stall (.lq q)

/-- A vector load from checked lines. -/
def vecLoad (s : State) (q : BitVec 2) (ls : Except Flt (List LineAt)) : Eff :=
  match ls with
  | .error f => .fault f
  | .ok l =>
    match s.readLines l with
    | .error f => .fault f
    | .ok (bs, bad) => pushLq s q { data := vecOf bs, bad := bad }

/-- VLD (R154). -/
def execVld (q : BitVec 2) (a b : Reg) (e : Bool) (s : State) : Out :=
  issueA s (pushForm s q (with2 s a b e fun x y s1 => vecLoad s1 q (s1.vecLines .read a (x + y) true)))

/-- The checked lines of a full-bit vector access: own scratchpad only, never through the window (R56, R59, R156). -/
def State.fullLines (s : State) (acc : Acc) (a : Reg) (ea : Word) : Except Flt Nat :=
  if a == 63#6 && (decide (ea.toNat < s.here.spco.toNat) || decide (0x80000 ≤ ea.toNat)) then .error (addrFlt .prot ea acc true)
  else match spOwn ea 512 128 with
    | .error f => .error (addrFlt f ea acc true)
    | .ok o => .ok o

/-- Four lines from byte o on. -/
def ownLines (s : State) (o : Nat) : List LineAt := (List.range 4).map fun i => .sp s.cur (o + 128 * i)
/-- The four lines are all full, or all empty (R156). -/
def Spm.allFull (m : Spm) (line : Nat) : Bool := (List.range 4).all fun i => m.isFull (line + i)
def Spm.allEmpty (m : Spm) (line : Nat) : Bool := (List.range 4).all fun i => !m.isFull (line + i)

/-- VLDF and VLDFC: read once the four lines are full; VLDFC clears the bits in the same step (R156). -/
def vldfEff (s : State) (q : BitVec 2) (a b : Reg) (e clear : Bool) : Eff :=
  pushForm s q (with2 s a b e fun x y s1 =>
    match s1.fullLines .read a (x + y) with
    | .error f => .fault f
    | .ok o =>
      if !s1.here.spm.allFull (o / 128) then .stall (.full (.ofNat 12 (o / 128)))
      else
        match s1.readLines (ownLines s1 o) with
        | .error f => .fault f
        | .ok (bs, bad) =>
          let s2 := if clear then s1.modSpm s1.cur (·.markEmpty (o / 128) 4) else s1
          pushLq s2 q { data := vecOf bs, bad := bad })
/-- VLDF (R156). -/
def execVldf (q : BitVec 2) (a b : Reg) (e : Bool) (s : State) : Out := issueA s (vldfEff s q a b e false)
/-- VLDFC (R156). -/
def execVldfc (q : BitVec 2) (a b : Reg) (e : Bool) (s : State) : Out := issueA s (vldfEff s q a b e true)
/-- VLDG: 512 bytes of global memory; a = 63 faults ILLEGAL (R154). -/
def execVldg (q : BitVec 2) (a b : Reg) (e : Bool) (s : State) : Out :=
  issueA s (
    if a = 63#6 then .fault { code := .illegal }
    else pushForm s q (with2 s a b e fun x y s1 => vecLoad s1 q (s1.globLines .read (fourLines (x + y)))))

/-- Pops a store queue and writes its enabled bytes to checked lines. A failing check of the address comes before the
wait for the queue (R37) (DESIGN CHOICE, log 99). -/
def vecStore (s : State) (q : Sq) (ls : Except Flt (List LineAt)) : Eff :=
  match ls with
  | .error f => .fault f
  | .ok l =>
    match s.here.sq q with
    | [] => .stall (.sq q)
    | x :: r =>
      match s.badLines l (entBytes x) with
      | some f => .fault f
      | none => .ok ((s.modHere fun k => k.setSq q r).writeLines l (entBytes x))

/-- VST (R154). -/
def execVst (q : Sq) (a b : Reg) (e : Bool) (s : State) : Out :=
  issueA s (with2 s a b e fun x y s1 => vecStore s1 q (s1.vecLines .write a (x + y) false))
/-- VSTF: waits until the four lines are empty; the bits stay empty (R156). -/
def execVstf (q : Sq) (a b : Reg) (e : Bool) (s : State) : Out :=
  issueA s (with2 s a b e fun x y s1 =>
    match s1.fullLines .write a (x + y) with
    | .error f => .fault f
    | .ok o =>
      if !s1.here.spm.allEmpty (o / 128) then .stall (.emptyLines (.ofNat 12 (o / 128)))
      else vecStore s1 q (.ok (ownLines s1 o)))
/-- VSTG: a = 63 faults ILLEGAL (R154). -/
def execVstg (q : Sq) (a b : Reg) (e : Bool) (s : State) : Out :=
  issueA s (
    if a = 63#6 then .fault { code := .illegal }
    else with2 s a b e fun x y s1 => vecStore s1 q (s1.globLines .write (fourLines (x + y))))

/-! ### The decode form of VLD (R155) -/

/-- The fields of a decode descriptor (Table 07.4). -/
def dvFmt (d : Word) : BitVec 5 := d.extractLsb' 0 5
def dvFmtv (d : Word) : Bool := d.getLsbD 5
def dvEntry (d : Word) : BitVec 16 := d.extractLsb' 6 16
def dvLine (d : Word) : Nat := bits d 33 22

/-- The source of a decode load: 16-byte aligned, wholly own or wholly the peer's; through sp never below SPCO (R155). -/
def State.decSource (s : State) (a : Reg) (v : Word) (n : Nat) : Except Flt (CoreId × Nat) :=
  if a == 63#6 && (decide (v.toNat < s.here.spco.toNat) || decide (0x80000 ≤ v.toNat)) then .error (addrFlt .prot v .read true)
  else match spCheck v n 16 true with
    | .error f => .error (addrFlt f v .read true)
    | .ok t => s.spCore v t true

/-- The FP32 lanes of a decoded source, and its flags (R77, R155). -/
def decLanes (t : Elem) (scaled : Bool) (d : Word) (src cols : List Byte) : List (Nat × Flags) :=
  (lanesOf (elemWidth t) 128 (vecOf src)).zipWith
    (fun c ec => convert .fp32 false .rne 0 (if scaled then scaledValue t c (dvEntry d) ec else codeValue t c))
    cols

/-- VLD.DEC (R155): its descriptor is checked before its source's address, an order that the spec leaves open
(DESIGN CHOICE, log 97). -/
def execVldDec (q : BitVec 2) (a b : Reg) (e : Bool) (s : State) : Out :=
  issueA s (pushForm s q (with2 s a b e fun x d s1 =>
    if bits d 63 34 ≠ 0 then .fault { code := .illegal }
    else if !dvFmtv d then .fault (fmtFlt (dvFmt d))
    else match Elem.ofCode (dvFmt d |>.setWidth 4) with
      | none => .fault (fmtFlt (dvFmt d))
      | some t =>
        let scaled := (dvFmt d).getLsbD 4
        let n := 16 * elemWidth t
        match s1.decSource a x n with
        | .error f => .fault f
        | .ok (c, o) =>
          let m := (s1.core c).spm
          if m.badIn o n || (scaled && s1.here.spm.badIn (128 * dvLine d) 128) then .fault spPoison
          else
            let cols := if scaled then s1.here.spm.mem.readN (128 * dvLine d) 128 else List.replicate 128 127#8
            let rs := decLanes t scaled d (m.mem.readN o n) cols
            pushLq (s1.raise (rs.foldl (fun f r => f ||| r.2) 0#6)) q { data := packV 32 (rs.map (·.1)) }))

/-! ### Gathers and scatters (R157, R158) -/

/-- The completion bitmap of a core. -/
def Core.cbOf (k : Core) (m : Nat) : BitVec 128 := Tbl.get 0 k.eng.cb m
/-- Sets a completion bitmap. -/
def Core.setCb (k : Core) (m : Nat) (v : BitVec 128) : Core := { k with eng := { k.eng with cb := Tbl.set k.eng.cb m v } }

/-- The lanes of a set are complete; with the last one the instruction completes, its entry may be popped and its flag
counts (R48, R157). -/
def Core.lanesDone (k : Core) (m : Nat) (g : Gs) (b : BitVec 128) : Core :=
  let v := k.cbOf m ||| b
  if v = BitVec.allOnes 128 then
    let k1 := (k.setCb m 0).incFlag (.ofNat 6 (56 + m)) 1
    let k2 : Core := { k1 with eng := { k1.eng with gs := Tbl.erase k1.eng.gs m } }
    if g.scatter then k2
    else k2.setLq g.lq ((k2.lq g.lq).map fun e => if e.gather == some (.ofNat 3 m) then { e with gather := none } else e)
  else k.setCb m v

/-- The issue steps of a gather or scatter: ALIGN, the bitmap, the pops, the reserved entry (R157); its inactive lanes are
complete at once (R48). At SLIPD = 0 a VGTH too waits until its queue has no unpopped entry; then it reserves its own and
the strand goes on, with no wait for the X-strand's pop (DESIGN CHOICE, log 124). -/
def gsEff (s : State) (a : Reg) (m : BitVec 3) (e scatter : Bool) (lq : BitVec 2) (sq : Sq) : Eff :=
  if a = 63#6 then .fault { code := .illegal }
  else with1 s a e fun x s1 =>
    if bits x 1 0 ≠ 0 then
      .fault { code := .align, i0 := x, i1 := .ofNat 64 (4 + scatter.toNat + 8 * m.toNat) }
    else if (Tbl.find? s1.here.eng.gs m.toNat).isSome then .stall (.cb m)
    else match s1.here.q.iq with
      | [] => .stall .iq
      | i :: ir =>
        let start (k : Core) (dat : SqEnt) : Core :=
          let g : Gs := { base := x, scatter := scatter, lq := lq, sq := sq, iq := i, data := dat, pc := s.here.a.pc }
          ({ k with q := { k.q with iq := ir }, eng := { k.eng with gs := Tbl.set k.eng.gs m.toNat g } } : Core).lanesDone
            m.toNat g (~~~i.mask)
        if scatter then
          match s1.here.sq sq with
          | [] => .stall (.sq sq)
          | d :: r => .ok (s1.modHere fun k => start (k.setSq sq r) d)
        else if s1.here.lqRoom lq then
          .ok (s1.modHere fun k => start (k.setLq lq (k.lq lq ++ [{ data := 0, gather := some m }])) { data := 0, en := 0 })
        else .stall (.lq lq)

/-- VGTH (R157). -/
def execVgth (q : BitVec 2) (a : Reg) (m : BitVec 3) (e : Bool) (s : State) : Out := issueA s (gsEff s a m e false q .sq0)
/-- VSCT (R157). -/
def execVsct (q : Sq) (a : Reg) (m : BitVec 3) (e : Bool) (s : State) : Out := issueA s (gsEff s a m e true 0#2 q)

end Sys2Proof.Machine
end

