-- ==== Sys2Proof/Machine/Release.lean ====
section
/-! DEFINITION. Steps of the hardware on one core: END's commit, returns of loads and atomics, lanes of gathers and
scatters, the ends of waits, and stamped issues. -/
namespace Sys2Proof.Machine

/-! ### EVCMD's progress (R328, R329) -/

/-- The EVRES word (Table 18.4). -/
def evWord (res tasks clk : Nat) : Word := .ofNat 64 (res + tasks % 65536 * 2 ^ 16 + clk % 2 ^ 32 * 2 ^ 32)

/-- Ends the EVCMD in progress. -/
def Part.evEnd (P : Part) (r : EvRun) (res : Nat) : Part :=
  { P with evrun := none, evres := Tbl.set P.evres (agentIx r.agent) (evWord res r.tasks (r.last - r.start)) }

/-- A task of the context is on a core of the partition. -/
def State.onCore (s : State) (p : PartId) (ctx : BitVec 16) : Bool :=
  allCores.any fun c => s.partOf c == p && (s.core c).occ == .task && (s.core c).info.cont.ctx == ctx

/-- A SUSPEND or EXPORT moves on: once no task of its context is on a core, the context's pipelines give up their cores;
a SUSPEND is then done, and an EXPORT goes on to its block unless a save failed (R329, R343) (DEDUCED, log 48). -/
def State.evProgress (s : State) (p : PartId) : State :=
  match (s.part p).evrun with
  | none => s
  | some r =>
    if s.onCore p r.ctx then s
    else
      let s1 := s.yieldPipes p r.ctx
      if r.failed then s1.modPart p (·.evEnd r 4)
      else if r.op = 3#3 then s1
      else s1.modPart p (·.evEnd r 0)

/-! ### END's commit (R21, R32) -/

/-- The task on a core has finished END's first step and nothing holds it back. -/
def State.canCommit (s : State) (c : CoreId) : Bool :=
  let k := s.core c
  k.occ == .task && k.atEnd && k.quiet && k.hold.isNone && k.save != .stopped && !(s.part (s.partOf c)).stopped

/-- END_COMMIT (R21). -/
def execEndCommit (s : State) : Out :=
  let c := s.ev.core
  let p := s.partOf c
  .next (if s.canCommit c && !(s.core c).info.inGang then ((s.retireTask p c).drainPipes p).evProgress p else s)

/-- GANG_COMMIT (R32): every member's effects in one step, in rank order (DEDUCED, log 43). -/
def execGangCommit (s : State) : Out :=
  let t := (s.core s.ev.core).info
  let p := s.partOf s.ev.core
  let l := s.gangOn p t
  .next (if t.inGang && l.length == (s.core s.ev.core).gangSize && l.all s.canCommit then
      ((l.foldl (fun u c => u.retireTask p c) s).drainPipes p).evProgress p
    else s)

/-! ### Returns (R36, R150, R152) -/

/-- The value of a pending load fills its register; poisoned data marks it (R36). -/
def Core.landLoad (k : Core) (p : PendLoad) : Core :=
  { k with a := { k.a with
      s := Tbl.set k.a.s p.reg.toNat p.val
      empty := k.a.empty &&& ~~~regBit p.reg
      pend := k.a.pend.filter (· != p)
      bad := match p.bad with
        | none => k.a.bad
        | some l => k.a.bad ++ [{ reg := p.reg, line := l, pc := p.pc }] } }

/-- LOAD_RETURN (R36, R140, R150): loads drain while a task is held or being saved (R299, R330). -/
def execLoadReturn (s : State) : Out :=
  let r : Reg := s.ev.n.setWidth 6
  .next (s.modCore s.ev.core fun k => match k.a.pend.find? (·.reg == r) with
    | none => k
    | some p => k.landLoad p)

/-- An AMORR return lands on a core: its word, uncorrectable if poisoned, then its flag (R150, R152)
(DEDUCED, log 87). -/
def Core.landAmorr (k : Core) (r : AmorrRet) : Core :=
  let m := k.spm.write r.addr.toNat (leBytes 8 r.val.toNat)
  let m1 := if r.bad then { m with bad := m.bad ++ [r.addr.toNat / 8] } else m
  ({ k with spm := m1 } : Core).incFlag r.flag 1

/-- AMORR_RETURN (R152): a return to a task that has ended is discarded (DEDUCED, log 87); one to a scratchpad with
absent lines lands once they are filled (R339). -/
def execAmorrReturn (s : State) : Out :=
  .next (match s.amorr with
    | [] => s
    | r :: l =>
      if !(s.core r.core).absent.isEmpty then s
      else
      let t := { s with amorr := l }
      if (t.core r.core).runsTask && (t.core r.core).holder == r.task || (t.core r.core).isSup then
        t.modCore r.core (·.landAmorr r)
      else t)

/-! ### Gathers and scatters (R157, R158) -/

/-- Lane i has performed. -/
def Core.laneDone (k : Core) (m : Nat) (g : Gs) (i : Nat) : Core := k.lanesDone m g (1#128 <<< i)

/-- A gathered element enters its entry. -/
def Core.laneIn (k : Core) (m : Nat) (g : Gs) (i : Nat) (x : Nat) (bad : Option Word) : Core :=
  k.setLq g.lq ((k.lq g.lq).map fun e =>
    if e.gather == some (.ofNat 3 m) then
      { e with
        data := (e.data &&& ~~~((0xFFFFFFFF#4096) <<< (32 * i))) ||| (BitVec.ofNat 4096 x <<< (32 * i))
        bad := e.bad.or bad }
    else e)

/-- The fault of a lane: the record names the VGTH or VSCT, its bitmap and lane, and where the strand stopped (R158,
R302). -/
def State.laneFlt (s : State) (c : CoreId) (code : FCode) (va : Word) (g : Gs) (m i : Nat) : Flt :=
  { code := code, i0 := va
    i1 := .ofNat 64 (g.scatter.toNat + 4 + 8 * m + 64 * i + 2 ^ 13)
    i2 := (s.core c).a.pc, pc2 := true
    site := some (g.pc, match s.fetchWord c g.pc with
      | .ok w => w
      | .error _ => 0) }

/-- The enabled bytes of lane i of a scatter's data. -/
def Gs.laneBytes (g : Gs) (i : Nat) : List (Byte × Bool) :=
  (List.range 4).map fun b => (g.data.data.extractLsb' (32 * i + 8 * b) 8, g.data.en.getLsbD (4 * i + b))

/-- Where an active lane of a scatter writes; none where it does not translate (DEDUCED, log 88). -/
def State.scatterPa (s : State) (c : CoreId) (g : Gs) (i : Nat) : Option Nat :=
  if g.iq.mask.getLsbD i then
    match s.xlate c (s.core c).ctx .write (g.base + .ofNat 64 ((g.iq.idx.extractLsb' (32 * i) 32).toNat * 4)) 4 with
    | .error _ => none
    | .ok x => some x.pa
  else none

/-- A lower lane of a scatter that reaches the same bytes as lane i has not performed: lane i waits for it (R157)
(DEDUCED, log 88). -/
def State.laneWaits (s : State) (c : CoreId) (g : Gs) (v : BitVec 128) (i : Nat) : Bool :=
  match if g.scatter then s.scatterPa c g i else none with
  | none => false
  | some a => (List.range i).any fun j => !v.getLsbD j && s.scatterPa c g j == some a

/-- One lane performs (R157) (DEDUCED, log 88). -/
def State.lane (s : State) (c : CoreId) (m : Nat) (g : Gs) (i : Nat) : State :=
  let k := s.core c
  if !g.iq.mask.getLsbD i then
    s.modCore c fun k => ((if g.scatter then k else k.laneIn m g i 0 none) : Core).laneDone m g i
  else
    let va := g.base + .ofNat 64 ((g.iq.idx.extractLsb' (32 * i) 32).toNat * 4)
    match s.xlate c k.ctx (if g.scatter then .write else .read) va 4 with
    | .error f => s.takeFault c .a (s.laneFlt c f va g m i)
    | .ok x =>
      if g.scatter then
        if s.linkDown x.pa 4 then s.takeFault c .a { poisonFlt va with site := (s.laneFlt c .poison va g m i).site }
        else (s.physWriteEn x.pa (g.laneBytes i)).modCore c (·.laneDone m g i)
      else
        let bad := if s.poisoned x.pa then some (lineVa va) else none
        s.modCore c fun k => (k.laneIn m g i (s.mem.get x.pa 4) bad).laneDone m g i

/-- GATHER_SCATTER_LANE (R157, R158): a bit already set is skipped (R48). -/
def execGatherScatterLane (s : State) : Out :=
  let c := s.ev.core
  let k := s.core c
  let m := s.ev.n.toNat % 8
  let i := s.ev.lane.toNat
  .next (match Tbl.find? k.eng.gs m with
    | none => s
    | some g =>
      let v := k.cbOf m
      if !s.engineOn c || k.hold.isSome || v.getLsbD i then s
      else if s.laneWaits c g v i then s
      else s.lane c m g i)

/-! ### The X-strand's trap (R178, R304) -/

/-- An X-strand trap may be taken at the A-strand's boundary; within an atomic that has begun it stands at none
(R37). The wait in an outstanding SCALL is such a boundary (R178): the call stays outstanding (DESIGN CHOICE, log 109). -/
def State.xTrapReady (s : State) (c : CoreId) : Bool :=
  let k := s.core c
  k.x.trap.isSome && !k.x.taken && !k.a.inTrap && k.hold.isNone && k.save == .none && !k.atEnd && k.occ != .idle
    && k.a.begun.isEmpty && !(s.part (s.partOf c)).stopped

/-- The values of an X-strand REG_EMPTY (R178). -/
def xTrapOf (k : Core) (r : BitVec 6) : Trap :=
  { code := trapRegEmpty, t0 := r.setWidth 64, t1 := k.x.pc, t2 := 1 }

/-- Takes the X-strand's trap: the A-strand's handler, or escalation where TVEC is 0 (R178, R304). -/
def State.takeXTrap (s : State) (c : CoreId) : State :=
  let k := s.core c
  match k.x.trap with
  | none => s
  | some r =>
    let t := xTrapOf k r
    let mark (k : Core) : Core := { k with x := { k.x with taken := true } }
    if k.ctl.tvec == 0 then
      if k.isSup then (s.modCore c mark).escalate c .x t else s.escalate c .x t
    else s.modCore c fun k => mark (k.enterTrap t)

/-- X_TRAP_TAKE (R178). -/
def execXTrapTake (s : State) : Out := .next (if s.xTrapReady s.ev.core then s.takeXTrap s.ev.core else s)

/-! ### Waits (R19, R24, R166-R170) -/

/-- The condition that a wait of core c is for holds now. -/
def State.waitOver (s : State) (c : CoreId) (w : Wait) : Bool :=
  let t : State := { s with cur := c }
  let k := s.core c
  let line (n : BitVec 12) : Nat := n.toNat
  match w with
  | .reg r => !k.isEmpty r
  | .pop q => t.portReady q
  | .push q => t.portReady q
  | .lq q => k.lqRoom q
  | .sq q => !(k.sq q).isEmpty
  | .iq => !k.q.iq.isEmpty
  | .full n => k.spm.allFull (line n)
  | .emptyLines n => k.spm.allEmpty (line n)
  | .cb n => (Tbl.find? k.eng.gs n.toNat).isNone
  | .handoff q => (k.lq q).isEmpty
  | .me => decide (k.eng.me.cmds.length < 2)
  | .ce ch => decide ((k.chan ch).held.length < 2)
  | .se => !k.seFull
  | .rdv => k.x.run == .idle || k.x.trap.isSome
  | .endTask => !k.atEnd && k.quiet
  | .gang => false
  | .qwait q _ => t.portReady q
  | .fwait f thr _ => decide (thr ≤ k.flag f)
  | .twait n _ => (k.tok n.toNat).st != .pending
  | .gwait g _ =>
    match t.slotGroup g 1#2 with
    | none => true
    | some (_, G) => decide (k.phaseOf g ≤ G.phase)
  | .garr g =>
    match t.slotGroup g 1#2 with
    | none => true
    | some (_, G) => t.mayArrive g G
  | .scall => k.a.scall.isNone
  | .page va =>
    match s.findLeaf c k.ctx va with
    | .error _ => true
    | .ok q => !notResident q.1 || s.pageDown q.1
  | .filter n => (k.window? n).all fun x => x.closing && x.allDone
  | .stamp => k.ctl.fc == (Ext.ofWord k.a.ext).stamp || k.overrun (Ext.ofWord k.a.ext)
  | .toks => [(Ext.ofWord k.a.ext).cona, (Ext.ofWord k.a.ext).conb, (Ext.ofWord k.a.ext).conc].all fun n =>
      n == 0#5 || (k.tok n.toNat).st != .pending
  | .vpop q => !(k.lq q).isEmpty
  | .vpush q => decide ((k.sq q).length + k.heldSq q < 3)
  | .ipush => decide (k.q.iq.length + k.eng.gs.length < 3)
  | .xpush => decide (k.q.xq.length < 8)
  | .acc g => !k.accInUse (.ofNat 2 (g.toNat / 8))
  | .core d => (s.core d).occ != .task

/-- STALL_RELEASE (R19): the strand's wait is over and its instruction issues at its next turn. -/
def execStallRelease (s : State) : Out :=
  let c := s.ev.core
  let k := s.core c
  .next (match s.ev.st with
    | .a => (match k.a.wait with
        | none => s
        | some w => if s.waitOver c w then s.modCore c fun k => { k with a := { k.a with wait := none, waitClk := 0 } } else s)
    | .x => (match k.x.wait with
        | none => s
        | some w => if s.waitOver c w then s.modCore c fun k => { k with x := { k.x with wait := none } } else s))

/-- The strand may still fault: nothing holds its core, or a fault of this clk does and the strand has not come to the
boundary at which it stops (R299, R303) (DEDUCED, log 91). -/
def State.mayTimeOut (s : State) (c : CoreId) (st : Strand) : Bool :=
  match (s.core c).hold with
  | none => true
  | some h => h.left.contains st && h.clk == s.clk

/-- TASK_TIMEOUT (R24): at the stalled instruction. -/
def execTaskTimeout (s : State) : Out :=
  let c := s.ev.core
  let k := s.core c
  let n := match s.ev.st with
    | .a => k.a.dog
    | .x => k.x.dog
  .next (if k.occ == .task && s.mayTimeOut c s.ev.st && k.save != .stopped && !(s.part (s.partOf c)).stopped
      && decide (k.dogLimit ≤ n) then
      s.takeFault c s.ev.st
        { code := .taskTimeout, i0 := if s.ev.st == .x then 1 else 0, i1 := .ofNat 64 k.dogLimit }
    else s)

/-- A limited wait of core c whose L clk have passed traps, unless its condition holds (R170). -/
def State.expire (s : State) (c : CoreId) (w : Wait) (L : Word) (t : Trap) : State :=
  let k := s.core c
  if s.canRun c .a && decide (L.toNat ≤ k.a.waitClk) && !s.waitOver c w then s.takeTrap c t else s

/-- QTIMEOUT (R162). -/
def execQtimeout (s : State) : Out :=
  let c := s.ev.core
  .next (match (s.core c).a.wait with
    | some (.qwait q L) => s.expire c (.qwait q L) L (State.qtimeoutTrap { s with cur := c } q)
    | _ => s)

/-- FWAIT_TIMEOUT (R167). -/
def execFwaitTimeout (s : State) : Out :=
  let c := s.ev.core
  .next (match (s.core c).a.wait with
    | some (.fwait f thr L) => s.expire c (.fwait f thr L) L ((s.core c).fwaitTrap f thr)
    | _ => s)

/-- TWAIT_TIMEOUT (R168). -/
def execTwaitTimeout (s : State) : Out :=
  let c := s.ev.core
  .next (match (s.core c).a.wait with
    | some (.twait n L) => s.expire c (.twait n L) L (twaitTrap n)
    | _ => s)

/-- GWAIT_TIMEOUT (R166). -/
def execGwaitTimeout (s : State) : Out :=
  let c := s.ev.core
  .next (match (s.core c).a.wait with
    | some (.gwait g L) =>
      (match State.slotGroup { s with cur := c } g 1#2 with
       | none => s
       | some (i, G) => s.expire c (.gwait g L) L (gwaitTrap g i G))
    | _ => s)

/-! ### Stamped issues (R320) -/

/-- The long form at the A-strand's PC, run on its core (R122). -/
def State.runLong (s : State) (c : CoreId) : Out :=
  match s.fetch c .a with
  | .flt t f => .next (t.takeFault c .a f)
  | .run i t =>
    match i with
    | .meGo => execMeGo t
    | .meMode a b e x => execMeMode a b e x t
    | .meMsk a e x => execMeMsk a e x t
    | .ceGo d a e x => execCeGo d a e x t
    | .seIns a b e x => execSeIns a b e x t
    | .seSel a e x => execSeSel a e x t
    | .fltarm d a e x => execFltarm d a e x t
    | _ => .next s

/-- STAMP_ISSUE (R320): in the tick in which FC equals the stamp. -/
def execStampIssue (s : State) : Out :=
  let c := s.ev.core
  let k := s.core c
  if s.canRun c .a && k.a.wait == some .stamp && k.ctl.fc == (Ext.ofWord k.a.ext).stamp then s.runLong c else .next s

/-- STAMP_OVERRUN (R320): the tick has passed, or lies outside the frame. -/
def execStampOverrun (s : State) : Out :=
  let c := s.ev.core
  let k := s.core c
  let x := Ext.ofWord k.a.ext
  .next (if s.canRun c .a && k.waitsStamped && (k.overrun x || k.outOfFrame x) then s.takeTrap c (k.stampTrap x) else s)

end Sys2Proof.Machine
end

