-- ==== Sys2Proof/Machine/Restore.lean ====
section
/-! DEFINITION. Stopping and saving tasks (R330-R334), answering held records (R297), and resuming saved tasks and gangs
(R314, R338-R342). -/
namespace Sys2Proof.Machine

/-! ### The stop (R330) -/

/-- PREEMPT_STOP: both strands stand at instruction boundaries; a begun atomic and the SE's accepted commands complete
first. A wait is not begun on resumption (R175, R202, R332). -/
def Core.stop (k : Core) : Core :=
  { k.reopen with
    save := .stopped, atEnd := false
    a := { k.a with wait := none, waitClk := 0, late := false }
    x := { k.x with wait := none } }

/-- A BATCH-ATOMIC in flight stops at an element: COUNT of its record takes the elements performed, and OWN, CODE and SUB
stay (R229, R330). -/
def State.stopBatch (s : State) (c : CoreId) (ch : BitVec 2) : State :=
  let v := (s.core c).chan ch
  match s.xlate c (s.core c).ctx .read v.last 64 with
  | .error _ => s
  | .ok x =>
    if v.running && v.busy && pteTier x.pte == 0 && !s.poisoned x.pa && rKind (.ofNat 512 (s.mem.get x.pa 64)) == kBatch then
      s.physWrite (x.pa + 60) (leBytes 4 v.elem)
    else s

/-- PREEMPT_STOP (DEDUCED, log 49). -/
def execPreemptStop (s : State) : Out :=
  let c := s.ev.core
  let k := s.core c
  .next (if k.occ == .task && k.save == .asked && (k.a.begun.isEmpty || k.aFaulted) && k.eng.se.isEmpty then
      (([0, 1, 2, 3] : List (BitVec 2)).foldl (fun t ch => t.stopBatch c ch) s).modCore c (·.stop)
    else s)

/-! ### Answers to held records (R297) -/

/-- RESUME on a core: the hold ends, the watchdog counters clear, and an instruction that was stalled counts as not
begun, so that a limit runs in full again (R299, R170). A member of the gang that an escalated trap of its own holds stays
held: there is no RESUME for it, and its record is still open (R304). -/
def Core.resume (k : Core) : Core :=
  if (k.hold.map (·.kind)) == some .escalated then k
  else { k.reopen with
    hold := none
    a := { k.a with dog := 0, wait := none, waitClk := 0, late := false }
    x := { k.x with dog := 0, wait := none } }

/-- RETURN on a core: s8 and s9, and the A-strand goes on after the SCALL (R173). Within a handler that it entered from
the SCALL's wait, it is TPC that goes past the SCALL, and the handler goes on with the values (R178)
(DESIGN CHOICE, log 109). -/
def Core.returnCall (k : Core) (x y : Word) : Core :=
  let k1 := (k.setReg 8#6 x).setReg 9#6 y
  let k2 := if k.a.scall = some k.a.pc then k1.retireA (k.a.pc + 4)
    else if k.a.inTrap && k.a.scall == some k.ctl.tpc then
      { k1 with ctl := { k1.ctl with tpc := k1.ctl.tpc + 4, retired := k1.ctl.retired + 1 } }
    else k1
  { k2 with a := { k2.a with scall := none } }

/-- RETURN to the supervisor core's own SCALL: within the handler of the ring's event the core stands at SVEC's program,
so it is SEPC that goes past the SCALL (R173, R285, R295) (DEDUCED, log 36). -/
def State.returnSup (s : State) (p : PartId) (x y : Word) : State :=
  let c := (s.part p).score
  if !(s.core c).isSup || (s.core c).a.scall.isNone then s
  else if (s.part p).sup.inev && (s.core c).a.scall == some (s.part p).sup.sepc then
    (s.modPart p fun P => { P with sup := { P.sup with sepc := P.sup.sepc + 4 } }).modCore c fun k =>
      let k1 := (k.setReg 8#6 x).setReg 9#6 y
      { k1 with a := { k1.a with scall := none } }
  else s.modCore c (·.returnCall x y)

/-- An answer's action on the task of one core: 1 RESUME, 2 ABANDON, 3 SAVE, 4 RETURN (DEDUCED, log 50). -/
def State.act (s : State) (p : PartId) (c : CoreId) (action : Nat) (x y : Word) : State :=
  match action with
  | 1 => s.modCore c (·.resume)
  | 2 => s.abandonTask p c
  | 3 => s.askSave c
  | _ => s.modCore c (·.returnCall x y)

/-- An answer for a saved task is written into its image and applied when the task resumes (DEDUCED, log 50). The image has
one pending command: an earlier one of another action, the answer to another record of the task, is kept with the slot
(DEDUCED, log 51). -/
def State.actSaved (s : State) (p : PartId) (ctx : BitVec 16) (n : BitVec 10) (cmd : Word) (x y : Word) : State :=
  let r := ((s.part p).ctx ctx).slotRec n
  match s.savePa p ctx (((s.part p).ctx ctx).halfVa n (r.half.getD false)) with
  | none => s
  | some pa =>
    let ts := s.mem.get (pa + 0x10) 4
    let keep (l : List Word) : List Word :=
      if bitN ts 11 = 0 then [] else (l ++ [BitVec.ofNat 64 (s.mem.get (pa + 0x48) 8)]).filter fun w => bits w 34 32 != bits cmd 34 32
    let s0 := s.modPart p fun P => P.modSlot ctx n fun r => { r with marks := { r.marks with cmds := keep r.marks.cmds } }
    let s1 := s0.physWrite (pa + 0x48) (leBytes 8 cmd.toNat)
    let s2 := if bits cmd 34 32 = 4 then s1.physWrite (pa + 0x60 + 64) (leBytes 8 x.toNat ++ leBytes 8 y.toNat) else s1
    s2.physWrite (pa + 0x10) (leBytes 4 (ts % 2 ^ 11 + 2 ^ 11 + ts / 2 ^ 12 * 2 ^ 12))

/-- The answer reaches one of the record's tasks, wherever it stands; context 0 is the supervisor core's own call, which
a RETURN alone acts on (R285) (DEDUCED, log 36). -/
def State.answerSlot (s : State) (p : PartId) (ctx : BitVec 16) (n : BitVec 10) (cmd x y : Word) : State :=
  match (((s.part p).ctx ctx).slotRec n).core with
  | some c => s.act p c (bits cmd 34 32) x y
  | none =>
    if ctx = 0#16 then (if bits cmd 34 32 = 4 then s.returnSup p x y else s)
    else s.actSaved p ctx n cmd x y

/-- The save slots of the gang that the task of a slot is a member of, on cores or saved together; its own slot where it
is in none (R32, R297). -/
def State.gangSlots (s : State) (p : PartId) (ctx : BitVec 16) (n : BitVec 10) : List (BitVec 10) :=
  let x := (s.part p).ctx ctx
  match (x.slotRec n).core with
  | some c =>
    let t := (s.core c).info
    if t.inGang then n :: (((s.gangOn p t).map fun m => (s.core m).info.slot).filter (· != n)) else [n]
  | none =>
    let t := (x.slotRec n).info
    if t.inGang then
      n :: (x.use.filterMap fun kv =>
        if kv.2.core.isNone && kv.2.half.isSome && kv.2.info.gang.isSome && kv.2.info.lrec == t.lrec then
          some (BitVec.ofNat 10 kv.1) else none).filter (· != n)
    else [n]

/-- The slots that an answer acts on: an ABANDON, whatever the record, on every member of the gang (R32, R297). -/
def State.answered (s : State) (p : PartId) (o : Outst) (action : Nat) : List (BitVec 10) :=
  match action, o.slots with
  | 2, [n] => s.gangSlots p o.ctx n
  | _, l => l

/-- The action does not answer the record's kind. -/
def mismatch (kind : BitVec 8) (action : Nat) : Bool :=
  match action with
  | 1 => kind != 0#8
  | 4 => kind != 2#8
  | _ => 2#8 < kind

/-- CSTAT for a command (R297); of several refusals BAD comes first (DESIGN CHOICE, log 119). -/
def Part.ccmdCheck (P : Part) (v : Word) : BitVec 3 :=
  let a := bits v 34 32
  if bits v 63 35 ≠ 0 ∨ a = 0 ∨ 4 < a then 4#3
  else match P.sup.out.find? fun o => o.seq == v.setWidth 32 with
    | none => if P.sup.answered.contains (v.setWidth 32) then 1#3 else 2#3
    | some o => if mismatch o.kind a then 3#3 else 0#3

/-- CCMD (R297): the check, CSTAT, and the action on the record's task or on every member of its gang. SAVE leaves the
record outstanding (DEDUCED, log 50). -/
def State.ccmd (s : State) (p : PartId) (v : Word) : State :=
  let P := s.part p
  let st := P.ccmdCheck v
  let s1 := s.modPart p fun P => { P with sup := { P.sup with ccmd := v, cstat := st } }
  if st ≠ 0#3 then s1
  else match P.sup.out.find? fun o => o.seq == v.setWidth 32 with
    | none => s1
    | some o =>
      let s2 := (s.answered p o (bits v 34 32)).foldl (fun t n => t.answerSlot p o.ctx n v P.sup.carg0 P.sup.carg1) s1
      let s3 := if bits v 34 32 = 3 then s2
        else (s2.modPart p fun P => o.slots.foldl (fun P n => P.modSlot o.ctx n fun r => { r with seq := none }) P).modPart p fun P => { P with sup := { P.sup with
          out := P.sup.out.filter (fun q => q.seq != o.seq), answered := P.sup.answered ++ [o.seq] } }
      s3.evProgress p

/-- The CCMD word of an action on the record that an event names. -/
def ccmdWord (action : Nat) (seq : W32) : Word := .ofNat 64 (seq.toNat + action * 2 ^ 32)

/-- CCMD_RESUME (R297). -/
def execCcmdResume (s : State) : Out := .next (s.ccmd s.ev.part (ccmdWord 1 s.ev.seq))
/-- CCMD_ABANDON (R297). -/
def execCcmdAbandon (s : State) : Out := .next (s.ccmd s.ev.part (ccmdWord 2 s.ev.seq))
/-- CCMD_SAVE (R297). -/
def execCcmdSave (s : State) : Out := .next (s.ccmd s.ev.part (ccmdWord 3 s.ev.seq))
/-- CCMD_RETURN (R297). -/
def execCcmdReturn (s : State) : Out := .next (s.ccmd s.ev.part (ccmdWord 4 s.ev.seq))

/-! ### The image write (R330, R334, R338, R341) -/

/-- The drains before the image: loads landed, AMORR returns landed, the task's ring records written
(DEDUCED, log 49). -/
def State.drainedForSave (s : State) (c : CoreId) : Bool :=
  let k := s.core c
  k.occ == .task && k.save == .stopped && k.a.pend.isEmpty && s.amorr.all (·.core != c)
    && (s.part (s.partOf c)).sup.ring.all fun r => !(r.ctx == k.info.cont.ctx && r.slots.contains k.info.slot)

/-- The entry is a resume record. -/
def REnt.isResume (e : REnt) : Bool :=
  match e.kind with
  | .resume _ => true
  | .resumeGang _ => true
  | _ => false

/-- The entry stands at the head of its queue ahead of released records: a resume record, or a pipeline that reserves its
cores again with the counts that were recorded (R338, R386). -/
def Part.standsAhead (P : Part) (e : REnt) : Bool := e.isResume || !(P.lrec e.lrec).counts.isEmpty

/-- A resume record enters the head of its priority, behind those already there (R338). -/
def Part.enqueueResume (P : Part) (k : BitVec 2) (e : REnt) : Part :=
  let l := P.ready k
  P.setReady k (l.takeWhile P.standsAhead ++ [e] ++ l.dropWhile P.standsAhead)

/-- The resume record of the tasks saved together. -/
def resumeEntry (t : TaskInfo) (slots : List (BitVec 10)) : REnt :=
  { kind := if t.inGang then .resumeGang slots else .resume t.slot, ctx := t.cont.ctx, lrec := t.lrec, det := t.cont.det }

/-- A save counts for the EVCMD in progress on its context (DEDUCED, log 48). -/
def Part.countSave (P : Part) (clk : Nat) (ctx : BitVec 16) (n : Nat) (fail : Bool) : Part :=
  { P with evrun := P.evrun.map fun r =>
      if r.ctx == ctx then
        if fail then { r with failed := true } else { r with tasks := r.tasks + n, last := clk }
      else r }

/-- The images of all members, then their records; none when a write fails. -/
def State.saveCores (s : State) (p : PartId) (cs : List CoreId) : Option State :=
  match cs with
  | [] => some s
  | c0 :: _ =>
    let t := (s.core c0).info
    let slots := cs.map fun c => (s.core c).info.slot
    (cs.foldl (fun o c => o.bind fun u => u.writeImage p c) (some s)).map fun u =>
      (cs.foldl (fun u c => u.leave p c fun r => { r with core := none }) u).modPart p fun P =>
        (P.enqueueResume t.cont.prio (resumeEntry t slots)).countSave s.clk t.cont.ctx cs.length false

/-- SAVE_IMAGE_WRITE (R334, R341): a gang's images are written together (R32). `flag`: a write meets an uncorrectable
error (DEDUCED, log 49). -/
def execSaveImageWrite (s : State) : Out :=
  let c := s.ev.core
  let p := s.partOf c
  let cs := s.saveSet c
  let ctx := (s.core c).info.cont.ctx
  .next (
    if !cs.all s.drainedForSave then s
    else match if s.ev.flag then none else s.saveCores p cs with
      | some t => t.evProgress p
      | none => ((s.failCores p cs).modPart p (·.countSave s.clk ctx 0 true)).evProgress p)

/-! ### Resumption (R338-R340, R342) -/

/-- The pending commands of a saved task are applied before its first instruction, in the order in which they came; those
before the image's are kept with the slot (R297, R340) (DEDUCED, log 51). -/
def State.applyPending (s : State) (p : PartId) (m : Mem) (c : CoreId) : State :=
  if bitN (m.get 0x10 4) 11 = 0 then s
  else
    let k := s.core c
    let t := k.info
    (((s.part p).slotOf t).marks.cmds ++ [BitVec.ofNat 64 (m.w8 0x48)]).foldl
      (fun u w => if (u.core c).occ == Occ.task then u.act p c (bits w 34 32) (k.reg 8#6) (k.reg 9#6) else u)
      (s.modPart p fun P => P.modSlot t.cont.ctx t.slot fun r => { r with marks := {} })

/-- What a resumed task does again on its core: its windows, its requests (R340). -/
def State.afterLoad (s : State) (p : PartId) (m : Mem) (c : CoreId) : State :=
  (((s.fixPeer p m c).rearm c).reaskAll p c).applyPending p m c

/-- Saved tasks on their cores, with their images; none when one cannot be read. -/
def State.loadAll (s : State) (p : PartId) (ctx : BitVec 16) : List (BitVec 10 × CoreId) → Option (State × List (Mem × CoreId))
  | [] => some (s, [])
  | q :: l =>
    match s.loadTask p ctx q.1 q.2 with
    | none => none
    | some (t, m) => (t.loadAll p ctx l).map fun r => (r.1, (m, q.2) :: r.2)

/-- Restores tasks together: all or none (R32, R342). -/
def State.restore (s : State) (p : PartId) (ctx : BitVec 16) (l : List (BitVec 10 × CoreId)) : State :=
  match s.loadAll p ctx l with
  | none => s.failSlots p ctx l
  | some (t, ms) => ms.foldl (fun u q => u.afterLoad p q.1 q.2) t

/-- The core may take a resume record: it is free, or it waits as a core of a pipeline, in a partition that is set up
(R316, R378, R386). -/
def State.mayRestore (s : State) (p : PartId) (c : CoreId) : Bool :=
  let P := s.part p
  let k := s.core c
  s.freeCore p c || (P.up && k.occ == .idle && !k.out && !P.stopped && (P.stageOf c).isSome)

/-- TASK_RESTORE (R339). -/
def execTaskRestore (s : State) : Out :=
  let c := s.ev.core
  let p := s.partOf c
  let s1 := s.reserve p
  .next (
    if !s1.mayRestore p c then s1
    else match (s1.part p).firstFor c with
      | none => s1
      | some (k, n, e) =>
        match e.kind with
        | .resume slot => (s1.modPart p (·.takeEntry k n)).restore p e.ctx [(slot, c)]
        | _ => s1)

/-- The first n absent parts of a core are filled, in ascending offset. A poisoned one fails the restore: the task, with
its gang, is abandoned (R339, R342) (DESIGN CHOICE, log 7). -/
def State.fillNext (s : State) (c : CoreId) : Nat → State
  | 0 => s
  | n + 1 =>
    match (s.core c).absent with
    | [] => s
    | q :: _ =>
      match s.fillOne (s.partOf c) c q with
      | some t => t.fillNext c n
      | none => (s.failCores (s.partOf c) (s.saveSet c)).evProgress (s.partOf c)

/-- BACKGROUND_FILL (R339): the next absent part is filled. -/
def execBackgroundFill (s : State) : Out := .next (s.fillNext s.ev.core 1)

/-- An A-strand word of a memory or engine family: its instruction can reach granules, slots or scratchpad lines. -/
def wordReaches (w : W32) : Bool :=
  let m := fMajor w
  decide (0x0A ≤ m) && decide (m ≤ 0x1B) || m == 0x1F || decide (0x20 ≤ m) && decide (m ≤ 0x23)

/-- The instruction a strand stands at can reach an absent part: a memory or engine word, a word beside a bound port whose
entries pass through the scratchpad, or an accumulator word of the X-strand. -/
def State.reaches (s : State) (c : CoreId) (st : Strand) : Bool :=
  match s.fetchWord c ((s.core c).pcOf st) with
  | .error _ => false
  | .ok w => match st with
    | .a => wordReaches w || (s.core c).a.ports.any fun q => descBuf q.2
    | .x => fMajor w == 0x3D

/-- The first access to an absent part fills it, and the access then proceeds (R339). An access can reach a part of any
core of its partition (R58), so what the partition has absent is filled, as the background fill may (log 7). None: there
is nothing to fill. -/
def State.firstAccess (s : State) (c : CoreId) (st : Strand) : Option State :=
  match s.absentIn (s.partOf c) with
  | [] => none
  | l => if s.reaches c st then some (l.foldl (fun t d => t.fillNext d (t.core d).absent.length) s) else none

/-! ### Starting what several cores were reserved for (R314) -/

/-- The reservation holds all its cores and its context has the slots it needs, in a partition that runs (R306). -/
def Part.canStart (P : Part) (i : BitVec 12) : Option REnt :=
  match P.entries.find? (fun q => q.2.2.multi && q.2.2.lrec == i), P.resv.find? (·.lrec == i) with
  | some (_, _, e), some r =>
    let slots := match e.kind with
      | .gang _ => decide (P.need e ≤ (P.ctx e.ctx).freeSlots.length)
      | _ => true
    if r.cores.length = P.need e && slots && (P.ctx e.ctx).active && !P.stopped then some e else none
  | _, _ => none

/-- The cores of a reservation, ascending. -/
def Part.resvCores (P : Part) (i : BitVec 12) : List CoreId := sortCores (((P.resv.find? (·.lrec == i)).map (·.cores)).getD [])

/-- Starts the entry of a complete reservation. -/
def State.startEntry (s : State) (p : PartId) (i : BitVec 12) (e : REnt) : State :=
  let cs := (s.part p).resvCores i
  match e.kind with
  | .gang _ => s.startGang p i cs
  | .pipe _ => s.startPipe p i cs
  | .resumeGang l =>
    let g := ((s.part p).lrec i).gangId
    (s.modPart p fun P => (P.dropEntry i).gangMask g cs false).restore p e.ctx (l.zip cs)
  | _ => s

/-- GANG_START (R314). -/
def execGangStart (s : State) : Out :=
  let p := s.ev.part
  let s1 := s.reserve p
  .next (match (s1.part p).resvOrder.findSome? fun i => ((s1.part p).canStart i).map fun e => (i, e) with
    | none => s1
    | some (i, e) => s1.startEntry p i e)

end Sys2Proof.Machine
end

