-- ==== Sys2Proof/Machine/Tier.lean ====
section
/-! DEFINITION. TLBs and walks (R350, R351), and the tier manager (R354). -/
namespace Sys2Proof.Machine

/-! ### TLBs (R350) -/

/-- The entry that a walk's leaf makes (DESIGN CHOICE, log 6). -/
def tlbOf (ctx : BitVec 16) (va : Word) (l : Leaf) : TlbEnt :=
  { ctx := ctx, big := l.big, vpn := if l.big then bits va 55 29 else bits va 55 16, pte := l.pte }

/-- A new entry in a TLB of n entries: the oldest goes (log 6). -/
def tlbAdd (n : Nat) (e : TlbEnt) (l : List TlbEnt) : List TlbEnt := (e :: l.filter (· != e)).take n

/-- PAGE_WALK (R348, R350): a walk without a fault leaves its entry in the core's TLB of 128 and the die's of 32,768
(DESIGN CHOICE, log 6). -/
def execPageWalk (s : State) : Out :=
  let c := s.ev.core
  let ctx := (s.core c).ctx
  let d := (dieOf c).toNat
  .next (match s.walk (s.part (s.partOf c)) ctx s.ev.va with
    | .error _ => s
    | .ok l =>
      let e := tlbOf ctx s.ev.va l
      let s1 := s.modCore c fun k => { k with tlb := tlbAdd 128 e k.tlb }
      { s1 with dieTlb := Tbl.set s1.dieTlb d (tlbAdd 32768 e (Tbl.get [] s1.dieTlb d)) })

/-- Removes the entries that p picks from every TLB of a partition (R289, R351). -/
def State.tlbDrop (s : State) (p : PartId) (pick : TlbEnt → Bool) : State :=
  { s with
    cores := Tbl.mapVal (fun c k => if s.partOf (.ofNat 8 c) == p then { k with tlb := k.tlb.filter fun e => !pick e } else k) s.cores
    dieTlb := Tbl.mapVal (fun d l => if (s.part p).hasDie (.ofNat 2 d) then l.filter fun e => !pick e else l) s.dieTlb }

/-- The entry maps a byte of units n to n + m - 1 of 64 KiB. -/
def TlbEnt.meets (e : TlbEnt) (n m : Nat) : Bool :=
  let a := if e.big then e.vpn * 8192 else e.vpn
  let k := if e.big then 8192 else 1
  decide (a < n + m) && decide (n < a + k)

/-! ### The tier manager (R354) -/

/-- Frames reserved in stack k, by number: the top TMN of the stack. -/
def Part.tierFrames (P : Part) (k : Nat) : List Nat :=
  (List.range P.tmcfg.toNat).map fun i => (k + 1) * (stackSize / 65536) - P.tmcfg.toNat + i

/-- Entries of a table of n whose V bit is set, by index. -/
def validIxs (m : Mem) (base n : Nat) : List Nat :=
  (m.filter fun c => decide (base ≤ c.1) && decide (c.1 < base + 16 * n) && (c.1 - base) % 16 == 0 && c.2.getLsbD 0).map
    fun c => (c.1 - base) / 16

/-- The 64 KiB leaves of a context's tables that a walk reaches, with the addresses they map (R346, R348). -/
def State.leavesOf (s : State) (P : Part) (ctx : BitVec 16) : List (Word × Leaf) :=
  let root := if ctx = 0#16 then P.sroot.toNat else (P.ctx ctx).root.toNat
  (validIxs s.mem root 16384).flatMap fun i =>
    let t2 := pteFrame (s.pteAt (root + 16 * i))
    (validIxs s.mem t2 8192).flatMap fun j =>
      let t3 := pteFrame (s.pteAt (t2 + 16 * j))
      (validIxs s.mem t3 8192).filterMap fun k =>
        let va : Word := .ofNat 64 (i * 2 ^ 42 + j * 2 ^ 29 + k * 2 ^ 16)
        match s.walk P ctx va with
        | .error _ => none
        | .ok l => if l.big then none else some (va, l)

/-- The resident CXL pages of a partition, as its page tables name them (R354, R357), each with the tasks that keep it. -/
def State.residents (s : State) (p : PartId) : List TierPage :=
  let P := s.part p
  (0#16 :: (P.ctxs.filter (·.2.st != 0#8)).map fun x => .ofNat 16 x.1).flatMap fun ctx =>
    (s.leavesOf P ctx).filterMap fun q =>
      if pteTier q.2.pte = 1 ∧ pteRsd q.2.pte then
        some { ctx := ctx, va := q.1, hframe := .ofNat 36 (pteHframe q.2.pte / 65536), pteAddr := q.2.addr
               holders := ((P.tierPages.find? (·.isOf q.2)).map (·.holders)).getD [] }
      else none

/-- A reserved frame of a stack that no resident page uses. -/
def State.freeFrame (s : State) (p : PartId) (k : Nat) : Option Nat :=
  let l := s.residents p
  ((s.part p).tierFrames k).find? fun f => l.all fun t => t.hframe.toNat != f

/-- Copies a 64 KiB page; the copy covers each line of its destination and clears its poison (R116) (DEDUCED, log 95). -/
def State.copyPage (s : State) (src dst : Nat) : State := s.physWrite dst (s.mem.readN src 65536)

/-- The upper 8 bytes of a leaf with RSD and HFRAME as given. -/
def leafUpper (pte : BitVec 128) (rsd : Bool) (frame : Nat) : Nat :=
  (pte.extractLsb' 64 24).toNat + rsd.toNat * 2 ^ 24 + frame * 2 ^ 28

/-- The unit of an address. -/
def unitVa (va : Word) : Word := va &&& ~~~0xFFFF#64

/-- The TLB entry maps the expander page of a leaf, whatever context or address reaches it. -/
def TlbEnt.mapsPage (e : TlbEnt) (pte : BitVec 128) : Bool := pteTier e.pte == 1 && pteFrame e.pte == pteFrame pte

/-- A page-out's steps in order: RSD 0, the TLBs of the partition, the copy, the free frame (R354). -/
def State.pageOut (s : State) (p : PartId) (t : TierPage) : State :=
  let pte := s.pteAt t.pteAddr
  let s0 := s.modPart p fun P => { P with tierPages := P.tierPages.filter (·.pteAddr != t.pteAddr) }
  let s1 := s0.physWrite (t.pteAddr + 8) (leBytes 8 (leafUpper pte false 0))
  let s2 := s1.tlbDrop p (·.mapsPage pte)
  s2.copyPage (t.hframe.toNat * 65536) (pteFrame pte)

/-- The page may be paged out: its leaf is valid, no task holds it, and its device is on its link (R265, R379). -/
def State.mayPageOut (s : State) (t : TierPage) : Bool :=
  t.holders.isEmpty && pteV (s.pteAt t.pteAddr) && !s.pageDown (s.pteAt t.pteAddr)

/-- TIER_PAGE_OUT (R265, R354). -/
def execTierPageOut (s : State) : Out :=
  let p := s.ev.part
  .next (match (s.residents p).find? fun t => t.ctx == s.ev.ctx && t.va == unitVa s.ev.va with
    | none => s
    | some t => if s.mayPageOut t then s.pageOut p t else s)

/-- A free frame of a stack, made free by a page-out when none is (DEDUCED, log 57). -/
def State.getFrame (s : State) (p : PartId) (k : Nat) : Option (Nat × State) :=
  match s.freeFrame p k with
  | some f => some (f, s)
  | none =>
    match (s.residents p).find? fun t => t.hframe.toNat * 65536 / stackSize == k && s.mayPageOut t with
    | none => none
    | some t =>
      let s1 := s.pageOut p t
      (s1.freeFrame p k).map fun f => (f, s1)

/-- Every pending increment of a unit is made, once for each request, and the requester, a task or the supervisor core with
context 0 (R285), then keeps the page (R47, R265, R283). -/
def State.tierDone (s : State) (p : PartId) (r : TierReq) : State :=
  let s1 := s.modPart p fun P => { P with tierReqs := P.tierReqs.filter (· != r) }
  allCores.foldl (fun t c =>
    let k := t.core c
    if t.partOf c == p && k.occ != .idle && k.ctx == r.ctx && k.eng.treq.any (·.1 == r.va) then
      let mine := k.eng.treq.filter (·.1 == r.va)
      let k1 := mine.foldl (fun k e => k.incFlag e.2 1) k
      (t.setCore c { k1 with eng := { k1.eng with treq := k.eng.treq.filter (·.1 != r.va) } }).holdPage p r.ctx r.va k.holder
    else t) s1

/-- A page-in's steps in order: a frame, the copy, the leaf, the increments (DEDUCED, log 57). -/
def State.pageIn (s : State) (p : PartId) (r : TierReq) (l : Leaf) : State :=
  match s.getFrame p (pteHome l.pte) with
  | none => s
  | some (f, s1) =>
    let s2 := s1.copyPage (pteFrame l.pte) (f * 65536)
    let s3 := s2.physWrite (l.addr + 8) (leBytes 8 (leafUpper l.pte true f))
    let s4 := s3.tlbDrop p (·.mapsPage l.pte)
    let s5 := s4.modPart p fun P => { P with
      tierPages := P.tierPages.filter (·.pteAddr != l.addr) ++ [{ ctx := r.ctx, va := r.va, hframe := .ofNat 36 f, pteAddr := l.addr }] }
    s5.tierDone p r

/-- TIER_PAGE_IN (R354): only on a leaf whose V is 1; a unit that is no longer a CXL page that is not resident needs
none. The page of a device that has dropped off its link stays where it is, and the request waits (R379)
(DESIGN CHOICE, log 107). -/
def execTierPageIn (s : State) : Out :=
  let p := s.ev.part
  let r : TierReq := { ctx := s.ev.ctx, va := unitVa s.ev.va }
  .next (
    if !(s.part p).tierReqs.contains r then s
    else match s.walk (s.part p) r.ctx r.va with
      | .error _ => s
      | .ok l => if !notResident l.pte then s.tierDone p r else if s.pageDown l.pte then s else s.pageIn p r l)

end Sys2Proof.Machine
end

