-- ==== Sys2Proof/Machine/Tree.lean ====
section
/-! DEFINITION. The prefix tree in the node pool (R366, R369, R370, R372): lookup, adoption, pruning. -/
namespace Sys2Proof.Machine

/-! ### Nodes (Table 20.5) -/

/-- Changes the Sluice. -/
def State.modSl (s : State) (f : Sluice → Sluice) : State := { s with sl := f s.sl }

/-- A context's tree: whose it is, the node pool and the root. -/
structure Pool where
  part : PartId
  ctx : BitVec 16
  base : Nat
  count : Nat
  root : Nat
  deriving DecidableEq, Repr

/-- The tree is the context's. -/
def Tree.isOf (t : Tree) (p : PartId) (ctx : BitVec 16) : Bool := t.part == p && t.ctx == ctx

/-- The tree that the Sluice holds for a context. -/
def Sluice.treeOf (z : Sluice) (p : PartId) (ctx : BitVec 16) : Option Tree := z.trees.find? (·.isOf p ctx)

/-- n bytes from an address on lie in the tree's entry, its root or one of its nodes. -/
def Tree.meets (t : Tree) (a n : Nat) : Bool :=
  (decide (t.entry < a + n) && decide (a < t.entry + 64))
    || (t.root :: t.nodes).any fun m => decide (m < a + n) && decide (a < m + 256)

/-- No other context's tree has any of these bytes. -/
def Sluice.clearOf (z : Sluice) (p : PartId) (ctx : BitVec 16) (a n : Nat) : Bool :=
  z.trees.all fun t => t.isOf p ctx || !t.meets a n

/-- Changes the nodes of a context's tree. -/
def State.modNodes (s : State) (q : Pool) (f : List Nat → List Nat) : State :=
  s.modSl fun z => { z with trees := z.trees.map fun t => if t.isOf q.part q.ctx then { t with nodes := f t.nodes } else t }

/-- The root or a node of the context's own tree, within the partition's own memory. No other pointer that a node holds is
followed, whatever software has written to the pool: it reaches no other context's tree (R8, R356, R366)
(DEDUCED, log 93). -/
def State.isNode (s : State) (q : Pool) (n : Nat) : Bool :=
  ((s.sl.treeOf q.part q.ctx).any fun t => n == t.root || t.nodes.contains n) && n != 0 && (s.part q.part).ownsBytes n 256

/-- An n-byte field of a node; 0 where the pointer names none. -/
def State.nodeGet (s : State) (q : Pool) (a o n : Nat) : Nat := if s.isNode q a then s.mem.get (a + o) n else 0
/-- Writes bytes of a node; nothing where the pointer names none. -/
def State.nodePut (s : State) (q : Pool) (a o : Nat) (bs : List Byte) : State :=
  if s.isNode q a then s.physWrite (a + o) bs else s
/-- Writes an n-byte field of a node. -/
def State.nodeSet (s : State) (q : Pool) (a o n v : Nat) : State := s.nodePut q a o (leBytes n v)

def State.nodePage (s : State) (q : Pool) (n : Nat) : Word := .ofNat 64 (s.nodeGet q n 128 8)
def State.nodeParent (s : State) (q : Pool) (n : Nat) : Nat := s.nodeGet q n 168 8
def State.nodeChild (s : State) (q : Pool) (n : Nat) : Nat := s.nodeGet q n 176 8
def State.nodeNext (s : State) (q : Pool) (n : Nat) : Nat := s.nodeGet q n 184 8
def State.nodeRef (s : State) (q : Pool) (n : Nat) : Nat := s.nodeGet q n 192 4
def State.nodeVocab (s : State) (q : Pool) (n : Nat) : Nat := s.nodeGet q n 196 1
def State.nodeV (s : State) (q : Pool) (n : Nat) : Bool := s.nodeGet q n 197 1 % 2 == 1
def State.nodeStamp (s : State) (q : Pool) (n : Nat) : Nat := s.nodeGet q n 200 8
/-- KEY of a node: 32 token ids. -/
def State.nodeKey (s : State) (q : Pool) (n : Nat) : List Nat := (List.range 32).map fun i => s.nodeGet q n (4 * i) 4
/-- SIG of a node. -/
def State.nodeSig (s : State) (q : Pool) (n : Nat) : List Byte := leBytes 32 (s.nodeGet q n 136 32)

/-- Children of a node in sibling order; `fuel` bounds the chain. -/
def State.siblings (s : State) (q : Pool) : Nat → Nat → List Nat
  | 0, _ => []
  | fuel + 1, n => if s.isNode q n then n :: s.siblings q fuel (s.nodeNext q n) else []
def State.children (s : State) (q : Pool) (n : Nat) : List Nat := s.siblings q (q.count + 1) (s.nodeChild q n)

/-- The child of a node with a key under a vocabulary. -/
def State.childWith (s : State) (q : Pool) (n voc : Nat) (key : List Nat) : Option Nat :=
  (s.children q n).find? fun c => s.nodeV q c && s.nodeVocab q c == voc && s.nodeKey q c == key

/-! ### Lookup (R366) -/

/-- The matched chain from a node on: at most `m` pages. -/
def State.matchFrom (s : State) (q : Pool) (voc : Nat) (ids : List Nat) : Nat → Nat → List Nat
  | 0, _ => []
  | m + 1, n =>
    match s.childWith q n voc (ids.take 32) with
    | none => []
    | some c => c :: s.matchFrom q voc (ids.drop 32) m c

/-- Each matched node's REF rises by 1 and its STAMP is ADMCNT. -/
def State.holdNodes (s : State) (q : Pool) (stamp : Nat) (l : List Nat) : State :=
  l.foldl (fun t n => (t.nodeSet q n 192 4 (t.nodeRef q n + 1)).nodeSet q n 200 8 stamp) s

/-- One REF of each matched node is dropped (R368). -/
def State.dropNodes (s : State) (q : Pool) (l : List Nat) : State :=
  l.foldl (fun t n => t.nodeSet q n 192 4 (t.nodeRef q n - 1)) s

/-! ### Adoption (R369) -/

/-- V of 256 bytes of a pool that may be a node. -/
def State.rawV (s : State) (n : Nat) : Bool := s.mem.get (n + 197) 1 % 2 == 1

/-- Addresses of a pool's nodes. -/
def Pool.places (q : Pool) : List Nat := (List.range q.count).map fun k => q.base + 256 * k

/-- The first node of the pool without V and in no tree, for a context that has one (DEDUCED, logs 80 and 93). -/
def State.freeNode (s : State) (q : Pool) : Option Nat :=
  if (s.sl.treeOf q.part q.ctx).isNone then none
  else q.places.find? fun n =>
    n != 0 && (s.part q.part).ownsBytes n 256 && !s.rawV n && s.sl.trees.all fun t => !t.meets n 256

/-- Makes node n of the tree a child of a parent: PAGE, SIG, REF 0, STAMP; the first of its siblings (DEDUCED, log 80). -/
def State.makeNode (s : State) (q : Pool) (n parent voc stamp : Nat) (key : List Nat) (page : Word) (sig : List Byte) :
    State :=
  let bs := key.flatMap (leBytes 4) ++ leBytes 8 page.toNat ++ sig ++ leBytes 8 parent ++ leBytes 8 0
    ++ leBytes 8 (s.nodeChild q parent) ++ leBytes 4 0 ++ leBytes 1 voc ++ leBytes 1 1 ++ leBytes 2 0 ++ leBytes 8 stamp
    ++ leBytes 48 0
  (((s.modNodes q (· ++ [n])).nodePut q n 0 bs).nodeSet q parent 176 8 n)

/-- A page to adopt: its key, PAGE and signature. -/
structure AdoptPage where
  key : List Nat
  page : Word
  sig : List Byte
  deriving DecidableEq, Repr

/-- Adopts pages in order under a node; answers the pages that the tree took (DEDUCED, log 80). -/
def State.adopt (s : State) (q : Pool) (voc stamp : Nat) : Nat → List AdoptPage → State × List Word
  | _, [] => (s, [])
  | n, a :: l =>
    match s.childWith q n voc a.key with
    | some c => s.adopt q voc stamp c l
    | none =>
      match s.freeNode q with
      | none => (s, [])
      | some f =>
        let r := State.adopt (s.makeNode q f n voc stamp a.key a.page a.sig) q voc stamp f l
        (r.1, a.page :: r.2)

/-! ### The tree of a context at ENABLE (R366, R372) -/

/-- The PARENT fields from a node on lead to the root, through nodes of the pool that have V and that no other context's
tree has; `fuel` bounds the chain. -/
def State.leadsTo (s : State) (q : Pool) : Nat → Nat → Bool
  | 0, _ => false
  | fuel + 1, n => q.places.contains n && s.rawV n && s.sl.clearOf q.part q.ctx n 256
      && (let up := s.mem.get (n + 168) 8
          up == q.root || s.leadsTo q fuel up)

/-- The tree that ENABLE takes for a context: the nodes of the pool that lead to its root (DEDUCED, log 93). -/
def State.treeAt (s : State) (q : Pool) (entry : Nat) : Tree :=
  { part := q.part, ctx := q.ctx, entry := entry, root := q.root, base := q.base, count := q.count
    nodes := q.places.filter fun n => (decide (n + 256 ≤ q.root) || decide (q.root + 256 ≤ n)) && s.leadsTo q q.count n }

/-- A tree is held while its context exists or is served (DEDUCED, log 93). -/
def State.keepTrees (s : State) : State :=
  s.modSl fun z => { z with trees := z.trees.filter fun t =>
    ((s.part t.part).ctx t.ctx).st != 0#8 || z.served.any fun v => v.part == t.part && v.ctx == t.ctx }

/-! ### Pruning (R372) -/

/-- Nodes below a node, children before their parents; `fuel` bounds the depth. -/
def State.below (s : State) (q : Pool) : Nat → Nat → List Nat
  | 0, _ => []
  | fuel + 1, n => (s.children q n).flatMap fun c => s.below q fuel c ++ [c]

/-- A node leaves its parent's list of children and is free. -/
def State.unlink (s : State) (q : Pool) (n : Nat) : State :=
  let p := s.nodeParent q n
  let s1 := match (s.children q p).find? fun c => s.nodeNext q c == n with
    | some c => s.nodeSet q c 184 8 (s.nodeNext q n)
    | none => s.nodeSet q p 176 8 (s.nodeNext q n)
  (s1.nodeSet q n 197 1 0).modNodes q (·.filter (· != n))

/-- Removes what may go, children first: one pass, after which none remains. The root is no page and stays. -/
def State.pruneTree (s : State) (q : Pool) (limit : Nat) : State × List Word :=
  (s.below q (q.count + 1) q.root).foldl (fun (r : State × List Word) n =>
    let t := r.1
    if t.nodeV q n && t.nodeChild q n == 0 && t.nodeRef q n == 0 && decide (t.nodeStamp q n < limit) then
      (t.unlink q n, r.2 ++ [t.nodePage q n])
    else r) (s, [])

end Sys2Proof.Machine
end

