-- ==== Sys2Proof/Machine/Contexts.lean ====
section
/-! DEFINITION. GRPCMD (R357) and CTXCMD (R352, R353): building group rows, creating and destroying contexts. -/
namespace Sys2Proof.Machine

/-! ### GRPCMD (R357, Table 19.5) -/

/-- GRPRES and CTXRES values (Table 19.4). -/
def resOk : Nat := 0
def resBusy : Nat := 1
def resField : Nat := 2
def resPin : Nat := 3
def resSpill : Nat := 4
def resBad : Nat := 5

/-- The member mask at GRPARG, read under SROOT; none when it does not translate or cannot be read
(DEDUCED, log 61). -/
def State.grpMask (s : State) (p : PartId) : Option (BitVec 256) :=
  let a := (s.part p).grparg.toNat
  if a % 32 ≠ 0 then none
  else match s.ctxWord p 0 a, s.ctxWord p 0 (a + 8), s.ctxWord p 0 (a + 16), s.ctxWord p 0 (a + 24) with
    | some w, some x, some y, some z => some (.ofNat 256 (w + x * 2 ^ 64 + y * 2 ^ 128 + z * 2 ^ 192))
    | _, _, _, _ => none

/-- Every core that a mask names is a task core of the partition. -/
def Part.maskOk (P : Part) (m : BitVec 256) : Bool := allCores.all fun c => !m.getLsbD c.toNat || P.isTaskCore c

/-- Group id i is one of a record's valid slots. -/
def namesGroup (gvalid : BitVec 4) (gids : BitVec 32) (i : BitVec 8) : Bool :=
  [0, 1, 2, 3].any fun g => gvalid.getLsbD g && gids.extractLsb' (8 * g) 8 == i

/-- A built launch record names the row, or a task holds it, on a core or saved. -/
def State.groupInUse (s : State) (p : PartId) (i : BitVec 8) : Bool :=
  ((s.part p).recs.any fun r => r.2.st != .unbuilt && namesGroup r.2.gvalid r.2.gids i)
  || (allCores.any fun c => s.partOf c == p && (s.core c).occ == .task && (s.core c).holdsGroup i)
  || (s.part p).ctxs.any fun x => x.2.use.any fun u => u.2.used && namesGroup u.2.info.cont.gvalid u.2.info.cont.gids i

/-- GRPCMD: BAD, then BUSY, then FIELD (R357) (DEDUCED, log 61). -/
def State.grpcmdRes (s : State) (p : PartId) (v : Word) : Part × Nat :=
  let P := s.part p
  let i : BitVec 8 := v.setWidth 8
  let kind : BitVec 2 := .ofNat 2 (bits v 9 8)
  let op := bits v 11 10
  if op = 0 ∨ op = 3 ∨ bits v 63 12 ≠ 0 then (P, resBad)
  else if op = 1 then
    if (P.group i).built then (P, resBusy)
    else if kind = 0#2 then (P, resField)
    else match s.grpMask p with
      | none => (P, resField)
      | some m =>
        if P.maskOk m then
          ({ P with groups := Tbl.set P.groups i.toNat { built := true, kind := kind, mask := m } }, resOk)
        else (P, resField)
  else if !(P.group i).built || s.groupInUse p i then (P, resBusy)
  else ({ P with groups := Tbl.set P.groups i.toNat {} }, resOk)

/-- A write of GRPCMD. -/
def State.grpcmd (s : State) (p : PartId) (v : Word) : State :=
  let r := s.grpcmdRes p v
  s.setPart p { r.1 with grpcmd := .ofNat 64 (bits v 11 0), grpres := .ofNat 64 r.2 }

/-- GROUP_BUILD (R357): the group and its kind are the event's. -/
def execGroupBuild (s : State) : Out :=
  .next (s.grpcmd s.ev.part (.ofNat 64 (s.ev.n.toNat % 1024 + 2 ^ 10)))
/-- GROUP_UNBUILD (R357). -/
def execGroupUnbuild (s : State) : Out :=
  .next (s.grpcmd s.ev.part (.ofNat 64 (s.ev.n.toNat % 1024 + 2 ^ 11)))

/-! ### CTXCMD (R353) -/

/-- Address of a context-table entry (R352). -/
def Part.ctxEntry (P : Part) (c : BitVec 16) : Nat := P.ctxbase.toNat + 64 * c.toNat

/-- A context's STATE, in the context table and in its entry (R352, Table 19.2). -/
def State.setCtxSt (s : State) (p : PartId) (c : BitVec 16) (st : BitVec 8) : State :=
  (s.modPart p fun P => { P with ctxs := Tbl.set P.ctxs c.toNat { P.ctx c with st := st } }).physWrite
    ((s.part p).ctxEntry c + 24) [st]

/-- A context as CREATE makes it of its entry, ACTIVE (Table 19.2, R353). -/
def ctxOfEntry (m : Nat → Nat → Nat) : Ctx :=
  { st := 1#8, root := .ofNat 64 (m 0 8), savebase := .ofNat 64 (m 8 8), slots := .ofNat 16 (m 16 2), siggrant := .ofNat 16 (m 18 2)
    sigcap := .ofNat 32 (m 20 4) }

/-- Pages of 64 KiB in the save slots of a context. -/
def Ctx.savePages (x : Ctx) : Nat := x.slots.toNat * 34

/-- The fields of an entry are in range (Table 19.2, R345). -/
def Part.entryOk (P : Part) (m : Nat → Nat → Nat) (x : Ctx) : Bool :=
  x.root.toNat % 0x40000 == 0 && P.rangePinnable x.root.toNat 0x40000 && x.savebase.toNat % 65536 == 0
    && decide (1 ≤ x.slots.toNat) && decide (x.slots.toNat ≤ 1024) && decide (x.siggrant.toNat ≤ 4096)
    && decide (x.savebase.toNat + x.savePages * 65536 ≤ 2 ^ 56) && (List.range 39).all fun i => m (25 + i) 1 == 0

/-- The page of a save slot stands as R353 asks. -/
def State.pageSaves (s : State) (P : Part) (c : BitVec 16) (va : Word) : Bool :=
  match s.walk P c va with
  | .error _ => false
  | .ok l => ptePin l.pte && pteW l.pte && pteTier l.pte == 0 && P.ownsHbm (leafPa l.pte l.big va)

/-- The first page of the save slots that does not. -/
def State.firstUnpinned (s : State) (P : Part) (c : BitVec 16) (x : Ctx) : Option Word :=
  ((List.range x.savePages).map fun i => x.savebase + .ofNat 64 (65536 * i)).find? fun va => !s.pageSaves P c va

/-- CTXRES. -/
def ctxResWord (res : Nat) (va : Word) : Word := .ofNat 64 (res + bits va 55 16 * 2 ^ 24)

/-- CREATE: the new state and CTXRES (DEDUCED, log 61). -/
def State.ctxCreate (s : State) (p : PartId) (c : BitVec 16) : State × Word :=
  let P := s.part p
  let m (o n : Nat) : Nat := s.mem.get (P.ctxEntry c + o) n
  let x := ctxOfEntry m
  let P1 : Part := { P with ctxs := Tbl.set P.ctxs c.toNat x }
  if (P.ctx c).st ≠ 0#8 then (s, ctxResWord resBusy 0)
  else if !P.entryOk m x then (s, ctxResWord resField 0)
  else match s.firstUnpinned P1 c x with
    | some va => (s, ctxResWord resPin va)
    | none =>
      if P.spillcap < x.sigcap.toNat then (s, ctxResWord resSpill 0)
      else ((s.setPart p { P1 with spillcap := P.spillcap - x.sigcap.toNat }).setCtxSt p c 1#8, ctxResWord resOk 0)

/-- A task of the context is on a core or saved, a launch record of it is built, or a queue entry names it. -/
def State.ctxInUse (s : State) (p : PartId) (c : BitVec 16) : Bool :=
  let P := s.part p
  s.onCore p c || ((P.ctx c).use.any fun u => u.2.used) || (P.recs.any fun r => r.2.st != .unbuilt && r.2.ctx == c)
    || P.queues.any fun q => q.2.names c

/-- DESTROY: the new state and CTXRES. -/
def State.ctxDestroy (s : State) (p : PartId) (c : BitVec 16) : State × Word :=
  let P := s.part p
  if (P.ctx c).st = 0#8 || s.ctxInUse p c then (s, ctxResWord resBusy 0)
  else
    let s1 := s.modPart p fun P => { P with
      rows := P.rows.filter (·.ctx != c)
      tierReqs := P.tierReqs.filter (·.ctx != c)
      spillcap := P.spillcap + (P.ctx c).sigcap.toNat }
    let s2 := (s1.tlbDrop p (·.ctx == c)).setCtxSt p c 0#8
    ((s2.modPart p fun P => { P with ctxs := Tbl.set P.ctxs c.toNat {} }).keepTrees, ctxResWord resOk 0)

/-- A write of CTXCMD: BAD, then the id, then each command's own checks (R353). An entry outside the partition's own HBM is
no entry of its table (R345) (DEDUCED, log 93). -/
def State.ctxcmd (s : State) (p : PartId) (v : Word) : State :=
  let c : BitVec 16 := v.setWidth 16
  let op := bits v 18 16
  let r : State × Word :=
    if (op ≠ 1 ∧ op ≠ 2) ∨ bits v 63 19 ≠ 0 then (s, ctxResWord resBad 0)
    else if c = 0#16 ∨ (s.part p).nctx < c ∨ !(s.part p).rangePinnable ((s.part p).ctxEntry c) 64 then (s, ctxResWord resField 0)
    else if op = 1 then s.ctxCreate p c
    else s.ctxDestroy p c
  r.1.modPart p fun P => { P with ctxcmd := .ofNat 64 (bits v 18 0), ctxres := r.2 }

/-- CTX_CREATE (R353). -/
def execCtxCreate (s : State) : Out := .next (s.ctxcmd s.ev.part (.ofNat 64 (s.ev.ctx.toNat + 2 ^ 16)))
/-- CTX_DESTROY (R353). -/
def execCtxDestroy (s : State) : Out := .next (s.ctxcmd s.ev.part (.ofNat 64 (s.ev.ctx.toNat + 2 ^ 17)))

end Sys2Proof.Machine
end

