-- ==== Sys2Proof/Machine/Export.lean ====
section
/-! DEFINITION. The export block (R343, Table 18.10): its sections as 8-byte words, written and read back. The spec gives
the leading bytes of each entry; the words after them are the model's (log 44). -/
namespace Sys2Proof.Machine

/-! ### Reading words -/

/-- A reader of words: a value and the words left, or none when they run out. -/
abbrev Rd (α : Type) := List Nat → Option (α × List Nat)

/-- Reads n words. -/
def rdN (n : Nat) : Rd (List Nat) := fun l => if l.length < n then none else some (l.take n, l.drop n)
/-- Reads n values one after the other. -/
def rdMany {α : Type} (f : Rd α) : Nat → Rd (List α)
  | 0, l => some ([], l)
  | n + 1, l => (f l).bind fun r => (rdMany f n r.2).map fun q => (r.1 :: q.1, q.2)
/-- Reads values until no word is left; `fuel` bounds them. -/
def rdAll {α : Type} (f : Rd α) : Nat → List Nat → Option (List α)
  | 0, l => if l.isEmpty then some [] else none
  | fuel + 1, l => if l.isEmpty then some [] else (f l).bind fun r => (rdAll f fuel r.2).map (r.1 :: ·)
/-- Word i of a list. -/
def wAt (l : List Nat) (i : Nat) : Nat := l.getD i 0

/-- The 8-byte words of a value of n words. -/
def toWords : Nat → Nat → List Nat
  | 0, _ => []
  | n + 1, v => v % 2 ^ 64 :: toWords n (v / 2 ^ 64)
/-- The value of a list of words. -/
def ofWords (l : List Nat) : Nat := l.foldr (fun w v => w % 2 ^ 64 + v * 2 ^ 64) 0

/-! ### Section 1: ready-queue entries -/

/-- The slots a resume entry names. -/
def REnt.slots (e : REnt) : List (BitVec 10) :=
  match e.kind with
  | .resume n => [n]
  | .resumeGang l => l
  | _ => []

/-- Kind code of an entry. -/
def REnt.code (e : REnt) : Nat :=
  match e.kind with
  | .task _ => 0
  | .gang _ => 1
  | .pipe _ => 2
  | .resume _ => 3
  | .resumeGang _ => 4

/-- An entry: the record's 32 bytes, then its place, its age and its slots. -/
def entWords (P : Part) (k : BitVec 2) (e : REnt) : List Nat :=
  toWords 4 (P.lrec e.lrec).cont.image
    ++ [e.code + k.toNat * 2 ^ 8 + e.det.toNat * 2 ^ 10 + e.lrec.toNat * 2 ^ 16 + e.slots.length * 2 ^ 32, e.waited]
    ++ e.slots.map (·.toNat)

/-- Reads an entry of a context. A task's own part is filled from its launch record at import. -/
def rdEnt (ctx : BitVec 16) : Rd (BitVec 2 × REnt) := fun l =>
  (rdN 6 l).bind fun r =>
    let w := wAt r.1 4
    (rdN (fieldN w 32 16) r.2).map fun q =>
      let i : BitVec 12 := .ofNat 12 (w / 2 ^ 16)
      let slots := q.1.map (BitVec.ofNat 10)
      let kind : REKind := match w % 256 with
        | 0 => .task {}
        | 1 => .gang i
        | 2 => .pipe i
        | 3 => .resume (slots.headD 0)
        | _ => .resumeGang slots
      ((.ofNat 2 (w / 2 ^ 8), { kind := kind, ctx := ctx, lrec := i, det := bitN w 10 == 1, waited := wAt r.1 5 }), q.2)

/-! ### Section 2: launch records -/

/-- A launch record's 128-byte image (Table 17.1). -/
def LRec.image (r : LRec) : Mem :=
  let m := Mem.put8 [] 0 ([r.code.toNat, r.frame.toNat, r.argp.toNat] ++ (List.range 8).map fun i => (r.args.getD i 0).toNat)
  let m1 := m.put 88 8 (r.jinit.toNat + r.ctx.toNat * 2 ^ 32 + r.kind.toNat * 2 ^ 48 + r.prio.toNat * 2 ^ 56
    + r.pceil.toNat * 2 ^ 58)
  let m2 := m1.put 96 8 (r.replay.toNat + r.nonreplay.toNat * 2 + r.det.toNat * 4 + r.splitok.toNat * 8
    + r.gvalid.toNat * 2 ^ 8 + r.gids.toNat * 2 ^ 16 + r.gangslot.toNat * 2 ^ 48)
  let m3 := m2.put 104 8 (r.ngang.toNat + r.rqbase.toNat * 2 ^ 16
    + (r.live.toNat + r.spill.toNat * 2 ^ 13 + r.wdog.toNat * 2 ^ 23) * 2 ^ 32)
  m3.put8 112 [r.pipep.toNat, (r.word0 none).toNat]

/-- A record's state without its holder. -/
def LSt.tag (st : LSt) : Nat :=
  match st with
  | .unbuilt => 0
  | .idle => 1
  | .held _ => 2
  | .armed => 3
  | .queued => 4
  | .running => 5
/-- The holder's key, 0 when there is none. -/
def LSt.holder (st : LSt) : Nat :=
  match st with
  | .held h => h
  | _ => 0
/-- Reads a state back. -/
def LSt.ofTag (n h : Nat) : LSt :=
  match n with
  | 0 => .unbuilt
  | 1 => .idle
  | 2 => .held h
  | 3 => .armed
  | 4 => .queued
  | _ => .running

/-- A record: its 128 bytes, then its index, state, holder's slot, count of tasks and stage counts. -/
def recWords (i : Nat) (r : LRec) : List Nat :=
  (List.range 16).map (fun k => r.image.w8 (8 * k))
    ++ [i + r.st.tag * 2 ^ 16 + r.armed.toNat * 2 ^ 20 + r.ovf.toNat * 2 ^ 21 + r.counts.length * 2 ^ 24 + r.left * 2 ^ 32,
        r.st.holder, r.join.toNat]
    ++ r.counts

/-- Reads a record; its pipeline block is read again at import. -/
def rdRec : Rd (BitVec 12 × LRec) := fun l =>
  (rdN 19 l).bind fun r =>
    let m : Mem := Mem.put8 [] 0 (r.1.take 16)
    let w := wAt r.1 16
    (rdN (fieldN w 24 8) r.2).map fun q =>
      ((.ofNat 12 w, { lrecOfImage (fun o n => m.get o n) with
        st := .ofTag (fieldN w 16 4) (wAt r.1 17), armed := bitN w 20 == 1, ovf := bitN w 21 == 1
        left := w / 2 ^ 32, join := .ofNat 32 (wAt r.1 18), counts := q.1 }), q.2)

/-! ### Section 3: queue-table entries, and their backing stores -/

/-- QKIND (Table 17.4). -/
def QKind.code (k : QKind) : Nat :=
  match k with
  | .rill => 1
  | .link => 2
  | .sluice => 3
  | .taskq => 4
/-- Reads QKIND. -/
def QKind.ofCode (n : Nat) : QKind :=
  match n with
  | 1 => .rill
  | 2 => .link
  | 3 => .sluice
  | _ => .taskq

/-- A queue-table entry's 32 bytes (Table 17.4): a link entry carries X. -/
def Queue.entryWords (z : Queue) : List Nat :=
  [ z.kind.code + z.elog.toNat * 2 ^ 8 + (z.depth - 1) * 2 ^ 16 + z.ctxA.toNat * 2 ^ 32 + z.rightA.toNat * 2 ^ 48
      + z.rightB.toNat * 2 ^ 56,
    z.ctxB.toNat + z.dies.toNat * 2 ^ 16 + z.x.toNat * 2 ^ 32, z.backing.toNat, 0 ]

/-- An item's standing: a code and the key of the task, 0 when there is none. -/
def ItemSt.words (t : ItemSt) : Nat × Nat :=
  match t with
  | .ready => (0, 0)
  | .prov h => (1, h)
  | .taken h => (2, h)
  | .resvIn h => (3, h)
  | .resvOut h => (4, h)
/-- Reads a standing. -/
def ItemSt.ofWords (c h : Nat) : ItemSt :=
  match c with
  | 0 => .ready
  | 1 => .prov h
  | 2 => .taken h
  | 3 => .resvIn h
  | _ => .resvOut h

/-- An item's place in the block: number, count of its bytes, and standing with its task. Its bytes are in the store. -/
def QItem.words (i : QItem) : List Nat := [i.num, i.st.words.1 + i.data.length * 2 ^ 8, i.st.words.2]
/-- Reads an item, its bytes still zeros. -/
def rdItem : Rd QItem := fun l =>
  (rdN 3 l).map fun r =>
    ({ num := wAt r.1 0, st := .ofWords (wAt r.1 1 % 256) (wAt r.1 2), data := List.replicate (wAt r.1 1 / 2 ^ 8) 0 }, r.2)

/-- A queue's counters, its pipeline, and the places of its items (DESIGN CHOICE, log 44). -/
def Queue.placeWords (z : Queue) : List Nat :=
  [ z.head, z.limit, z.closed.toNat + z.pipe.isSome.toNat * 2 + ((z.pipe.map (·.1.toNat)).getD 0) * 2 ^ 8
      + ((z.pipe.map (·.2.toNat)).getD 0) * 2 ^ 24,
    z.items.length + z.gone.length * 2 ^ 16 + z.xOld.length * 2 ^ 32, z.seen ]
    ++ z.items.flatMap QItem.words ++ z.gone ++ z.xOld.flatMap fun e => [e.1, e.2.toNat]
/-- Reads what `Queue.placeWords` wrote into an entry read from the block. -/
def rdPlaces (z : Queue) : Rd Queue := fun l =>
  (rdN 5 l).bind fun r =>
    let w := wAt r.1 2
    let n := wAt r.1 3
    (rdMany rdItem (fieldN n 0 16) r.2).bind fun q =>
    (rdN (fieldN n 16 16) q.2).bind fun g =>
    (rdMany (rdN 2) (fieldN n 32 16) g.2).map fun x =>
      ({ z with
        head := wAt r.1 0, seen := wAt r.1 4, limit := wAt r.1 1, closed := bitN w 0 == 1
        pipe := if bitN w 1 = 1 then some (.ofNat 12 (w / 2 ^ 8), .ofNat 4 (w / 2 ^ 24)) else none
        items := q.1, gone := g.1, xOld := x.1.map fun e => (wAt e 0, .ofNat 32 (wAt e 1)) }, x.2)

/-- An entry of the block: the 32 bytes, the queue id, and its items' places. -/
def queueEntWords (q : Nat) (z : Queue) : List Nat := z.entryWords ++ [q] ++ z.placeWords

/-- Reads an entry; the bytes of its items come from its backing store. -/
def rdQueueEnt : Rd (BitVec 16 × Queue) := fun l =>
  (rdN 5 l).bind fun r =>
    let w := wAt r.1 0
    let v := wAt r.1 1
    (rdPlaces
      { kind := .ofCode (w % 256), elog := .ofNat 4 (w / 2 ^ 8), depth := fieldN w 16 16 + 1, ctxA := .ofNat 16 (w / 2 ^ 32)
        rightA := .ofNat 2 (w / 2 ^ 48), rightB := .ofNat 2 (w / 2 ^ 56), ctxB := .ofNat 16 v, dies := .ofNat 4 (v / 2 ^ 16)
        x := .ofNat 32 (v / 2 ^ 32), backing := .ofNat 64 (wAt r.1 2) } r.2).map fun q => ((.ofNat 16 (wAt r.1 4), q.1), q.2)

/-- What a backing store receives: each item's bytes in one entry of the queue's size, in the order of its items
(DESIGN CHOICE, log 44). -/
def Queue.backBytes (z : Queue) : List Byte :=
  z.items.flatMap fun i => (i.data ++ List.replicate z.esize 0).take z.esize
/-- The items of a queue with the bytes that a memory holds for them from an address on. -/
def Queue.refill (z : Queue) (m : Mem) (a : Nat) : Queue :=
  { z with items := ((List.range z.items.length).zip z.items).map fun q =>
      { q.2 with data := m.readN (a + z.esize * q.1) q.2.data.length } }

/-! ### Sections 4 and 5: groups and signature rows -/

/-- A group row: its id, its counts, its mask, its split counters. -/
def groupWords (i : Nat) (G : Group) : List Nat :=
  [i + G.kind.toNat * 2 ^ 8 + G.split.length * 2 ^ 16, G.phase, G.arrivals] ++ toWords 4 G.mask.toNat
    ++ G.split.flatMap fun x => [x.1, x.2.next, x.2.done.length] ++ x.2.done.map (·.toNat)
/-- Reads a split counter with its number. -/
def rdSplit : Rd (Nat × SplitCtr) := fun l =>
  (rdN 3 l).bind fun r => (rdN (wAt r.1 2) r.2).map fun q =>
    ((wAt r.1 0, { next := wAt r.1 1, done := q.1.map (BitVec.ofNat 8) }), q.2)
/-- Reads a group row. -/
def rdGroup : Rd (BitVec 8 × Group) := fun l =>
  (rdN 7 l).bind fun r =>
    let w := wAt r.1 0
    (rdMany rdSplit (fieldN w 16 16) r.2).map fun q =>
      ((.ofNat 8 w, { built := true, kind := .ofNat 2 (w / 2 ^ 8), phase := wAt r.1 1, arrivals := wAt r.1 2
                      mask := .ofNat 256 (ofWords (r.1.drop 3)), split := q.1 }), q.2)

/-- A signature row's 64 bytes: SIG, PAGE, TAG, AGE. -/
def SigRow.words (r : SigRow) : List Nat :=
  toWords 4 r.sig.toNat ++ [r.page.toNat + r.tag.toNat * 2 ^ 32 + r.age.toNat * 2 ^ 48 + r.bad.toNat * 2 ^ 56, 0, 0, 0]
/-- Reads a signature row of a context. -/
def rdRow (ctx : BitVec 16) : Rd SigRow := fun l =>
  (rdN 8 l).map fun r =>
    let w := wAt r.1 4
    ({ ctx := ctx, tag := .ofNat 10 (w / 2 ^ 32), page := .ofNat 32 w, sig := .ofNat 256 (ofWords (r.1.take 4))
       age := .ofNat 4 (w / 2 ^ 48), bad := bitN w 56 == 1 }, r.2)

/-! ### Section 6: save slots -/

/-- A provisional effect on a launch record. -/
def LrEff.words (e : LrEff) : List Nat :=
  match e with
  | .patch i f v => [0 + i.toNat * 2 ^ 8 + f.toNat * 2 ^ 24, v.toNat]
  | .dec i => [1 + i.toNat * 2 ^ 8, 0]
/-- Reads an effect. -/
def effOfWords (l : List Nat) : LrEff :=
  let w := wAt l 0
  if w % 256 = 0 then .patch (.ofNat 12 (w / 2 ^ 8)) (.ofNat 4 (w / 2 ^ 24)) (.ofNat 64 (wAt l 1))
  else .dec (.ofNat 12 (w / 2 ^ 8))

/-- Code of a hold. -/
def Hold.word (h : Hold) : Nat :=
  (match h.kind with
    | .fault => 0
    | .escalated => 1
    | .gangStop => 2
    | .also => 3) + (h.strand == .x).toNat * 4 + h.stands.toNat * 8 + h.code.toNat * 2 ^ 8
/-- Reads a hold. -/
def Hold.ofWord (w : Nat) : Hold :=
  { kind := match w % 4 with
      | 0 => .fault
      | 1 => .escalated
      | 2 => .gangStop
      | _ => .also
    code := .ofNat 8 (w / 2 ^ 8), strand := if bitN w 2 = 1 then .x else .a, stands := bitN w 3 == 1 }

/-- What a task's marks say of its strands: the places of GBAR, of a handoff, of a missed stamp and of an outstanding
SCALL, the X-strand's word, kept operands, earlier pending commands. -/
def Marks.strandWords (m : Marks) : List Nat :=
  let h := m.handoff.getD (0, 0)
  [ m.gbar.isSome.toNat + m.handoff.isSome.toNat * 2 + h.1.toNat * 2 ^ 2 + m.missed.isSome.toNat * 2 ^ 4
      + m.scall.isSome.toNat * 2 ^ 5 + m.begun.length * 2 ^ 8 + m.xir.toNat * 2 ^ 32,
    (m.gbar.getD 0).toNat, h.2.toNat, (m.missed.getD 0).toNat, (m.scall.getD 0).toNat, m.cmds.length ] ++ m.begun.map (·.toNat)
    ++ m.cmds.map (·.toNat)

/-- A slot in use: half and GEN of its valid image, then the task, what holds it, its effects and its marks. -/
def slotWords (n : Nat) (r : SlotRec) : List Nat :=
  [ n + r.half.isSome.toNat * 2 ^ 16 + (r.half.getD false).toNat * 2 ^ 17 + r.popped.toNat * 2 ^ 18
      + r.hold.isSome.toNat * 2 ^ 19 + ((r.hold.map Hold.word).getD 0) * 2 ^ 32,
    r.gen.toNat,
    r.info.lrec.toNat + r.info.rank.toNat * 2 ^ 16 + r.info.stage.isSome.toNat * 2 ^ 24 + (r.info.stage.getD 0).toNat * 2 ^ 28
      + r.effs.length * 2 ^ 32,
    r.marks.regs.length + r.marks.lq.length * 2 ^ 16 + r.marks.spm.length * 2 ^ 32 + r.marks.errs.length * 2 ^ 48 ]
    ++ r.effs.flatMap LrEff.words
    ++ r.marks.regs.flatMap (fun x => [x.reg.toNat, x.line.toNat, x.pc.toNat])
    ++ r.marks.lq.flatMap (fun x => [x.1 + x.2.1 * 2 ^ 8, x.2.2.toNat])
    ++ r.marks.spm ++ r.marks.errs.map (·.toNat) ++ r.marks.strandWords
/-- Reads a slot. The task's fields are filled from its launch record at import. -/
def rdSlot : Rd (BitVec 10 × SlotRec) := fun l =>
  (rdN 4 l).bind fun r =>
    let w := wAt r.1 0
    let t := wAt r.1 2
    let k := wAt r.1 3
    (rdMany (rdN 2) (t / 2 ^ 32) r.2).bind fun e =>
    (rdMany (rdN 3) (fieldN k 0 16) e.2).bind fun g =>
    (rdMany (rdN 2) (fieldN k 16 16) g.2).bind fun q =>
    (rdN (fieldN k 32 16) q.2).bind fun m =>
    (rdN (fieldN k 48 16) m.2).bind fun z =>
    (rdN 6 z.2).bind fun y =>
    (rdN (fieldN (wAt y.1 0) 8 24) y.2).bind fun b =>
    (rdN (wAt y.1 5) b.2).map fun d =>
      let v := wAt y.1 0
      ((.ofNat 10 w,
        { half := if bitN w 16 = 1 then some (bitN w 17 == 1) else none, popped := bitN w 18 == 1
          hold := if bitN w 19 = 1 then some (Hold.ofWord (w / 2 ^ 32)) else none
          gen := .ofNat 64 (wAt r.1 1)
          info := { lrec := .ofNat 12 t, rank := .ofNat 8 (t / 2 ^ 16), slot := .ofNat 10 w
                    stage := if bitN t 24 = 1 then some (.ofNat 4 (t / 2 ^ 28)) else none }
          effs := e.1.map effOfWords
          marks := { regs := g.1.map fun x => { reg := .ofNat 6 (wAt x 0), line := .ofNat 64 (wAt x 1), pc := .ofNat 64 (wAt x 2) }
                     lq := q.1.map fun x => (wAt x 0 % 256, wAt x 0 / 256, .ofNat 64 (wAt x 1)), spm := m.1
                     errs := z.1.map (BitVec.ofNat 8)
                     gbar := if bitN v 0 = 1 then some (.ofNat 64 (wAt y.1 1)) else none
                     handoff := if bitN v 1 = 1 then some (.ofNat 2 (v / 4), .ofNat 64 (wAt y.1 2)) else none
                     missed := if bitN v 4 = 1 then some (.ofNat 64 (wAt y.1 3)) else none
                     scall := if bitN v 5 = 1 then some (.ofNat 64 (wAt y.1 4)) else none
                     begun := b.1.map (BitVec.ofNat 64), xir := .ofNat 32 (v / 2 ^ 32), cmds := d.1.map (BitVec.ofNat 64) } }), d.2)

/-! ### The block -/

/-- What a context is besides its memory (Table 18.10). -/
structure Export where
  ents : List (BitVec 2 × REnt) := []
  recs : List (BitVec 12 × LRec) := []
  queues : List (BitVec 16 × Queue) := []
  groups : List (BitVec 8 × Group) := []
  rows : List SigRow := []
  savebase : Word := 0
  slots : BitVec 16 := 0
  use : List (BitVec 10 × SlotRec) := []
  deriving DecidableEq, Repr

/-- A section: a 64-byte header with its kind and its length in bytes, then its content. -/
def section_ (kind : Nat) (l : List Nat) : List Nat := [kind, 8 * l.length, 0, 0, 0, 0, 0, 0] ++ l

/-- The block's words (DESIGN CHOICE, log 44). -/
def Export.words (P : Part) (x : Export) : List Nat :=
  section_ 1 (x.ents.flatMap fun e => entWords P e.1 e.2)
    ++ section_ 2 (x.recs.flatMap fun r => recWords r.1.toNat r.2)
    ++ section_ 3 (x.queues.flatMap fun q => queueEntWords q.1.toNat q.2)
    ++ section_ 4 (x.groups.flatMap fun g => groupWords g.1.toNat g.2)
    ++ section_ 5 (x.rows.flatMap SigRow.words)
    ++ section_ 6 ([x.slots.toNat, x.savebase.toNat] ++ x.use.flatMap fun u => slotWords u.1.toNat u.2)

/-- The content of the next section, which must be of the kind given. -/
def rdSection (kind : Nat) : Rd (List Nat) := fun l =>
  (rdN 8 l).bind fun r => if wAt r.1 0 = kind then rdN (wAt r.1 1 / 8) r.2 else none

/-- All values of a section. -/
def rdSec {α : Type} (kind : Nat) (f : Rd α) : Rd (List α) := fun l =>
  (rdSection kind l).bind fun r => (rdAll f r.1.length r.1).map fun q => (q, r.2)

/-- Reads a block of a context (DESIGN CHOICE, log 44). -/
def readExport (ctx : BitVec 16) (l : List Nat) : Option Export :=
  (rdSec 1 (rdEnt ctx) l).bind fun a =>
  (rdSec 2 rdRec a.2).bind fun b =>
  (rdSec 3 rdQueueEnt b.2).bind fun c =>
  (rdSec 4 rdGroup c.2).bind fun d =>
  (rdSec 5 (rdRow ctx) d.2).bind fun e =>
  (rdSection 6 e.2).bind fun f =>
  (rdN 2 f.1).bind fun g =>
  (rdAll rdSlot g.2.length g.2).map fun u =>
    { ents := a.1, recs := b.1, queues := c.1, groups := d.1, rows := e.1, slots := .ofNat 16 (wAt g.1 0)
      savebase := .ofNat 64 (wAt g.1 1), use := u }

/-- What partition P holds of a context. -/
def Part.exportOf (P : Part) (ctx : BitVec 16) : Export :=
  let x := P.ctx ctx
  let use := (x.use.filter fun u => u.2.used).map fun u => (BitVec.ofNat 10 u.1, u.2)
  { ents := (P.entries.filter fun q => q.2.2.ctx == ctx).map fun q => (q.1, q.2.2)
    recs := (P.recs.filter fun r => r.2.st != .unbuilt && r.2.ctx == ctx).map fun r => (.ofNat 12 r.1, r.2)
    queues := (P.queues.filter fun q => q.2.names ctx).map fun q => (.ofNat 16 q.1, q.2)
    groups := (P.groups.filter fun g => g.2.built && use.any fun u =>
      namesGroup u.2.info.cont.gvalid u.2.info.cont.gids (.ofNat 8 g.1)).map fun g => (.ofNat 8 g.1, g.2)
    rows := P.rows.filter (·.ctx == ctx)
    savebase := x.savebase, slots := x.slots, use := use }

end Sys2Proof.Machine
end

