-- ==== Sys2Proof/Machine/Move.lean ====
section
/-! DEFINITION. EVCMD: suspending, resuming, exporting and importing a context (R327-R329, R343, R386). -/
namespace Sys2Proof.Machine

/-- EVRES.RES values (Table 18.4). -/
def evDone : Nat := 0
def evRunning : Nat := 1
def evRefused : Nat := 2
def evBad : Nat := 3
def evSaveFail : Nat := 4
def evSpace : Nat := 5

/-- Sets an agent's EVRES. -/
def State.setEvres (s : State) (p : PartId) (a : Agent) (w : Word) : State :=
  s.modPart p fun P => { P with evres := Tbl.set P.evres (agentIx a) w }

/-- An agent's EVRES reads RUNNING. -/
def Part.evBusy (P : Part) (a : Agent) : Bool := bits (Tbl.get 0 P.evres (agentIx a)) 3 0 == evRunning

/-! ### SUSPEND and RESUME (R329) -/

/-- The context's multi-core entries give up the cores they have reserved (DEDUCED, log 48). -/
def Part.dropResv (P : Part) (ctx : BitVec 16) : Part :=
  { P with resv := P.resv.filter fun r => (P.lrec r.lrec).ctx != ctx }

/-- SUSPEND: records are held in place, and every task of the context on a core is pre-empted. -/
def State.suspend (s : State) (p : PartId) (ctx : BitVec 16) : State :=
  let s1 := (s.setCtxSt p ctx 2#8).modPart p (·.dropResv ctx)
  (allCores.filter fun c => s1.partOf c == p && (s1.core c).info.cont.ctx == ctx).foldl (fun t c => t.askSave c) s1

/-! ### EXPORT (R343) -/

/-- EVARG.SIZE in bytes. -/
def evSize (v : Word) : Nat := (if bits v 15 0 = 0 then 65536 else bits v 15 0) * 65536
/-- EVARG.BADDR as an address. -/
def evAddr (v : Word) : Nat := bits v 55 16 * 65536

/-- The queue-logic state of a context leaves the partition. -/
def State.removeContext (s : State) (p : PartId) (ctx : BitVec 16) (x : Export) : State :=
  let s1 := x.recs.foldl (fun t r => t.putRec p r.1 r.2.unbuilt) s
  s1.modPart p fun P => { P with
    rq := Tbl.mapVal (fun _ l => l.filter (·.ctx != ctx)) P.rq
    resv := P.resv.filter fun r => x.recs.all (·.1 != r.lrec)
    queues := P.queues.filter fun q => !q.2.names ctx
    rows := P.rows.filter (·.ctx != ctx)
    ctxs := Tbl.set P.ctxs ctx.toNat { P.ctx ctx with use := [] }
    sup := { P.sup with out := P.sup.out.filter (·.ctx != ctx) } }

/-- A queue's items have a backing store in the partition's own memory. -/
def Part.backed (P : Part) (b : Nat) (z : Queue) : Bool := z.items.isEmpty || P.ownsBytes b (z.items.length * z.esize)

/-- The block is written at BADDR and the queues' items to their backing stores, unless it lacks space, or a store lies
outside the partition's own memory (R356) (DEDUCED, log 46). -/
def State.exportBlock (s : State) (p : PartId) (r : EvRun) : State :=
  let s1 := s.modPart p fun P => { P with rows := P.rows.map fun w => if w.ctx == r.ctx then { w with loc := none } else w }
  let P := s1.part p
  let x := P.exportOf r.ctx
  let ws := x.words P
  if evSize r.arg < 8 * ws.length || !P.rangePinnable (evAddr r.arg) (8 * ws.length)
      || x.queues.any (fun q => !P.backed q.2.backing.toNat q.2) then s1.modPart p (·.evEnd r evSpace)
  else
    let s2 := x.queues.foldl (fun t q => t.ownPut p q.2.backing.toNat q.2.backBytes) s1
    let s3 := s2.physWrite (evAddr r.arg) (ws.flatMap (leBytes 8))
    ((s3.removeContext p r.ctx x).setCtxSt p r.ctx 3#8).modPart p (·.evEnd r evDone)

/-- EXPORT_BLOCK_WRITE (R343): once no task of the context is on a core and no save has failed (DEDUCED, log 46). -/
def execExportBlockWrite (s : State) : Out :=
  let p := s.ev.part
  .next (match (s.part p).evrun with
    | none => s
    | some r => if r.op = 3#3 && !s.onCore p r.ctx && !r.failed then s.exportBlock p r else s)

/-! ### IMPORT (R343) -/

/-- Where k sections end, the first at byte n of a block: each has a 64-byte header with its length (R343). -/
def State.sectionsEnd (s : State) (a : Nat) : Nat → Nat → Nat
  | 0, n => n
  | k + 1, n => s.sectionsEnd a k (n + 64 + s.mem.get (a + n + 8) 8)

/-- The block that EVARG names, in words, up to the end of its six sections; none if it is longer than SIZE or not
readable (DEDUCED, log 45). -/
def State.readBlockWords (s : State) (p : PartId) (arg : Word) : Option (List Nat) :=
  let a := evAddr arg
  let n := s.sectionsEnd a 6 0
  if evSize arg < n || n % 8 != 0 || !(s.part p).rangePinnable a n || s.poisonedIn a n then none
  else some ((List.range (n / 8)).map fun i => s.mem.get (a + 8 * i) 8)

/-- The group row that an exported record names as its gang's own. -/
def Export.gangIds (x : Export) : List (BitVec 8) := (x.recs.filter (·.2.kind == kGang)).map (·.2.gangId)

/-- The queue table gives an id for a queue of a kind: QKIND is that kind. A Rill's entry may also be free, for it is BUILD
that opens a pipeline's Rills (R311) (DEDUCED, log 45). -/
def QKind.given (k : QKind) (code : Nat) : Bool := code == k.code || (k == .rill && code == 0)

/-- Every group slot that a record names is a built row. -/
def Part.groupsGiven (P : Part) (r : LRec) : Bool :=
  [0, 1, 2, 3].all fun g => !r.gvalid.getLsbD g || (P.group (r.gids.extractLsb' (8 * g) 8)).built

/-- The block is one of the context: its records and queues name it, and its ready-queue entries and tasks are of its own
records; an effect of a task is on none of another context's (R8, R343) (DEDUCED, log 45). -/
def Export.isOf (x : Export) (ctx : BitVec 16) (P : Part) : Bool :=
  let own (i : BitVec 12) : Bool := x.recs.any (·.1 == i)
  x.recs.all (·.2.ctx == ctx) && x.queues.all (·.2.names ctx) && x.ents.all (fun e => own e.2.lrec)
    && x.use.all fun u => own u.2.info.lrec && u.2.effs.all fun e => (P.lrec e.ix).st == .unbuilt

/-- The ids that the importing partition must give: the context, records, queues and groups (R343) (DEDUCED, log 45). -/
def State.idsOk (s : State) (p : PartId) (ctx : BitVec 16) (x : Export) : Bool :=
  let P := s.part p
  x.isOf ctx P
  && (x.recs.isEmpty || P.rangePinnable P.lrpool.toNat 0x80000)
  && x.recs.all (fun r => (P.lrec r.1).st == .unbuilt && P.groupsGiven r.2)
  && x.queues.all (fun q => (P.queue q.1).isNone && q.2.kind.given (s.ownGet p (P.qentry q.1) 1))
  && x.groups.all fun g =>
    let G := P.group g.1
    G.built && G.kind == g.2.kind && (x.gangIds.contains g.1 || G.mask == g.2.mask)

/-- The context was created and has no task, record, row or open queue (Table 18.5). -/
def State.ctxEmpty (s : State) (p : PartId) (ctx : BitVec 16) : Bool :=
  ((s.part p).ctx ctx).st != 0#8 && !s.ctxInUse p ctx && (s.part p).rows.all (·.ctx != ctx)
    && (s.part p).entries.all (·.2.2.ctx != ctx)

/-- A launch record with its pipeline block, read again at PIPEP. -/
def State.importRec (s : State) (p : PartId) (r : LRec) : Option LRec :=
  if r.kind == kPipe then (s.readBlock p r.ctx r.pipep.toNat).map fun b => { r with pipe := b } else some r

/-- A queue with the items of its backing store: the store that the importing partition's table entry names, in its own
memory (DEDUCED, log 45). -/
def State.importQueue (s : State) (p : PartId) (q : BitVec 16) (z : Queue) : Option Queue :=
  let b := s.ownGet p ((s.part p).qentry q + 16) 8
  if (s.part p).backed b z then some { z.refill s.mem b with backing := .ofNat 64 b } else none

/-- A task as its launch record gives it, with the rank, stage and slot that the block has. -/
def taskOf (r : LRec) (i : BitVec 12) (t : TaskInfo) : TaskInfo :=
  match t.stage with
  | some n =>
    (match r.pipe.stages[n.toNat]? with
     | some e => r.stageInfo i n e t.slot
     | none => t)
  | none => { r.info i t.rank.toNat with slot := t.slot }

/-- A ready-queue entry joins its queue again, in the order of the block: resume records ahead of released ones (R338). -/
def Part.importEnt (P : Part) (e : BitVec 2 × REnt) : Part :=
  let e1 : REnt := match e.2.kind with
    | .task _ => { e.2 with kind := .task ((P.lrec e.2.lrec).info e.2.lrec 0) }
    | _ => e.2
  if P.standsAhead e1 then P.enqueueResume e.1 e1 else P.enqueue e.1 e1

/-- Writes a record's image into the pool and gives it to the queue logic. -/
def State.placeRec (s : State) (p : PartId) (i : BitVec 12) (r : LRec) : State :=
  (s.ownPut p ((s.part p).recAddr i) (r.image.readN 0 128)).putRec p i r

/-- Everything a block holds, on the importing partition. -/
def State.rebuildCtx (s : State) (p : PartId) (ctx : BitVec 16) (x : Export) (recs : List LRec) (qs : List Queue) : State :=
  let s1 := (x.recs.zip recs).foldl (fun t r => t.placeRec p r.1.1 r.2) s
  let s2 := s1.modPart p fun P =>
    let P1 := (x.queues.zip qs).foldl (fun P q => P.setQueue q.1.1 q.2) P
    let P2 := x.groups.foldl (fun P g =>
      { P with groups := Tbl.set P.groups g.1.toNat { P.group g.1 with
          phase := g.2.phase, arrivals := g.2.arrivals, split := g.2.split } }) P1
    let use := x.use.foldl (fun t u => Tbl.set t u.1.toNat
      { u.2 with info := taskOf (P2.lrec u.2.info.lrec) u.2.info.lrec u.2.info }) ([] : Tbl SlotRec)
    let P3 := { P2 with
      rows := P2.rows ++ x.rows
      ctxs := Tbl.set P2.ctxs ctx.toNat { P2.ctx ctx with use := use } }
    x.ents.foldl (fun P e => P.importEnt e) P3
  s2.setCtxSt p ctx 2#8

/-- IMPORT: the new state and RES (DEDUCED, log 45). -/
def State.importCtx (s : State) (p : PartId) (ctx : BitVec 16) (arg : Word) : State × Nat :=
  let P := s.part p
  if !s.ctxEmpty p ctx then (s, evRefused)
  else match (s.readBlockWords p arg).bind (readExport ctx) with
    | none => (s, evRefused)
    | some x =>
      if !s.idsOk p ctx x || (P.ctx ctx).slots < x.slots || (P.ctx ctx).savebase ≠ x.savebase then (s, evRefused)
      else match allSome (x.recs.map fun r => s.importRec p r.2), allSome (x.queues.map fun q => s.importQueue p q.1 q.2) with
        | some recs, some qs => (s.rebuildCtx p ctx x recs qs, evDone)
        | _, _ => (s, evRefused)

/-! ### A write of EVCMD (R328, R329, R375) -/

/-- Starts an agent's command: what ends at once sets EVRES; SUSPEND and EXPORT run on (DEDUCED, log 47). -/
def State.evStart (s : State) (p : PartId) (a : Agent) (v arg : Word) (clk : Nat) : State :=
  let ctx : BitVec 16 := v.setWidth 16
  let op := bits v 18 16
  let st := ((s.part p).ctx ctx).st
  let done (t : State) (res : Nat) : State := t.setEvres p a (evWord res 0 0)
  let run : EvRun := { op := .ofNat 3 op, ctx := ctx, agent := a, arg := arg, start := clk, last := clk }
  let begin_ (t : State) : State :=
    ((t.setEvres p a (evWord evRunning 0 0)).modPart p fun P => { P with evrun := some run }).evProgress p
  match op with
  | 1 => if st = 1#8 then begin_ (s.suspend p ctx) else done s evRefused
  | 2 => if st = 2#8 then done (s.setCtxSt p ctx 1#8) evDone else done s evRefused
  | 3 => if st = 1#8 then begin_ (s.suspend p ctx) else if st = 2#8 then begin_ s else done s evRefused
  | 4 =>
    let r := s.importCtx p ctx arg
    done r.1 r.2
  | _ => done s evBad

/-- A write of EVCMD by an agent: ignored while its RES reads RUNNING; behind another agent's command it waits its turn
(R375) (DEDUCED, log 47). -/
def State.evcmd (s : State) (p : PartId) (a : Agent) (v : Word) : State :=
  let P := s.part p
  if P.evBusy a then s
  else
    let s1 := s.modPart p fun P => { P with evcmd := .ofNat 64 (bits v 18 0) }
    if P.evrun.isSome || !P.evwait.isEmpty then
      (s1.setEvres p a (evWord evRunning 0 0)).modPart p fun P => { P with evwait := P.evwait ++ [(a, v, P.evarg, s.clk)] }
    else s1.evStart p a v P.evarg s.clk

/-- The next command that waits starts once none runs (DEDUCED, log 47). -/
def State.evNext (s : State) (p : PartId) : State :=
  match (s.part p).evrun, (s.part p).evwait with
  | none, (a, v, arg, n) :: l => (s.modPart p fun P => { P with evwait := l }).evStart p a v arg n
  | _, _ => s

/-- The EVCMD word of an operation on the context that an event names. -/
def evOp (op : Nat) (ctx : BitVec 16) : Word := .ofNat 64 (ctx.toNat + op * 2 ^ 16)

/-- EV_SUSPEND (R329). -/
def execEvSuspend (s : State) : Out :=
  .next (if s.mayCommand s.ev.part s.ev.agent then s.evcmd s.ev.part s.ev.agent (evOp 1 s.ev.ctx) else s)
/-- EV_RESUME (R329). -/
def execEvResume (s : State) : Out :=
  .next (if s.mayCommand s.ev.part s.ev.agent then s.evcmd s.ev.part s.ev.agent (evOp 2 s.ev.ctx) else s)
/-- EV_EXPORT (R329, R343). -/
def execEvExport (s : State) : Out :=
  .next (if s.mayCommand s.ev.part s.ev.agent then s.evcmd s.ev.part s.ev.agent (evOp 3 s.ev.ctx) else s)
/-- EV_IMPORT (R329, R343). -/
def execEvImport (s : State) : Out :=
  .next (if s.mayCommand s.ev.part s.ev.agent then s.evcmd s.ev.part s.ev.agent (evOp 4 s.ev.ctx) else s)

end Sys2Proof.Machine
end

