-- ==== Sys2Proof/Machine/Power.lean ====
section
/-! DEFINITION. The Breeze rings, cap levels and thermal limits (R217, R321-R323, R383), and loss of power (R344). -/
namespace Sys2Proof.Machine

/-! ### The ring of a die (R321) -/

/-- TSET of a partition: 0 and 9-15 act as 8 (Table 17.6). -/
def Part.tset (P : Part) : Nat :=
  let n := bits P.schcfg 35 32
  if n = 0 ∨ 8 < n then 8 else n

/-- T, the tokens of die d's ring: the setting of its partition less what a cap takes, at least 1 (R321, R323). A die
of no partition has 8. -/
def State.tokens (s : State) (d : BitVec 2) : Nat :=
  match allParts.find? fun p => (s.part p).hasDie d with
  | none => Nat.max 1 (8 - s.power.cut)
  | some p => Nat.max 1 ((s.part p).tset - s.power.cut)

/-- A core's ME has a nest in flight or accepted. -/
def Core.hasNest (k : Core) : Bool :=
  k.eng.me.cmds.any fun c => match c.op with
    | .go _ _ => true
    | _ => false

/-- Holders of a ring, ascending. -/
def Ring.holding (r : Ring) : List Nat := (List.range 8).filter fun n => r.holders.getLsbD n
/-- A cluster gives up its token. -/
def Ring.drop (r : Ring) (n : Nat) : Ring :=
  { holders := r.holders &&& ~~~(1#8 <<< n), last := .ofNat 3 n, held := Tbl.erase r.held n }
/-- A cluster receives a token. -/
def Ring.take (r : Ring) (n : Nat) : Ring := { r with holders := r.holders ||| (1#8 <<< n), held := Tbl.set r.held n 0 }

/-- Replaces a die's ring. -/
def State.setRing (s : State) (d : BitVec 2) (r : Ring) : State :=
  { s with power := { s.power with rings := Tbl.set s.power.rings d.toNat r } }

/-- A free token goes to the first waiting cluster after its last holder; with none free it waits or is withdrawn
(R321, R322) (DEDUCED, log 74). -/
def State.passFree (s : State) (d : BitVec 2) : State :=
  let r := s.ring d
  match s.waiting d with
  | [] => s
  | n :: _ => if r.holding.length < s.tokens d then s.setRing d (r.take n) else s

/-- BREEZE_TOKEN_PASS (R321): a holder without a nest gives up its token when another cluster waits; then a free token
passes. -/
def execBreezeTokenPass (s : State) : Out :=
  let d := dieOf s.ev.core
  let r := s.ring d
  .next (
    if (s.waiting d).isEmpty then s
    else
      let idle := r.holding.find? fun n => !(clusterCores d n).any fun c => (s.core c).hasNest
      match idle with
      | some n => (s.setRing d (r.drop n)).passFree d
      | none => s.passFree d)

/-- Withdraws the tokens of the holders furthest along in ring order until n remain (R322) (DEDUCED, log 74); `fuel`
bounds them. -/
def Ring.trim : Nat → Ring → Nat → Ring
  | 0, r, _ => r
  | fuel + 1, r, n =>
    if r.holding.length ≤ n then r
    else
      let far := ((List.range 8).map fun i => (r.last.toNat + 8 - i) % 8).find? fun k => r.holders.getLsbD k
      match far with
      | none => r
      | some k => Ring.trim fuel { r.drop k with last := r.last } n

/-- A lower T is needed at once: n tokens stay, the rest are withdrawn from the clusters furthest along, and every holder
is treated as past its 65,536 clk (R322). -/
def Ring.urgent (r : Ring) (n : Nat) : Ring :=
  let r1 := Ring.trim 8 r n
  { r1 with held := Tbl.mapVal (fun _ _ => 65536) r1.held }

/-- BREEZE_FORCED_PASS (R321): a holder that has held for 65,536 clk while another waits pauses its MEs, which stand
between tile steps, and its token passes or is withdrawn. `flag` says that T, however it was lowered, is needed within
2,048 clk: the ring comes down to it at once (R322) (DEDUCED, log 74). -/
def execBreezeForcedPass (s : State) : Out :=
  let d := dieOf s.ev.core
  let r := s.ring d
  .next (
    if s.ev.flag then (if s.tokens d < r.holding.length then s.setRing d (r.urgent (s.tokens d)) else s)
    else match s.waiting d, r.holding.find? fun n => decide (65536 ≤ Tbl.get 0 r.held n) with
    | _ :: _, some n => (s.setRing d (r.drop n)).passFree d
    | _, _ => s)

/-- clk pass: each holder's count rises while another cluster waits. -/
def State.holdRings (s : State) (n : Nat) : State :=
  [0#2, 1#2, 2#2, 3#2].foldl (fun t d =>
    let r := t.ring d
    if r.holding.isEmpty || (t.waiting d).isEmpty then t
    else t.setRing d { r with held := Tbl.mapVal (fun _ v => v + n) r.held }) s

/-! ### Cap levels (R323) -/

/-- Every ring is down to one token. -/
def State.allOne (s : State) : Bool := [0#2, 1#2, 2#2, 3#2].all fun d => s.tokens d == 1

/-- One step up (DEDUCED, log 75). -/
def State.capUp (s : State) : Power :=
  let w := s.power
  match w.cap.toNat with
  | 0 => { w with cap := 1 }
  | 1 => { w with cap := 2, cut := w.cut + 1 }
  | 2 => if s.allOne then { w with cap := 3, step := 1 } else { w with cut := w.cut + 1 }
  | _ => { w with step := if w.step < 12 then w.step + 1 else w.step }

/-- One step down, in the reverse order (DEDUCED, log 75). -/
def State.capDown (s : State) : Power :=
  let w := s.power
  match w.cap.toNat with
  | 0 => w
  | 1 => { w with cap := 0 }
  | 2 => if w.cut ≤ 1 then { w with cap := 1, cut := 0 } else { w with cut := w.cut - 1 }
  | _ => if w.step ≤ 1 then { w with cap := 2, step := 0 } else { w with step := w.step - 1 }

/-- At most one step per 65,536 clk (DEDUCED, log 75). -/
def State.capStep (s : State) (w : Power) : State :=
  if s.power.since < 65536 ∨ w = s.power then s else { s with power := { w with since := 0 } }

/-- CAP_LEVEL_RAISE (R322, R323). Tokens that it takes from a ring leave as they pass, or at once with an urgent
BREEZE_FORCED_PASS. -/
def execCapLevelRaise (s : State) : Out := .next (s.capStep s.capUp)
/-- CAP_LEVEL_LOWER (R322, R323). -/
def execCapLevelLower (s : State) : Out := .next (s.capStep s.capDown)

/-- THERMAL_CAP (R383): straight to level 3 at 600 MHz, with one token left on every ring (R322). -/
def execThermalCap (s : State) : Out :=
  .next { s with power := { s.power with
    cap := 3, step := 12, cut := 7, since := 0
    rings := Tbl.mapVal (fun _ r => r.urgent 1) s.power.rings } }

/-! ### Loss of power (R344, R383) -/

/-- What loss of power leaves: nothing runs until the next cold reset (DEDUCED, log 70). -/
def State.unpowered (s : State) : State :=
  { s with
    cores := [], parts := [], dieTlb := [], amorr := [], sl := {}, power := {}
    io := { powered := false, lasttie := s.io.lasttie } }

/-- LOSS_OF_POWER (R344). -/
def execLossOfPower (s : State) : Out := .next s.unpowered
/-- THERMAL_SHUTDOWN (R383): counts as loss of power. -/
def execThermalShutdown (s : State) : Out := .next s.unpowered

end Sys2Proof.Machine
end

