-- ==== Sys2Proof/Machine/Snap.lean ====
section
/-! DEFINITION. Snapshots (R291, R380). -/
namespace Sys2Proof.Machine

/-- Sources of a capture, as the model keeps them: bit 0 a host, 1 the pin, 2 SNAPT, 16 + k a ring record of code
0x20 + k; SNAPT's cause tag from bit 32 (log 11). -/
def srcHost : Word := 1#64
def srcPin : Word := 2#64
def srcInstr (tag : BitVec 16) : Word := .ofNat 64 (4 + tag.toNat * 2 ^ 32)
def srcFault (k : Nat) : Word := .ofNat 64 (2 ^ (16 + k))

/-- The cause word (R380): the OR of its sources, with SNAPT's cause tag (log 11). -/
def causeWord (cause : Word) : Word :=
  ((List.range 32).filter fun k => cause.getLsbD k).foldl (fun w k => w ||| freeCauseBit k)
    (if cause.getLsbD 2 then freeCauseTag (cause.extractLsb' 32 16) else 0)

/-- The window that a capture latches: the cause word, then the snapshot registers of every block (log 11). -/
def windowOf (n : Nat) (cause : Word) : List Byte := leBytes 8 (causeWord cause).toNat ++ freeSnapshot n

/-- A trigger (R380): triggers in one clk make one capture; a trigger while a capture is held counts in SNAPMISS. -/
def State.snapFire (s : State) (src : Word) : State :=
  let z := s.io.snap
  if z.lock && z.atClk == s.clk then
    { s with io := { s.io with snap := { z with
        cause := z.cause ||| src, window := leBytes 8 (causeWord (z.cause ||| src)).toNat ++ z.window.drop 8 } } }
  else if z.lock then { s with io := { s.io with snap := { z with miss := z.miss + 1 } } }
  else
    { s with
      freeCtr := s.freeCtr + 1
      io := { s.io with snap := { z with
        lock := true, id := z.id + 1, cause := src, atClk := s.clk, window := windowOf s.freeCtr src } } }

/-- What SNAPT writes to d: the capture's id, or 0 where it meets a held one (R291, R380). -/
def Snap.answer (z : Snap) (clk : Nat) : Word := if z.lock && z.atClk == clk then z.id else 0

/-- SNAP_FIRE (R380): a host's write of FIRE, where HOST is set; FAILED takes none (R378) (DEDUCED, log 69). -/
def execSnapFire (s : State) : Out := .next (if s.accepting && s.io.snap.host then s.snapFire srcHost else s)
/-- SNAP_LOCK_FREE (R380): a write of 1 to LOCK frees the window; not in FAILED (R378) (DEDUCED, log 69). -/
def execSnapLockFree (s : State) : Out :=
  .next (if s.accepting then { s with io := { s.io with snap := { s.io.snap with lock := false } } } else s)
/-- SNAP_PIN_EDGE (R380): a falling edge of SNAP_N, where PIN is set; not in FAILED (R378) (DEDUCED, log 69). -/
def execSnapPinEdge (s : State) : Out := .next (if s.accepting && s.io.snap.pin then s.snapFire srcPin else s)

end Sys2Proof.Machine
end

