-- ==== Sys2Proof/Machine/Ring.lean ====
section
/-! DEFINITION. The fault ring (R294-R296, R301-R303), supervisor events (R295, R306), and errors found at memory and in
on-chip memories (R116, R381, R382). -/
namespace Sys2Proof.Machine

/-! ### Writing records (R294, R296) -/

/-- Records in a full ring: SZLOG outside 8-16 acts as 8 (Table 16.4). -/
def Sup.ringSize (S : Sup) : Nat := if 8 ≤ S.szlog.toNat ∧ S.szlog.toNat ≤ 16 then 2 ^ S.szlog.toNat else 256

/-- The ring has room for n records (R294). -/
def Sup.room (S : Sup) (n : Nat) : Bool := decide ((S.frpi - S.frci).toNat + n ≤ S.ringSize)

/-- The ring lies in the partition's own pinned HBM (R345) (DEDUCED, log 93). -/
def Part.ringFits (P : Part) (S : Sup) : Bool := P.rangePinnable S.frbase.toNat (64 * S.ringSize)

/-- FRPI advances: an event to take, or PEND inside a handler (R295) (DEDUCED, log 62). -/
def Sup.advance (S : Sup) : Sup :=
  { S with frpi := S.frpi + 1, pend := S.pend || S.inev, arm := S.arm || (S.ee && !S.inev) }

/-- The record with its SEQ. -/
def RingRec.bytes (r : RingRec) (i : Word) : List Byte := leBytes 64 (r.body.toNat / 2 ^ 32 * 2 ^ 32 + i.toNat % 2 ^ 32)

/-- The task is held for these kinds: the record is outstanding until it is answered (R297, R301). -/
def RingRec.holds (r : RingRec) : Bool := decide (r.kind ≤ 2#8)

/-- Record i is written whole, then FRPI passes i (R294); its code may trigger a snapshot (R380). -/
def State.writeRec (s : State) (p : PartId) (r : RingRec) : State :=
  let S := (s.part p).sup
  let i := S.frpi
  let seq : W32 := i.setWidth 32
  let s1 := s.physWrite (S.frbase.toNat + 64 * (i.toNat % S.ringSize)) (r.bytes i)
  let s2 := s1.modPart p fun P =>
    let P1 := { P with sup := P.sup.advance }
    if r.holds then
      (if r.ctx = 0#16 then [] else r.slots).foldl (fun P n => P.modSlot r.ctx n fun u => { u with seq := some seq })
        { P1 with sup := { P1.sup with out := P1.sup.out ++ [{ seq := seq, kind := r.kind, ctx := r.ctx, slots := r.slots }] } }
    else P1
  let k := r.code.toNat - 0x20
  if 0x20 ≤ r.code.toNat ∧ k < 16 ∧ s.io.snap.faults.getLsbD k then s2.snapFire (srcFault k) else s2

/-- The first records of the queue that are written together: one, or a gang fault's (R296, R303). -/
def firstGroup : List RingRec → List RingRec × List RingRec
  | [] => ([], [])
  | r :: l => (r :: l.takeWhile (·.kind == 4#8), l.dropWhile (·.kind == 4#8))

/-- The core that a record names. -/
def RingRec.core (r : RingRec) : CoreId := r.body.extractLsb' 64 8

/-- No strand of a held core has an instruction left in the clk of the fault that holds it (R299) (DEDUCED, log 91). -/
def State.clkOver (s : State) (c : CoreId) : Bool :=
  ((s.core c).hold.map fun h => h.left.isEmpty || h.clk != s.clk).getD true

/-- Every core of a faulted task, or of a gang, has come to the boundary at which it stops: none has an instruction left in the clk of the
fault, and an atomic that one had begun has completed or has faulted (R33, R37, R303). -/
def State.gangStands (s : State) (ms : List CoreId) : Bool :=
  ms.all fun m => s.clkOver m && ((s.core m).hold.isNone || (s.core m).a.begun.isEmpty || (s.core m).aFaulted)

/-- The members that the GANG records after a record name, as they stand once the gang has stopped. -/
def State.gangOfRec (s : State) (p : PartId) (r : RingRec) : List CoreId := s.gangOn p (s.core r.core).info

/-- A gang fault's records name each member with the PC and state at which it stopped (R33, R303). -/
def State.settleGang (s : State) (p : PartId) : List RingRec → List RingRec
  | [] => []
  | r :: l =>
    let more := s.gangRecs r.body r.ctx r.code (s.gangOfRec p r)
    if more.length = l.length then r :: more else r :: l

/-- A fault record waits for the stop of its task's strands, or of every member of its gang: another fault of the same
clk may still change it (R299, R303) (DEDUCED, log 91). -/
def State.recSettled (s : State) (p : PartId) (g : List RingRec) : Bool :=
  (g.head?.map fun r => r.kind != 0#8 || s.gangStands (r.core :: if g.length ≤ 1 then [] else s.gangOfRec p r)).getD true

/-- Writes the records at the head of the queue once the ring has room for them and nothing can still change them; never
outside the partition (R356) (DEDUCED, log 93). -/
def State.writeHead (s : State) (p : PartId) : State :=
  let g := firstGroup (s.part p).sup.ring
  if g.1.isEmpty || !(s.part p).sup.room g.1.length || !(s.part p).ringFits (s.part p).sup then s
  else if !s.recSettled p g.1 then s
  else (s.settleGang p g.1).foldl (fun t r => t.writeRec p r) (s.modPart p fun P => { P with sup := { P.sup with ring := g.2 } })

/-- Writes the report at the head of a die's queue once the ring has room. -/
def State.writeReport (s : State) (p : PartId) (d : BitVec 2) : State :=
  match Tbl.get [] (s.part p).sup.reports d.toNat with
  | [] => s
  | r :: l =>
    if (s.part p).sup.room 1 && (s.part p).ringFits (s.part p).sup then
      (s.modPart p fun P => { P with sup := { P.sup with reports := Tbl.set P.sup.reports d.toNat l } }).writeRec p r
    else s

/-- FAULT_RECORD_WRITE (R294, R296, R303): `flag` picks the report queue of the event's die. -/
def execFaultRecordWrite (s : State) : Out :=
  let p := s.ev.part
  .next (if !(s.part p).up then s
    else if s.ev.flag then s.writeReport p (dieOf s.ev.core) else s.writeHead p)

/-! ### Supervisor events (R295, R306) -/

/-- A ring event waits and the supervisor core stands at a boundary; an atomic that has begun completes first (R37)
(DEDUCED, log 62). -/
def State.eventReady (s : State) (p : PartId) : Bool :=
  let P := s.part p
  P.up && !P.stopped && P.sup.arm && P.sup.ee && !P.sup.inev && (s.core P.score).isSup && (s.core P.score).a.begun.isEmpty

/-- SUPERVISOR_EVENT (R295): cause 0; SEPC is the PC of the first instruction not executed. -/
def execSupervisorEvent (s : State) : Out :=
  let p := s.ev.part
  .next (if s.eventReady p then s.takeEvent p 0 (s.core (s.part p).score).a.pc else s)

/-- SUPERVISOR_FAULT (R306): a fault of the supervisor core, with the event's code; an X-strand's waits for the end of an
atomic that the A-strand has begun (DEDUCED, log 16). -/
def execSupervisorFault (s : State) : Out :=
  let P := s.part s.ev.part
  .next (if P.up && !P.stopped && (s.core P.score).isSup && (s.ev.st == .a || (s.core P.score).a.begun.isEmpty) then
      s.supFault P.score (faultNum s.ev.code) ((s.core P.score).pcOf s.ev.st)
    else s)

/-! ### Errors (R116, R296, R381, R382) -/

/-- A line of physical memory becomes poisoned. -/
def State.poisonLine (s : State) (n : Nat) : State := { s with poison := insAsc s.poison n }

/-- A REPORT record waits in its die's queue of 64; a full queue discards it and sets LOST (R296)
(DEDUCED, log 64). -/
def Sup.report (S : Sup) (d : BitVec 2) (r : RingRec) : Sup :=
  let l := Tbl.get [] S.reports d.toNat
  if l.length < 64 then { S with reports := Tbl.set S.reports d.toNat (l ++ [r]) } else { S with lost := true }

/-- The REPORT record of an accepted store of core c (R301): no PC, no task held (DEDUCED, log 64). -/
def State.reportRec (s : State) (c : CoreId) (ctx : BitVec 16) (va : Word) : RingRec :=
  let t := (s.core c).info
  { kind := 3#8, code := faultNum .poison, ctx := ctx
    body := recBody 3 (faultNum .poison).toNat 0 (if t.cont.det then 16 else 0) c ctx t.lrec t.rank 0 0 0 (lineVa va) 0 0 }

/-- MEMORY_ERROR_REPORT (R116): the line of physical address `v` is poisoned, and the store of core `core` to virtual
address `va` is reported (DEDUCED, log 64). -/
def execMemoryErrorReport (s : State) : Out :=
  let c := s.ev.core
  .next ((s.poisonLine (s.ev.v.toNat / 128)).modPart (s.partOf c) fun P =>
    { P with sup := P.sup.report (dieOf c) (s.reportRec c s.ev.ctx s.ev.va) })

/-- ERRCNT (R382) (DEDUCED, log 65). -/
def State.countErr (s : State) (uncorrectable : Bool) : State :=
  if uncorrectable then { s with io := { s.io with erru := s.io.erru + 1 } }
  else { s with io := { s.io with errc := s.io.errc + 1 } }

/-- An error in the files, queues or accumulators of a core's task waits for its next boundary (R381)
(DEDUCED, log 65). -/
def State.archError (s : State) (c : CoreId) (code : BitVec 8) : State :=
  s.modCore c fun k => if k.occ == .idle then k else { k with errs := k.errs ++ [code] }

/-- The row of a key fails parity. -/
def spoilRow (ctx : BitVec 16) (tag : BitVec 10) (page : W32) (l : List SigRow) : List SigRow :=
  l.map fun r => if r.hasKey ctx tag page then { r with bad := true } else r

/-- An uncorrectable error in a structure (Table 21.6). The event's core, context, index and address say where. The even
slot of an FP32 pair stands for both halves: a step that reads either replays their one fill (R65, R382). One in a base
die's queue SRAM changes nothing, with MIRROR 0 too, where no other home holds the data (DESIGN CHOICE, log 72). -/
def State.uncorrectable (s : State) (c : CoreId) : Structure → State
  | .files => s.archError c 1
  | .accumulators => s.archError c 3
  | .scratchpad w => s.modCore c fun k => { k with spm := { k.spm with bad := insAsc k.spm.bad w.toNat } }
  | .operandSlot n => s.modCore c fun k =>
      let m := k.slotBase n
      if (k.slot n).ready then k.setSlot m { k.slot m with bad := true } else k
  | .signatureRow => s.modPart (s.partOf c) fun P =>
      { P with rows := spoilRow s.ev.ctx (s.ev.n.setWidth 10) (s.ev.va.setWidth 32) P.rows }
  | .cache => s.modCore c fun k => { k with tlb := k.tlb.filter fun e => !e.hits s.ev.ctx s.ev.va }
  | .dieTlb => { s with dieTlb := Tbl.mapVal (fun d l =>
      if d = (dieOf c).toNat then l.filter fun e => !e.hits s.ev.ctx s.ev.va else l) s.dieTlb }
  | .l2 n dirty => if dirty then s.poisonLine n.toNat else s
  | .hbm n => s.poisonLine n.toNat
  | .queueSram => s

/-- ON_CHIP_ERROR (R381): `flag` says that the error is not corrected (DEDUCED, log 65). -/
def execOnChipError (s : State) : Out :=
  let s1 := s.countErr s.ev.flag
  .next (if s.ev.flag then s1.uncorrectable s.ev.core s.ev.what else s1)

/-- SCRUB (R381): one line of HBM or L2 is checked; `n` is 0 for no error, 1 for one that is corrected. -/
def execScrub (s : State) : Out :=
  .next (match s.ev.n.toNat with
    | 0 => s
    | 1 => s.countErr false
    | _ => (s.countErr true).poisonLine (s.ev.v.toNat / 128))

/-- The value of INFO0 for a structure (R381). -/
def structFlt (code : BitVec 8) : Flt := { code := .poison, i0 := 0xFFFFFFFFFFFFFF00#64 + code.setWidth 64 }

/-- The error at the head has been reported (R381). -/
def Core.dropErr (k : Core) : Core :=
  { k with errs := k.errs.tail, hold := k.hold.map fun h => { h with err := k.errs.head? } }

/-- An error that waits faults POISON at the task's boundary, at the instruction there (R301, R381). -/
def State.takeErr (s : State) (c : CoreId) : State :=
  match (s.core c).errs with
  | [] => s
  | e :: _ => (s.peek c .a).faultOnce c (·.dropErr) (structFlt e)

end Sys2Proof.Machine
end

