-- ==== Sys2Proof/Machine/Clock.lean ====
section
/-! DEFINITION. The passing of clk (R5, R24, R170, R318, R319, R321, R323), and the default order of turns (log 3). -/
namespace Sys2Proof.Machine

/-! ### One core -/

/-- FC after k ticks; where it stands at a new frame length or beyond, the next tick makes it 0 (R319) (DESIGN CHOICE,
log 113). -/
def fcAfter (fc flen : Nat) (k : Nat) : Nat :=
  if flen = 0 then (fc + k) % 4096
  else if fc < flen then (fc + k) % flen
  else if k = 0 then fc
  else (k - 1) % flen

/-- Ticks until FC stands at a stamp, from its value `fc`; none where the stamp lies outside the frame (R319). -/
def ticksTo (fc flen st : Nat) : Option Nat :=
  if flen = 0 then some ((st + 4096 - fc) % 4096)
  else if fc = st then some 0
  else if flen ≤ st then none
  else if fc < flen then some ((st + flen - fc) % flen)
  else some (st + 1)

/-- The tick of its stamp passes over n clk while a core's A-strand waits in a stamped long form (R320). -/
def Core.missesTick (k : Core) (n : Nat) : Bool :=
  k.waitsStamped && ((ticksTo k.ctl.fc.toNat k.ctl.flen.toNat (Ext.ofWord k.a.ext).stamp.toNat).map fun j =>
    decide (j < (k.ctl.fcSub.toNat + n) / 16)).getD false

/-- CYCLE and FC over n clk on a core (Table 02.4, R319); a flag raised before is of an earlier clk (R51). -/
def Ctl.passClk (c : Ctl) (n : Nat) : Ctl :=
  let t := c.fcSub.toNat + n
  { c with
    recent := if n = 0 then c.recent else 0
    cycle := c.cycle + .ofNat 64 n
    fcSub := .ofNat 4 t
    fc := .ofNat 12 (fcAfter c.fc.toNat c.flen.toNat (t / 16)) }

/-- The wait counts for the watchdog: not one with a limit of its own, a call, or END's wait for its gang (R24, R173). -/
def Wait.counts (w : Wait) : Bool :=
  match w with
  | .qwait _ _ => false
  | .fwait _ _ _ => false
  | .twait _ _ => false
  | .gwait _ _ => false
  | .scall => false
  | .gang => false
  | _ => true

/-- The A-strand is stalled and the watchdog counts (R24). -/
def Core.dogA (k : Core) : Bool := (k.atEnd && !k.info.inGang) || (k.a.wait.map Wait.counts).getD false

/-- n clk on a core with a program. `live`: it is neither held nor being saved; `breeze`: its ME waits for a token. -/
def Core.passClk (k : Core) (n : Nat) (live breeze : Bool) : Core :=
  let dog := live && !breeze && k.occ == .task
  { k with
    ctl := k.ctl.passClk n
    a := { k.a with
      late := k.a.late || k.missesTick n
      waitClk := if live && k.a.wait.isSome then k.a.waitClk + n else k.a.waitClk
      dog := if dog && k.dogA then k.a.dog + n else k.a.dog }
    x := { k.x with dog := if dog && k.x.wait.isSome then k.x.dog + n else k.x.dog } }

/-- n clk on core c. -/
def State.coreClk (s : State) (n : Nat) (c : Nat) (k : Core) : Core :=
  let id : CoreId := .ofNat 8 c
  if k.occ == .idle || (s.part (s.partOf id)).stopped then k
  else k.passClk n (k.hold.isNone && k.save == .none) (s.nestReady id && !s.mayStep id)

/-! ### A partition and the package -/

/-- n clk of a partition: its interval counters, the ages of its entries and reservations (DEDUCED, log 54). -/
def Part.passClk (P : Part) (n : Nat) : Part :=
  if !P.up then P
  else { P with
    interval := P.interval + n
    pipes := Tbl.mapVal (fun _ x => { x with interval := x.interval + n }) P.pipes
    resv := P.resv.map fun r => { r with age := r.age + n }
    rq := Tbl.mapVal (fun _ l => l.map fun e =>
      if (P.ctx e.ctx).active then { e with waited := e.waited + n } else e) P.rq }

/-- n clk pass; then an EVCMD that waits may start. -/
def State.passClk (s : State) (n : Nat) : State :=
  let s1 := { s with
    cores := Tbl.mapVal (s.coreClk n) s.cores
    parts := Tbl.mapVal (fun _ P => P.passClk n) s.parts
    power := { s.power with since := s.power.since + n }
    clk := s.clk + n }
  allParts.foldl (fun t p => t.evNext p) (s1.holdRings n)

/-! ### The default order of turns (log 3) -/

/-- An event's turn on a core. -/
def coreTurn (i : Instr) (c : CoreId) : Turn := .event i { core := c }
/-- An event's turn with an index. -/
def ixTurn (i : Instr) (c : CoreId) (n : Nat) : Turn := .event i { core := c, n := .ofNat 16 n }

/-- The turns of a core with a program: its strands, then the steps of its engines and queues. -/
def Core.turns (k : Core) (c : CoreId) : List Turn :=
  [.strand c .a, .strand c .x]
    ++ k.a.pend.map (fun q => ixTurn .loadReturn c q.reg.toNat)
    ++ (if k.eng.me.cmds.isEmpty then [] else [coreTurn .meCommandStart c, coreTurn .breezeTokenPass c, coreTurn .breezeForcedPass c,
      coreTurn .meTileStep c])
    ++ k.eng.ce.flatMap (fun x => if x.2.held.isEmpty then [] else [ixTurn .ceChainStart c x.1, ixTurn .ceRecord c x.1])
    ++ (if k.eng.se.isEmpty then [] else [coreTurn .seCommandRun c])
    ++ k.eng.gs.flatMap (fun g => (List.range 128).map fun i =>
        .event .gatherScatterLane { core := c, n := .ofNat 16 g.1, lane := .ofNat 7 i })
    ++ k.eng.win.flatMap (fun w => (List.range 64).map fun i =>
        .event .filterResult { core := c, n := .ofNat 16 w.1, lane := .ofNat 7 i })
    ++ (if k.atEnd then [coreTurn .endCommit c, coreTurn .gangCommit c] else [])
    ++ (if k.absent.isEmpty then [] else [coreTurn .backgroundFill c])
    ++ (if k.save == .none then [] else [coreTurn .preemptStop c, coreTurn .saveImageWrite c])
    ++ (match k.a.wait with
        | some (.qwait _ _) => [coreTurn .qtimeout c]
        | some (.fwait _ _ _) => [coreTurn .fwaitTimeout c]
        | some (.twait _ _) => [coreTurn .twaitTimeout c]
        | some (.gwait _ _) => [coreTurn .gwaitTimeout c]
        | some .stamp => [coreTurn .stampOverrun c]
        | _ => [])
    ++ [coreTurn .taskTimeout c, .event .taskTimeout { core := c, st := .x }]

/-- The turns of a partition: its fault ring, its page-ins, its ready queues, its Weir. -/
def State.partTurns (s : State) (p : PartId) : List Turn :=
  let P := s.part p
  if !P.up then []
  else
    let ev (i : Instr) : Turn := .event i { part := p }
    let idle := allCores.filter fun c => P.isTaskCore c && (s.core c).occ == .idle
    (if P.sup.ring.isEmpty then [] else [ev .faultRecordWrite])
      ++ (if P.sup.arm then [ev .supervisorEvent] else [])
      ++ P.tierReqs.map (fun r => .event .tierPageIn { part := p, ctx := r.ctx, va := r.va })
      ++ (if P.rq.all (fun q => q.2.isEmpty) then []
          else ev .gangStart :: idle.flatMap fun c => [coreTurn .taskDispatch c, coreTurn .taskRestore c])
      ++ (if P.pipes.isEmpty then [] else idle.map (coreTurn .stageTaskStart))
      ++ (if P.evrun.isSome then [ev .exportBlockWrite] else [])
      ++ [ev .weirInterval]

/-- The Sluice's turns. -/
def State.sluiceTurns (s : State) : List Turn :=
  (if s.sl.inbox.isEmpty then [] else [.event .requestReceive {}])
    ++ s.sl.reqs.flatMap (fun r =>
      [.event .acceptReply {}, .event .admission { part := r.part, ctx := r.ctx },
       .event .outputEntryPop { part := r.part, ctx := r.ctx, slot := r.slot }])
    ++ (if s.sl.relq.isEmpty then [] else [.event .relqPush {}])

/-- The turns of one round when the agenda is empty: every core, every partition, the returns, the Sluice, one clk. A
turn whose step cannot happen changes nothing (DESIGN CHOICE, log 3). -/
def State.round (s : State) : List Turn :=
  (s.cores.flatMap fun kv => if kv.2.occ == .idle then [] else kv.2.turns (.ofNat 8 kv.1))
    ++ s.amorr.map (fun _ => .event .amorrReturn {})
    ++ allParts.flatMap s.partTurns ++ s.sluiceTurns ++ [.clk 1]

end Sys2Proof.Machine
end

