-- ==== Sys2Proof/Machine/Alu.lean ====
section
/-! DEFINITION. Integer arithmetic and immediates of the A-strand (R141-R143). -/
namespace Sys2Proof.Machine

/-- 1 or 0. -/
def bitW (c : Bool) : Word := if c then 1 else 0
/-- The shift count s[b][5:0] (R141). -/
def shCount (y : Word) : Nat := y.toNat % 64
/-- DIVU (Table 07.1). -/
def divuW (x y : Word) : Word := if y = 0 then BitVec.allOnes 64 else x / y
/-- REMU (Table 07.1). -/
def remuW (x y : Word) : Word := if y = 0 then x else x % y
/-- Bits [127:64] of the signed product. -/
def mulhW (x y : Word) : Word := .ofInt 64 (x.toInt * y.toInt / 2 ^ 64)
/-- Bits [127:64] of the unsigned product. -/
def mulhuW (x y : Word) : Word := .ofNat 64 (x.toNat * y.toNat / 2 ^ 64)
/-- Number of leading zeros, 0-64. -/
def clzW (x : Word) : Word := if x = 0 then 64 else .ofNat 64 (63 - Nat.log2 x.toNat)
/-- The index of the lowest set bit below n, or n. -/
def ctzFrom (x : Word) : Nat → Nat → Nat
  | 0, i => i
  | k + 1, i => if x.getLsbD i then i else ctzFrom x k (i + 1)
/-- Number of trailing zeros, 0-64. -/
def ctzW (x : Word) : Word := .ofNat 64 (ctzFrom x 64 0)
/-- Number of set bits among the lowest n. -/
def popFrom (x : Word) : Nat → Nat
  | 0 => 0
  | k + 1 => popFrom x k + (x.getLsbD k).toNat
/-- Number of set bits. -/
def popcW (x : Word) : Word := .ofNat 64 (popFrom x 64)

/-- The field position of R142. -/
def bfPos (y : Word) : Nat := bits y 5 0
/-- The field width of R142. -/
def bfWidth (y : Word) : Nat :=
  let w := bits y 13 8
  Nat.min (if w = 0 then 64 else w) (64 - bfPos y)
/-- The field, zero-extended. -/
def bfxuW (x y : Word) : Word := .ofNat 64 (x.toNat / 2 ^ bfPos y % 2 ^ bfWidth y)
/-- The field, sign-extended from bit w - 1: moved to the top, then down again. -/
def bfxW (x y : Word) : Word := (x <<< (64 - bfPos y - bfWidth y)).sshiftRight (64 - bfWidth y)
/-- z with bits [pos+w-1:pos] replaced by x[w-1:0]. -/
def bfiW (x y z : Word) : Word :=
  let m : Word := .ofNat 64 ((2 ^ bfWidth y - 1) * 2 ^ bfPos y)
  (z &&& ~~~m) ||| ((x <<< bfPos y) &&& m)

/-- ADD (R141). -/
def execAdd (d a b : Reg) (e : Bool) (s : State) : Out := issueA s (alu2 s d a b e fun x y => x + y)
/-- SUB (R141). -/
def execSub (d a b : Reg) (e : Bool) (s : State) : Out := issueA s (alu2 s d a b e fun x y => x - y)
/-- MUL (R141). -/
def execMul (d a b : Reg) (e : Bool) (s : State) : Out := issueA s (alu2 s d a b e fun x y => x * y)
/-- MULH (R141). -/
def execMulh (d a b : Reg) (e : Bool) (s : State) : Out := issueA s (alu2 s d a b e fun x y => mulhW x y)
/-- MULHU (R141). -/
def execMulhu (d a b : Reg) (e : Bool) (s : State) : Out := issueA s (alu2 s d a b e fun x y => mulhuW x y)
/-- DIVU (R141). -/
def execDivu (d a b : Reg) (e : Bool) (s : State) : Out := issueA s (alu2 s d a b e fun x y => divuW x y)
/-- REMU (R141). -/
def execRemu (d a b : Reg) (e : Bool) (s : State) : Out := issueA s (alu2 s d a b e fun x y => remuW x y)
/-- AND (R141). -/
def execAnd (d a b : Reg) (e : Bool) (s : State) : Out := issueA s (alu2 s d a b e fun x y => x &&& y)
/-- OR (R141). -/
def execOr (d a b : Reg) (e : Bool) (s : State) : Out := issueA s (alu2 s d a b e fun x y => x ||| y)
/-- XOR (R141). -/
def execXor (d a b : Reg) (e : Bool) (s : State) : Out := issueA s (alu2 s d a b e fun x y => x ^^^ y)
/-- ANDN (R141). -/
def execAndn (d a b : Reg) (e : Bool) (s : State) : Out := issueA s (alu2 s d a b e fun x y => x &&& ~~~y)
/-- ORN (R141). -/
def execOrn (d a b : Reg) (e : Bool) (s : State) : Out := issueA s (alu2 s d a b e fun x y => x ||| ~~~y)
/-- SHL (R141). -/
def execShl (d a b : Reg) (e : Bool) (s : State) : Out := issueA s (alu2 s d a b e fun x y => x <<< shCount y)
/-- SHR (R141). -/
def execShr (d a b : Reg) (e : Bool) (s : State) : Out := issueA s (alu2 s d a b e fun x y => x >>> shCount y)
/-- SAR (R141). -/
def execSar (d a b : Reg) (e : Bool) (s : State) : Out := issueA s (alu2 s d a b e fun x y => x.sshiftRight (shCount y))
/-- ROTR (R141). -/
def execRotr (d a b : Reg) (e : Bool) (s : State) : Out := issueA s (alu2 s d a b e fun x y => x.rotateRight (shCount y))
/-- MIN (R141). -/
def execMin (d a b : Reg) (e : Bool) (s : State) : Out := issueA s (alu2 s d a b e fun x y => if y.slt x then y else x)
/-- MAX (R141). -/
def execMax (d a b : Reg) (e : Bool) (s : State) : Out := issueA s (alu2 s d a b e fun x y => if x.slt y then y else x)
/-- MINU (R141). -/
def execMinu (d a b : Reg) (e : Bool) (s : State) : Out := issueA s (alu2 s d a b e fun x y => if y < x then y else x)
/-- MAXU (R141). -/
def execMaxu (d a b : Reg) (e : Bool) (s : State) : Out := issueA s (alu2 s d a b e fun x y => if x < y then y else x)
/-- SLT (R141). -/
def execSlt (d a b : Reg) (e : Bool) (s : State) : Out := issueA s (alu2 s d a b e fun x y => bitW (x.slt y))
/-- SLTU (R141). -/
def execSltu (d a b : Reg) (e : Bool) (s : State) : Out := issueA s (alu2 s d a b e fun x y => bitW (decide (x < y)))
/-- SEQ (R141). -/
def execSeq (d a b : Reg) (e : Bool) (s : State) : Out := issueA s (alu2 s d a b e fun x y => bitW (x == y))
/-- SNE (R141). -/
def execSne (d a b : Reg) (e : Bool) (s : State) : Out := issueA s (alu2 s d a b e fun x y => bitW (x != y))
/-- BFX (R142). -/
def execBfx (d a b : Reg) (e : Bool) (s : State) : Out := issueA s (alu2 s d a b e fun x y => bfxW x y)
/-- BFXU (R142). -/
def execBfxu (d a b : Reg) (e : Bool) (s : State) : Out := issueA s (alu2 s d a b e fun x y => bfxuW x y)
/-- CLZ (R141). -/
def execClz (d a : Reg) (e : Bool) (s : State) : Out := issueA s (alu1 s d a e clzW)
/-- CTZ (R141). -/
def execCtz (d a : Reg) (e : Bool) (s : State) : Out := issueA s (alu1 s d a e ctzW)
/-- POPC (R141). -/
def execPopc (d a : Reg) (e : Bool) (s : State) : Out := issueA s (alu1 s d a e popcW)
/-- BFI (R142). -/
def execBfi (d a b : Reg) (e : Bool) (s : State) : Out := issueA s (alu3 s d a b e bfiW)
/-- SELNZ (Table 07.1). -/
def execSelnz (d a b : Reg) (e : Bool) (s : State) : Out :=
  issueA s (alu3 s d a b e fun x y z => if z ≠ 0 then x else y)

/-- ADDI (R143). -/
def execAddi (d a : Reg) (i : BitVec 13) (s : State) : Out := issueA s (alu1 s d a false fun x => x + sextW i)
/-- ANDI (R143). -/
def execAndi (d a : Reg) (i : BitVec 13) (s : State) : Out := issueA s (alu1 s d a false fun x => x &&& i.setWidth 64)
/-- ORI (R143). -/
def execOri (d a : Reg) (i : BitVec 13) (s : State) : Out := issueA s (alu1 s d a false fun x => x ||| i.setWidth 64)
/-- XORI (R143). -/
def execXori (d a : Reg) (i : BitVec 13) (s : State) : Out := issueA s (alu1 s d a false fun x => x ^^^ i.setWidth 64)
/-- SLTI (R143). -/
def execSlti (d a : Reg) (i : BitVec 13) (s : State) : Out := issueA s (alu1 s d a false fun x => bitW (x.slt (sextW i)))
/-- SHLI (R143). -/
def execShli (d a : Reg) (c : BitVec 6) (s : State) : Out := issueA s (alu1 s d a false fun x => x <<< c.toNat)
/-- SHRI (R143). -/
def execShri (d a : Reg) (c : BitVec 6) (s : State) : Out := issueA s (alu1 s d a false fun x => x >>> c.toNat)
/-- SARI (R143). -/
def execSari (d a : Reg) (c : BitVec 6) (s : State) : Out := issueA s (alu1 s d a false fun x => x.sshiftRight c.toNat)
/-- LIH (R143). -/
def execLih (d : Reg) (i : BitVec 19) (s : State) : Out := issueA s (alu0 s d (sextW i <<< 13))

end Sys2Proof.Machine
end

