-- ==== Sys2Proof/Machine/Branch.lean ====
section
/-! DEFINITION. Branches and jumps of the A-strand (R144-R146). -/
namespace Sys2Proof.Machine

/-- PC + sext(off) x 4 (R144). -/
def target {n : Nat} (pc : Word) (o : BitVec n) : Word := pc + sextW o * 4

/-- A conditional branch: no E bit, so an empty register waits (R144). -/
def branch (s : State) (a b : Reg) (o : BitVec 13) (f : Word → Word → Bool) : Eff :=
  with2 s a b false fun x y s1 => if f x y then .jump s1 (target s.here.a.pc o) else .ok s1

/-- BEQ (R144). -/
def execBeq (a b : Reg) (o : BitVec 13) (s : State) : Out := issueA s (branch s a b o fun x y => x == y)
/-- BNE (R144). -/
def execBne (a b : Reg) (o : BitVec 13) (s : State) : Out := issueA s (branch s a b o fun x y => x != y)
/-- BLT (R144). -/
def execBlt (a b : Reg) (o : BitVec 13) (s : State) : Out := issueA s (branch s a b o fun x y => x.slt y)
/-- BGE (R144). -/
def execBge (a b : Reg) (o : BitVec 13) (s : State) : Out := issueA s (branch s a b o fun x y => !x.slt y)
/-- BLTU (R144). -/
def execBltu (a b : Reg) (o : BitVec 13) (s : State) : Out := issueA s (branch s a b o fun x y => decide (x < y))
/-- BGEU (R144). -/
def execBgeu (a b : Reg) (o : BitVec 13) (s : State) : Out := issueA s (branch s a b o fun x y => decide (y ≤ x))

/-- JAL (R145). -/
def execJal (d : Reg) (o : BitVec 19) (s : State) : Out :=
  issueA s (s.gate false [] [d] (s.wr d (s.here.a.pc + 4) fun s1 => .jump s1 (target s.here.a.pc o)))

/-- The target of JALR (R145). -/
def jalrTarget (x : Word) (i : BitVec 13) : Word := x + sextW i * 4

/-- JALR: s[a] is read before d is written; a misaligned target faults ALIGN here (R145). -/
def execJalr (d a : Reg) (i : BitVec 13) (s : State) : Out :=
  issueA s (s.gate false [a] [d] (s.rd a fun x s1 =>
    let t := jalrTarget x i
    if bits t 1 0 ≠ 0 then .fault (addrFlt .align t .fetch false)
    else s1.wr d (s.here.a.pc + 4) fun s2 => .jump s2 t))

/-- LOOP (R146): d is read and written (DEDUCED, log 25). -/
def execLoop (d : Reg) (o : BitVec 13) (s : State) : Out :=
  issueA s (s.gate false [d] [d] (s.rd d fun x s1 => s1.wr d (x - 1) fun s2 =>
    if x - 1 ≠ 0 then .jump s2 (target s.here.a.pc o) else .ok s2))

end Sys2Proof.Machine
end

