-- ==== Sys2Proof/Machine/Vocab.lean ====
section
/-! DEFINITION. Vocabulary images (R364, Table 20.4): loading one, and tokenising. -/
namespace Sys2Proof.Machine

/-! ### Loading (R364) -/

/-- Tables of an image at a physical address. -/
structure VocabAt where
  base : Nat
  ntok : Nat
  nmerge : Nat
  nspec : Nat
  byteId : Nat
  cls : Nat
  split : Nat
  merges : Nat
  str : Nat
  spec : Nat
  deriving DecidableEq, Repr

/-- The header of an image. -/
def State.vocabHeader (s : State) (a : Nat) : VocabAt :=
  let m (o n : Nat) : Nat := s.mem.get (a + o) n
  { base := a, ntok := m 0 4, nmerge := m 4 4, nspec := m 8 2, byteId := m 16 8, cls := m 24 8, split := m 32 8
    merges := m 40 8, str := m 48 8, spec := m 56 8 }

/-- A range of bytes of an image lies in HBM and is not poisoned. -/
def State.imageRange (s : State) (a n : Nat) : Bool :=
  n == 0 || (inHbm a && inHbm (a + n - 1) && !s.poisonedIn a n)

/-- The header's counts are in range and its tables can be read. -/
def State.vocabHeaderOk (s : State) (v : VocabAt) : Bool :=
  s.imageRange v.base 64 && decide (1 ≤ v.ntok) && decide (v.ntok ≤ 262144) && decide (v.nmerge ≤ 262143)
    && decide (v.nspec ≤ 1024) && s.mem.get (v.base + 10) 6 == 0
    && s.imageRange (v.base + v.byteId) 1024 && s.imageRange (v.base + v.cls) 256 && s.imageRange (v.base + v.split) 32
    && s.imageRange (v.base + v.merges) (12 * v.nmerge) && s.imageRange (v.base + v.str) (8 * v.ntok)
    && s.imageRange (v.base + v.spec) (8 * v.nspec)

/-- A string of an image: none when its length is out of range or it cannot be read. -/
def State.vocabString (s : State) (v : VocabAt) (off len max : Nat) : Option (List Byte) :=
  if 1 ≤ len ∧ len ≤ max ∧ s.imageRange (v.base + off) len then some (s.mem.readN (v.base + off) len) else none

/-- All of a list of options. -/
def allOf {α : Type} : List (Option α) → Option (List α)
  | [] => some []
  | none :: _ => none
  | some x :: l => (allOf l).map (x :: ·)

/-- No two elements are equal under a key. -/
def distinctBy {α β : Type} [DecidableEq β] (key : α → β) : List α → Bool
  | [] => true
  | x :: l => l.all (fun y => key y != key x) && distinctBy key l

/-- The image's content satisfies R364's checks. -/
def Vocab.ok (v : Vocab) (ntok : Nat) : Bool :=
  v.byteId.all (fun i => decide (i < ntok)) && v.cls.all (fun c => decide (c < 16))
    && v.merges.all (fun q => decide (q.1 < ntok) && decide (q.2.1 < ntok) && decide (q.2.2 < ntok)
      && v.strs.getD q.2.2 [] == v.strs.getD q.1 [] ++ v.strs.getD q.2.1 [])
    && v.specs.all (fun q => decide (q.2 < ntok))
    && distinctBy (fun q => (q.1, q.2.1)) v.merges && distinctBy (·.1) v.specs

/-- Reads an image; none where VLOAD refuses it. -/
def State.readVocab (s : State) (a : Nat) : Option Vocab :=
  let h := s.vocabHeader a
  if !s.vocabHeaderOk h then none
  else
    let g (o n : Nat) : Nat := s.mem.get (a + o) n
    let strs := allOf ((List.range h.ntok).map fun i =>
      if g (h.str + 8 * i + 6) 2 = 0 then s.vocabString h (g (h.str + 8 * i) 4) (g (h.str + 8 * i + 4) 2) 256 else none)
    let specs := allOf ((List.range h.nspec).map fun i =>
      (s.vocabString h (g (h.spec + 8 * i) 4) (g (h.spec + 8 * i + 7) 1) 255).map fun b => (b, g (h.spec + 8 * i + 4) 3))
    match strs, specs with
    | some st, some sp =>
      let v : Vocab :=
        { byteId := (List.range 256).map fun i => g (h.byteId + 4 * i) 4
          cls := (List.range 256).map fun i => g (h.cls + i) 1
          split := (List.range 16).map fun i => g (h.split + 2 * i) 2
          merges := (List.range h.nmerge).map fun q =>
            (g (h.merges + 12 * q) 4, g (h.merges + 12 * q + 4) 4, g (h.merges + 12 * q + 8) 4)
          strs := st, specs := sp }
      if v.ok h.ntok then some v else none
    | _, _ => none

/-! ### Tokenising (R364) -/

/-- The list begins with p. -/
def startsWith (p : List Byte) (l : List Byte) : Bool := l.take p.length == p

/-- The longest special string at the head of a text. -/
def Vocab.special (v : Vocab) (l : List Byte) : Option (List Byte × Nat) :=
  (v.specs.filter fun q => startsWith q.1 l).foldl (fun b q => match b with
    | none => some q
    | some c => if c.1.length < q.1.length then some q else some c) none

/-- SPLIT between a byte and the byte that follows it. -/
def Vocab.cuts (v : Vocab) (a b : Byte) : Bool :=
  (v.split.getD (v.cls.getD a.toNat 0) 0).testBit (v.cls.getD b.toNat 0)

/-- The pieces of a segment, each reversed while it grows: `cur` is the piece so far, last byte first. -/
def Vocab.cutFrom (v : Vocab) : List Byte → List Byte → List (List Byte)
  | cur, [] => if cur.isEmpty then [] else [cur.reverse]
  | [], b :: l => v.cutFrom [b] l
  | a :: cur, b :: l => if v.cuts a b then (a :: cur).reverse :: v.cutFrom [b] l else v.cutFrom (b :: a :: cur) l

/-- The lowest rank that merges a pair. -/
def Vocab.rank (v : Vocab) (a b : Nat) : Option Nat := v.merges.findIdx? fun q => q.1 == a && q.2.1 == b

/-- The lowest rank over the adjacent pairs of a list. -/
def Vocab.bestRank (v : Vocab) : List Nat → Option Nat
  | [] => none
  | [_] => none
  | a :: b :: l =>
    match v.rank a b, v.bestRank (b :: l) with
    | some q, some r => some (Nat.min q r)
    | some q, none => some q
    | none, r => r

/-- Replaces the leftmost pair of rank q. -/
def Vocab.mergeAt (v : Vocab) (q : Nat) : List Nat → List Nat
  | a :: b :: l =>
    if v.rank a b = some q then ((v.merges[q]?.map (·.2.2)).getD 0) :: l else a :: v.mergeAt q (b :: l)
  | l => l

/-- Merges until no pair has a merge; `fuel` bounds the merges, each of which shortens the list. -/
def Vocab.mergeAll (v : Vocab) : Nat → List Nat → List Nat
  | 0, t => t
  | fuel + 1, t =>
    match v.bestRank t with
    | none => t
    | some q => v.mergeAll fuel (v.mergeAt q t)

/-- The token ids of a piece. -/
def Vocab.mergePiece (v : Vocab) (p : List Byte) : List Nat :=
  v.mergeAll p.length (p.map fun b => v.byteId.getD b.toNat 0)

/-- The token ids of a segment, which is kept last byte first. -/
def Vocab.flush (v : Vocab) (seg : List Byte) : List Nat := (v.cutFrom [] seg.reverse).flatMap v.mergePiece

/-- Tokenise; `fuel` is the length of the text. -/
def Vocab.tokens (v : Vocab) : Nat → List Byte → List Byte → List Nat
  | 0, seg, _ => v.flush seg
  | _ + 1, seg, [] => v.flush seg
  | fuel + 1, seg, b :: l =>
    match v.special (b :: l) with
    | some q => v.flush seg ++ q.2 :: v.tokens fuel [] ((b :: l).drop q.1.length)
    | none => v.tokens fuel (b :: seg) l

/-- The token ids of a text. -/
def Vocab.tokenise (v : Vocab) (text : List Byte) : List Nat := v.tokens text.length [] text

end Sys2Proof.Machine
end

