-- ==== Sys2Proof/Machine/Sluice.lean ====
section
/-! DEFINITION. The Sluice's registers and commands (R358, R372), requests up to acceptance (R359-R365), admission (R366,
R367), and RELQ (R370). -/
namespace Sys2Proof.Machine

/-! ### A context's memory, as the Sluice reaches it -/

/-- The physical address of a byte of a context; none where it does not translate with the permission (R148). -/
def State.slPa (s : State) (p : PartId) (ctx : BitVec 16) (acc : Acc) (va : Nat) : Option Nat :=
  let a : Word := .ofNat 64 va
  if 2 ^ 56 ≤ va then none
  else match s.walk (s.part p) ctx a with
    | .error _ => none
    | .ok l => if (permFault ctx acc l.pte).isSome then none else some (leafPa l.pte l.big a)

/-- Reads bytes of a context; none where they do not translate or are poisoned. -/
def State.slRead (s : State) (p : PartId) (ctx : BitVec 16) (va n : Nat) : Option (List Byte) :=
  (pieces (n / 65536 + 2) va n).foldr (fun q o => o.bind fun l =>
    match s.slPa p ctx .read q.1 with
    | none => none
    | some pa => if s.poisonedIn pa q.2 then none else some (s.physRead pa q.2 ++ l)) (some [])

/-- Writes bytes of a context; none where they do not translate or their device is gone (R379). -/
def State.slWrite (s : State) (p : PartId) (ctx : BitVec 16) (va : Nat) (bs : List Byte) : Option State :=
  (pieces (bs.length / 65536 + 2) va bs.length).foldl (fun o q => o.bind fun t =>
    (t.slPa p ctx .write q.1).bind fun pa =>
      if t.linkDown pa q.2 then none else some (t.physWrite pa ((bs.drop (q.1 - va)).take q.2))) (some s)

/-- The value of n bytes of a context. -/
def State.slGet (s : State) (p : PartId) (ctx : BitVec 16) (va n : Nat) : Option Nat := (s.slRead p ctx va n).map leNat

/-- A range of a context lies in pinned HBM that may be written. -/
def State.slPinned (s : State) (p : PartId) (ctx : BitVec 16) (va n : Nat) : Bool :=
  (pieces (n / 65536 + 2) va n).all fun q =>
    decide (q.1 < 2 ^ 56) && (match s.walk (s.part p) ctx (.ofNat 64 q.1) with
      | .error _ => false
      | .ok l => pteTier l.pte == 0 && ptePin l.pte && (permFault ctx .write l.pte).isNone)

/-! ### A context's entry (Table 20.7) -/

/-- An entry of the Sluice block. -/
structure SlEntry where
  addr : Nat
  en : Bool
  job : Nat
  vmask : Nat
  admlr : Nat
  admn : Nat
  nslot : Nat
  oqbase : Nat
  relq : Nat
  seqbase : Nat
  tokbase : Nat
  tokstr : Nat
  root : Nat
  admcnt : Nat
  nodebase : Nat
  nnode : Nat
  deriving DecidableEq, Repr

/-- The block of a partition. -/
def State.slBlock (s : State) (p : PartId) : Nat := (Tbl.get 0 s.sl.base p.toNat).toNat

/-- The fields of the entry at an address as they stand in memory, within the partition's own (R356), with a node pool. -/
def State.entryAt (s : State) (p : PartId) (a base count : Nat) : SlEntry :=
  let m (o n : Nat) : Nat := s.ownGet p (a + o) n
  { addr := a, en := m 0 1 % 2 == 1, job := m 1 3, vmask := m 4 2, admlr := m 6 2, admn := m 8 2, nslot := m 10 2
    oqbase := m 12 2, relq := m 14 2, seqbase := m 16 8, tokbase := m 24 8, tokstr := m 32 4, root := m 40 8, admcnt := m 48 8
    nodebase := base, nnode := count }

/-- A context's entry as ENABLE reads it: where the block says that it lies. -/
def State.readEntry (s : State) (p : PartId) (ctx : BitVec 16) : SlEntry :=
  let b := s.slBlock p
  s.entryAt p (s.ownGet p b 8 + 64 * ctx.toNat) (s.ownGet p (b + 16) 8) (s.ownGet p (b + 24) 4)

/-- A context's entry as the Sluice works by it: its place, the root and the node pool are those of the last ENABLE,
whatever software writes to the block and the entry meanwhile (R8, R372) (DEDUCED, log 93). -/
def State.slEntry (s : State) (p : PartId) (ctx : BitVec 16) : SlEntry :=
  match s.sl.treeOf p ctx with
  | none => s.readEntry p ctx
  | some t => { s.entryAt p t.entry t.base t.count with root := t.root }

/-- The tree of a context. -/
def SlEntry.pool (e : SlEntry) (p : PartId) (ctx : BitVec 16) : Pool :=
  { part := p, ctx := ctx, base := e.nodebase, count := e.nnode, root := e.root }

/-- Output queue of slot i. -/
def SlEntry.oq (e : SlEntry) (i : BitVec 10) : BitVec 16 := .ofNat 16 (e.oqbase + i.toNat)
/-- Sequence record of slot i. -/
def SlEntry.seq (e : SlEntry) (i : BitVec 10) : Nat := e.seqbase + 256 * i.toNat
/-- Token buffer of slot i. -/
def SlEntry.tok (e : SlEntry) (i : BitVec 10) : Nat := e.tokbase + e.tokstr * i.toNat

/-- The block and the entry satisfy Table 20.7 (DEDUCED, log 76). Neither the entry nor the root is part of another
context's (DEDUCED, log 93). -/
def State.slEntryOk (s : State) (p : PartId) (ctx : BitVec 16) : Bool :=
  let P := s.part p
  let b := s.slBlock p
  let e := s.readEntry p ctx
  let zero (a n : Nat) : Bool := s.ownGet p a n == 0
  P.up && (P.ctx ctx).st != 0#8 && P.pinnable b && P.ownsBytes b 64 && decide (ctx.toNat ≤ s.ownGet p (b + 8) 2) && ctx != 0#16
    && zero (b + 10) 6 && zero (b + 28) 36 && s.ownGet p e.addr 1 == 1 && zero (e.addr + 36) 4 && zero (e.addr + 56) 8
    && P.ownsBytes e.addr 64 && P.ownsBytes e.nodebase (Nat.max 1 (256 * e.nnode)) && P.ownsBytes e.root 256
    && s.sl.clearOf p ctx e.addr 64 && s.sl.clearOf p ctx e.root 256
    && decide (1 ≤ e.nslot) && decide (e.nslot ≤ 1024) && decide (e.admlr + e.admn ≤ 4096)
    && decide (e.oqbase + e.nslot ≤ 65536) && e.seqbase % 65536 == 0 && e.tokbase % 65536 == 0 && e.tokstr % 65536 == 0

/-- The context is served (R372). -/
def Sluice.serves (z : Sluice) (p : PartId) (ctx : BitVec 16) : Bool := z.served.any fun v => v.part == p && v.ctx == ctx

/-! ### SLBASE (R372) -/

/-- SLBASE_WRITE: what is written to the reserved bits [5:2] and [63:52] is ignored (R7). -/
def State.slbase (s : State) (v : Word) : State :=
  s.modSl fun z => { z with
    base := Tbl.set z.base (bits v 1 0) (.ofNat 64 (bits v 51 6 * 64)), lastPart := v.setWidth 2 }

/-- SLBASE_WRITE (R372). -/
def execSlbaseWrite (s : State) : Out := .next (if s.accepting then s.slbase s.ev.v else s)

/-! ### Queues of a context -/

/-- The queue is open for the Sluice and the context, with 8-byte entries and these rights of the context. -/
def Queue.isSluiceOf (z : Queue) (ctx : BitVec 16) (right : BitVec 2) : Bool :=
  z.kind == .sluice && z.elog == 0#4 && z.ctxA == ctx && z.rightA == right
/-- An output queue of the context: its tasks push (R368). -/
def Queue.isOutputOf (z : Queue) (ctx : BitVec 16) : Bool := z.isSluiceOf ctx 2#2
/-- A RELQ of the context: its tasks pop (R370). -/
def Queue.isRelqOf (z : Queue) (ctx : BitVec 16) : Bool := z.isSluiceOf ctx 1#2

/-- Queue ids that ENABLE opens, with their rights and depths: the output queues, then RELQ. -/
def State.slQueues (s : State) (p : PartId) (e : SlEntry) : List (BitVec 16 × BitVec 2 × Nat) :=
  let rq : BitVec 16 := .ofNat 16 e.relq
  (List.range e.nslot).map (fun i => (.ofNat 16 (e.oqbase + i), 2#2, 64))
    ++ [(rq, 1#2, s.ownGet p ((s.part p).qentry rq + 2) 2 + 1)]

/-- ENABLE opens the SLUICE entries that are not open yet (R310, R368, R370) (DEDUCED, log 76). -/
def State.openSluice (s : State) (p : PartId) (ctx : BitVec 16) (e : SlEntry) : State :=
  (s.slQueues p e).foldl (fun t q =>
    if ((t.part p).queue q.1).isSome then t
    else
      let back := t.ownGet p ((t.part p).qentry q.1 + 16) 8
      t.modPart p fun P => P.setQueue q.1
        { kind := .sluice, elog := 0, depth := q.2.2, ctxA := ctx, rightA := q.2.1, ctxB := 0, rightB := 0, backing := .ofNat 64 back }) s

/-- Every queue id is free, or open already as ENABLE opens it, and RELQ is none of the output queues. -/
def State.slQueuesOk (s : State) (p : PartId) (ctx : BitVec 16) (e : SlEntry) : Bool :=
  !(decide (e.oqbase ≤ e.relq) && decide (e.relq < e.oqbase + e.nslot))
  && (s.slQueues p e).all fun q => match (s.part p).queue q.1 with
    | none => decide (q.2.2 ≤ 4096)
    | some z => z.isSluiceOf ctx q.2.1 && z.depth == q.2.2

/-! ### SLCMD (R372, Table 20.9) -/

/-- SLRES values. -/
def slOk : Word := 0
def slBusy : Word := 1
def slField : Word := 2
def slImage : Word := 3
def slBad : Word := 5

/-- ENABLE (DEDUCED, log 76). The tree that it takes is the one that memory holds under ROOT (DEDUCED, log 93). -/
def State.slEnable (s : State) (p : PartId) (ctx : BitVec 16) : State × Word :=
  let e := s.readEntry p ctx
  if !s.slEntryOk p ctx || !s.slQueuesOk p ctx e then (s, slField)
  else if s.sl.serves p ctx then (s, slBusy)
  else ((s.openSluice p ctx e).modSl fun z => { z with
    served := z.served ++ [{ part := p, ctx := ctx }]
    trees := z.trees.filter (fun t => !t.isOf p ctx) ++ [s.treeAt (e.pool p ctx) e.addr] }, slOk)

/-- DISABLE. -/
def State.slDisable (s : State) (p : PartId) (ctx : BitVec 16) : State × Word :=
  if s.sl.serves p ctx then
    ((s.modSl fun z => { z with served := z.served.filter fun v => !(v.part == p && v.ctx == ctx) }).keepTrees, slOk)
  else (s, slBusy)

/-- VLOAD: the image's physical address is in SLARG. -/
def State.slVload (s : State) (n : Nat) (arg : Word) : State × Word :=
  if (Tbl.find? s.sl.voc n).isSome then (s, slBusy)
  else match s.readVocab arg.toNat with
    | none => (s, slImage)
    | some v => (s.modSl fun z => { z with voc := Tbl.set z.voc n v }, slOk)

/-- VUNLOAD. A slot without an image has nothing to unload: FIELD. -/
def State.slVunload (s : State) (n : Nat) : State × Word :=
  if (Tbl.find? s.sl.voc n).isNone then (s, slField)
  else if s.sl.reqs.any fun r => r.vocab.toNat == n then (s, slBusy)
  else (s.modSl fun z => { z with voc := Tbl.erase z.voc n }, slOk)

/-- PRUNE: the stamp limit is in SLARG. A context that is not served has no tree: FIELD. -/
def State.slPrune (s : State) (p : PartId) (ctx : BitVec 16) (arg : Word) : State × Word :=
  if !s.sl.serves p ctx then (s, slField)
  else
    let e := s.slEntry p ctx
    let r := s.pruneTree (e.pool p ctx) arg.toNat
    (r.1.modSl fun z => { z with relq := z.relq ++ r.2.map fun w => (p, ctx, w, none) }, .ofNat 64 (r.2.length * 2 ^ 32))

/-- SLCMD: its operation and its result (R372). -/
def State.slcmdRes (s : State) (v arg : Word) : State × Word :=
  let p : PartId := .ofNat 2 (bits v 9 8)
  let ctx : BitVec 16 := .ofNat 16 (bits v 31 16)
  match bits v 2 0 with
  | 1 => s.slEnable p ctx
  | 2 => s.slDisable p ctx
  | 3 => s.slVload (bits v 7 4) arg
  | 4 => s.slVunload (bits v 7 4)
  | 5 => s.slPrune p ctx arg
  | _ => (s, slBad)

/-- Bits of SLCMD that hold (Table 20.9). -/
def slcmdMask : Word := 0x00000000FFFF03F7#64

/-- The RELQ of a context. -/
def State.relqOf (s : State) (p : PartId) (ctx : BitVec 16) : BitVec 16 := .ofNat 16 (s.slEntry p ctx).relq

/-- The RELQ of a context, where its entry names one (R370). -/
def State.relqQueue (s : State) (p : PartId) (ctx : BitVec 16) : Option Queue :=
  ((s.part p).queue (s.relqOf p ctx)).filter (·.isRelqOf ctx)

/-- Pages that a PRUNE has removed are still on their way to RELQ. A context that has taken its RELQ away holds up no
command (R8) (DESIGN CHOICE, log 112). -/
def State.pruning (s : State) : Bool := s.sl.relq.any fun q => q.2.2.2.isNone && (s.relqQueue q.1 q.2.1).isSome

/-- A command is performed. SLRES takes its result as it completes, a PRUNE with its last push to RELQ (R372). -/
def State.slPerform (s : State) (v arg : Word) : State :=
  let r := s.slcmdRes v arg
  r.1.modSl fun z =>
    if s.sl.relq.length < z.relq.length then { z with cmd := v &&& slcmdMask, run := some r.2 }
    else { z with cmd := v &&& slcmdMask, res := r.2 }

/-- A write of SLCMD by a port: applied only from the holder of HSEM (R374), and not in FAILED (R378)
(DEDUCED, log 69). A write waits while another command is under way, with SLARG as it stands at the write
(DESIGN CHOICE, log 112). -/
def State.slcmd (s : State) (n : PortId) (v : Word) : State :=
  if s.accepting && s.io.held && s.io.owner == n then
    if s.sl.run.isSome then s.modSl fun z => { z with waits := z.waits ++ [(v, z.arg)] }
    else s.slPerform v s.sl.arg
  else s

/-- Commands that have waited are performed in the order of their writes, up to one that waits itself. -/
def State.slNext (s : State) : List (Word × Word) → State
  | [] => s.modSl fun z => { z with waits := [] }
  | q :: l =>
    let t := s.slPerform q.1 q.2
    if t.sl.run.isSome then t.modSl fun z => { z with waits := l } else t.slNext l

/-- The command under way completes once none of its pages is left to push (R372). -/
def State.slSettle (s : State) : State :=
  match s.sl.run with
  | none => s
  | some r => if s.pruning then s else (s.modSl fun z => { z with res := r, run := none }).slNext s.sl.waits

/-- What the Sluice holds for a partition is gone with the partition: its block address, the contexts that it serves, their
trees, live requests and pages on their way to RELQ. Another partition under the same number starts without them (R356)
(DESIGN CHOICE, log 122). -/
def State.dropSluice (s : State) (p : PartId) : State :=
  (s.modSl fun z => { z with
    base := Tbl.erase z.base p.toNat, served := z.served.filter (·.part != p), trees := z.trees.filter (·.part != p)
    reqs := z.reqs.filter (·.part != p), relq := z.relq.filter (·.1 != p) }).slSettle

/-- The SLCMD word of an operation on what an event names. -/
def slWord (op : Nat) (e : EvArgs) : Word := .ofNat 64 (op + e.n.toNat % 16 * 16 + e.part.toNat * 256 + e.ctx.toNat * 65536)

/-- ENABLE (R372). -/
def execEnable (s : State) : Out := .next (s.slcmd s.ev.port (slWord 1 s.ev))
/-- DISABLE (R372). -/
def execDisable (s : State) : Out := .next (s.slcmd s.ev.port (slWord 2 s.ev))
/-- VLOAD (R364, R372). -/
def execVload (s : State) : Out := .next (s.slcmd s.ev.port (slWord 3 s.ev))
/-- VUNLOAD (R372). -/
def execVunload (s : State) : Out := .next (s.slcmd s.ev.port (slWord 4 s.ev))
/-- PRUNE (R372). -/
def execPrune (s : State) : Out := .next (s.slcmd s.ev.port (slWord 5 s.ev))

/-! ### Packets and replies (R358, R360) -/

/-- PACKET_RECEIVE (R358): a packet that uses an unsupported option is dropped and counted
(DESIGN CHOICE, log 12). None is taken in FAILED (R378) (DEDUCED, log 69). -/
def execPacketReceive (s : State) : Out :=
  .next (if !s.accepting then s
    else if s.ev.pkt.supported then s.modSl fun z => { z with inbox := z.inbox ++ [s.ev.pkt] }
    else s.modSl fun z => { z with drops := z.drops + 1 })

/-- A reply's header (Table 20.2) and body. -/
def replyBytes (type reason rseq reqid toks bytes flags : Nat) (body : List Byte) : List Byte :=
  leBytes 2 1 ++ leBytes 1 type ++ leBytes 1 reason ++ leBytes 4 rseq ++ leBytes 8 reqid ++ leBytes 4 toks
    ++ leBytes 4 bytes ++ leBytes 1 flags ++ leBytes 7 0 ++ body

/-- A reply goes out on a packet delivery context (R358) (DESIGN CHOICE, log 12). -/
def State.sendReply (s : State) (c : W32) (m : List Byte) : State :=
  s.modSl fun z => { z with replies := z.replies ++ [⟨c, m⟩], wire := z.wire ++ [⟨c, m⟩] }

/-! ### Requests (R359, R361, R363) -/

/-- A field of a request header. -/
def hdrGet (m : List Byte) (o n : Nat) : Nat := leNat ((m.drop o).take n)

/-- Check 1, FORMAT (Table 20.1). -/
def formatOk (m : List Byte) : Bool :=
  let g := hdrGet m
  decide (64 ≤ m.length) && g 0 2 == 1 && g 2 2 == 64 && decide (1 ≤ g 4 4) && decide (g 4 4 ≤ 4194304)
    && decide (m.length = 64 + g 4 4) && decide (g 17 1 < 8) && decide (g 20 1 ≤ 15) && decide (g 21 1 ≤ 4)
    && decide (g 22 1 ≤ 28) && decide (g 23 1 ≤ 64) && decide (g 24 2 < 4096) && decide (1 ≤ g 28 2) && decide (g 28 2 ≤ 256)
    && g 30 2 == 0 && decide (1 ≤ g 32 4) && g 36 8 % 8 == 0 && g 52 12 == 0

/-- The stop strings of a table at STOPREF (R365). -/
def State.readStops (s : State) (p : PartId) (ctx : BitVec 16) (va : Nat) : Option (List (List Byte)) :=
  if va = 0 then some []
  else (s.slRead p ctx va 8).bind fun h =>
    let n := leNat (h.take 1)
    if 8 < n ∨ leNat (h.drop 1) ≠ 0 then none
    else allOf ((List.range n).map fun k => (s.slRead p ctx (va + 8 + 40 * k) 40).bind fun b =>
      let len := leNat (b.take 1)
      if 1 ≤ len ∧ len ≤ 32 ∧ leNat ((b.drop 1).take 7) = 0 then some ((b.drop 8).take len) else none)

/-- Slots of a context that live requests hold. -/
def Sluice.slotTaken (z : Sluice) (p : PartId) (ctx : BitVec 16) (i : BitVec 10) : Bool :=
  z.reqs.any fun r => r.part == p && r.ctx == ctx && r.slot == i

/-- The lowest free slot of a context (DEDUCED, log 77). -/
def Sluice.freeSlot (z : Sluice) (p : PartId) (ctx : BitVec 16) (n : Nat) : Option (BitVec 10) :=
  ((List.range n).map (BitVec.ofNat 10)).find? fun i => !z.slotTaken p ctx i

/-- How a request is answered. -/
inductive Answer
  | reject (reason : Nat)
  | copy                                                    -- its REQID is owned: a copy of the owner's ACCEPT
  | take (r : Req) (ids : List Nat) (at_ : Nat)             -- tokenised, with the ids and their buffer
  deriving DecidableEq, Repr

/-- Table 20.3 in its order, and the steps of R363 (DEDUCED, log 77). -/
def State.answer (s : State) (q : Packet) : Answer :=
  let m := q.message
  let g := hdrGet m
  if !formatOk m then .reject 1
  else
    let ctx : BitVec 16 := .ofNat 16 (g 18 2)
    let p : PartId := .ofNat 2 (g 16 1)
    let e := s.slEntry p ctx
    if 4 ≤ g 16 1 ∨ !(s.part p).up ∨ !s.sl.serves p ctx ∨ !e.en ∨ e.job ≠ q.job.toNat then .reject 2
    else match Tbl.find? s.sl.voc (g 20 1) with
      | none => .reject 3
      | some v =>
        if !e.vmask.testBit (g 20 1) then .reject 3
        else match s.readStops p ctx (g 36 8) with
          | none => .reject 4
          | some stops =>
            if s.sl.reqs.any fun r => r.part == p && r.ctx == ctx && r.reqid.toNat == g 8 8 then .copy
            else match s.sl.freeSlot p ctx e.nslot with
              | none => .reject 5
              | some i =>
                let ids := v.tokenise (m.drop 64)
                if e.tokstr / 4 < ids.length then .reject 6
                else if !s.slPinned p ctx (e.seq i) 256 || !s.slPinned p ctx (e.tok i) e.tokstr then .reject 7
                else .take
                  { pdc := q.pdc, part := p, ctx := ctx, slot := i, reqid := .ofNat 64 (g 8 8), flags := .ofNat 8 (g 17 1)
                    vocab := .ofNat 4 (g 20 1), hdr := m.take 64, nprompt := ids.length, stops := stops } ids (e.tok i)

/-- A later request of an owned REQID: its copy follows the ACCEPT, on the context that carried it (R358, R363)
(DEDUCED, log 77). -/
def State.copyAccept (s : State) (q : Packet) : State :=
  let g := hdrGet q.message
  let mine (r : Req) : Bool := r.part.toNat == g 16 1 && r.ctx.toNat == g 18 2 && r.reqid.toNat == g 8 8
  match s.sl.reqs.find? mine with
  | none => s
  | some r =>
    if r.st = .tokenised then
      s.modSl fun z => { z with reqs := z.reqs.map fun r => if mine r then { r with dups := r.dups ++ [q.pdc] } else r }
    else s.sendReply q.pdc (replyBytes 0 0 0 r.reqid.toNat 0 0 0 [])

/-- A rejected request leaves no state behind (R361). -/
def State.rejectReq (s : State) (q : Packet) (reason : Nat) : State :=
  (s.modSl fun z => { z with rejs := z.rejs + 1 }).sendReply q.pdc (replyBytes 1 reason 0 (hdrGet q.message 8 8) 0 0 0 [])

/-- REQUEST_RECEIVE (R363, steps 1 to 3); not in FAILED (R378) (DEDUCED, log 69). -/
def execRequestReceive (s : State) : Out :=
  .next (if !s.accepting then s else match s.sl.inbox with
    | [] => s
    | q :: l =>
      let t := s.modSl fun z => { z with inbox := l }
      match t.answer q with
      | .reject n => t.rejectReq q n
      | .copy => t.copyAccept q
      | .take r ids a =>
        (match t.slWrite r.part r.ctx a (ids.flatMap (leBytes 4)) with
         | none => t.rejectReq q 7
         | some u => u.modSl fun z => { z with reqs := z.reqs ++ [r] }))

/-- ACCEPT_REPLY (R363, step 4): the oldest request whose record both homes hold, and the copies that wait for it; not in
FAILED (R378) (DEDUCED, log 69). -/
def execAcceptReply (s : State) : Out :=
  .next (if !s.accepting then s else match s.sl.reqs.find? (fun r => r.st == .tokenised) with
    | none => s
    | some r =>
      let s1 := s.modSl fun z => { z with
        accs := z.accs + 1
        reqs := z.reqs.map fun q => if q = r then { q with st := .accepted, dups := [] } else q }
      (r.pdc :: r.dups).foldl (fun t c => t.sendReply c (replyBytes 0 0 0 r.reqid.toNat 0 0 0 [])) s1)

/-! ### Admission (R366, R367) -/

/-- Reads a request's prompt from its token buffer. -/
def State.promptIds (s : State) (r : Req) (e : SlEntry) : Option (List Nat) :=
  (s.slRead r.part r.ctx (e.tok r.slot) (4 * r.nprompt)).map fun b =>
    (List.range r.nprompt).map fun k => leNat ((b.drop (4 * k)).take 4)

/-- The sequence record's fields (Tables 12.1 and 20.6): address and bytes of each part that the Sluice writes. -/
def seqParts (r : Req) (e : SlEntry) (m : Nat) : List (Nat × List Byte) :=
  let g := hdrGet r.hdr
  let a := e.seq r.slot
  [ (a, leBytes 8 r.reqid.toNat ++ leBytes 8 (32 * m)
        ++ leBytes 8 (g 21 1 + g 22 1 * 2 ^ 3 + g 23 1 * 2 ^ 8 + r.flags.toNat % 2 * 2 ^ 15 + r.slot.toNat * 2 ^ 16
            + r.vocab.toNat * 2 ^ 32 + g 24 2 * 2 ^ 36 + g 26 2 * 2 ^ 48)
        ++ leBytes 8 (g 28 2 + (e.oq r.slot).toNat * 2 ^ 16 + g 32 4 * 2 ^ 32)),
    (a + 64, leBytes 8 (g 44 8)),
    (a + 80, leBytes 4 0),
    (a + 88, leBytes 56 0) ]

/-- Writes parts of a context's memory, all or none. -/
def State.slWriteAll (s : State) (p : PartId) (ctx : BitVec 16) (l : List (Nat × List Byte)) : Option State :=
  l.foldl (fun o q => o.bind fun t => t.slWrite p ctx q.1 q.2) (some s)

/-- PLIST and BACK entries of the matched pages. -/
def State.pageParts (s : State) (t : Pool) (plist back : Nat) (nodes : List Nat) : List (Nat × List Byte) :=
  ((List.range nodes.length).zip nodes).flatMap fun q =>
    [(plist + 8 * q.1, leBytes 8 (s.nodePage t q.2).toNat), (back + 32 * q.1, s.nodeSig t q.2)]

/-- The lowest-numbered record of the admission range that is IDLE, a TASK of the context, with JINIT 0
(DEDUCED, log 78). -/
def Part.admRecord (P : Part) (ctx : BitVec 16) (e : SlEntry) : Option (BitVec 12) :=
  ((List.range e.admn).map fun k => BitVec.ofNat 12 (e.admlr + k)).find? fun i =>
    let r := P.lrec i
    r.st == .idle && r.kind == kTask && r.ctx == ctx && r.jinit == 0#32

/-- Step 5 (R367): arguments, arm, ADMITTED, ADMCNT, in one event. -/
def State.admArm (s : State) (r : Req) (e : SlEntry) (i : BitVec 12) (nodes : List Nat) : State :=
  let p := r.part
  let v (n : Nat) : Word := .ofNat 64 n
  let s1 := (((s.patchRec p i 0 (v (e.seq r.slot))).patchRec p i 1 (v (e.tok r.slot))).patchRec p i 2 (v r.nprompt)).patchRec
    p i 3 (v (32 * nodes.length))
  let s2 := s1.armNow p i
  let s3 := s2.ownPut p (e.addr + 48) (leBytes 8 (e.admcnt + 1))
  s3.modSl fun z => { z with reqs := z.reqs.map fun q => if q = r then { q with st := .admitted, nodes := nodes } else q }

/-- Steps 2 to 4, all or none: PLIST and BACK, the sequence record, the output queue, the signature rows. A queue that is
not the context's output queue is no one's to reset (R8) (DEDUCED, log 111). -/
def State.admWrite (s : State) (r : Req) (e : SlEntry) (nodes : List Nat) : Option State :=
  let p := r.part
  match s.slGet p r.ctx (e.seq r.slot + 32) 8, s.slGet p r.ctx (e.seq r.slot + 40) 8 with
  | some plist, some back =>
    (match (s.part p).queue (e.oq r.slot) with
    | none => none
    | some z =>
      if !z.isOutputOf r.ctx then none
      else (s.slWriteAll p r.ctx (s.pageParts (e.pool p r.ctx) plist back nodes ++ seqParts r e nodes.length)).map fun t =>
        t.modPart p fun P =>
          let P1 := P.setQueue (e.oq r.slot) { z with items := [], head := 0 }
          { P1 with rows := P1.rows.filter fun w => !(w.ctx == r.ctx && w.tag == r.slot) })
  | _, _ => none

/-- Admission of a request: none where a step fails before step 5, no record is IDLE (R367) (DEDUCED, log 78) or the
Sluice holds no tree of the context any more (DEDUCED, log 93). -/
def State.admitReq (s : State) (r : Req) : Option State :=
  let e := s.slEntry r.part r.ctx
  if (s.sl.treeOf r.part r.ctx).isNone then none else (s.promptIds r e).bind fun ids =>
    let nodes := s.matchFrom (e.pool r.part r.ctx) r.vocab.toNat ids ((r.nprompt - 1) / 32) e.root
    match (s.part r.part).admRecord r.ctx e with
    | none => none
    | some i => ((s.holdNodes (e.pool r.part r.ctx) e.admcnt nodes).admWrite r e nodes).map fun t => t.admArm r e i nodes

/-- ADMISSION (R367): the first accepted request of the event's context that is not admitted (DEDUCED, log 78). -/
def execAdmission (s : State) : Out :=
  .next (match s.sl.reqs.find? (fun r => r.part == s.ev.part && r.ctx == s.ev.ctx && (r.st == .tokenised || r.st == .accepted)) with
    | none => s
    | some r => if r.st = .accepted then (s.admitReq r).getD s else s)

/-! ### RELQ (R370) -/

/-- Live requests whose pages have all entered RELQ give up their slots (R368, R369). -/
def Sluice.freeEnded (z : Sluice) : Sluice :=
  { z with reqs := z.reqs.filter fun r => !(r.st == .ended && !z.relq.any fun q =>
      q.1 == r.part && q.2.1 == r.ctx && q.2.2.2 == some r.slot) }

/-- The RELQ of a context is open as such and has room. -/
def State.relqRoom (s : State) (p : PartId) (ctx : BitVec 16) : Bool :=
  (s.relqQueue p ctx).any fun z => decide (0 < z.room none)

/-- Pushes the first page of the Sluice's list whose own RELQ has room: pages of one context go in order, and a full
queue holds back its own context alone (R369, R370). -/
def State.relqPush (s : State) : State :=
  match s.sl.relq.find? fun q => s.relqRoom q.1 q.2.1 with
  | none => s
  | some q =>
    let qid := s.relqOf q.1 q.2.1
    match (s.part q.1).queue qid with
    | none => s
    | some z =>
      let item : QItem := { num := z.freshNum, data := leBytes 8 (bits q.2.2.1 55 0), st := .ready }
      ((s.modPart q.1 fun P => P.setQueue qid { z with items := z.items ++ [item] }).modSl fun y =>
        Sluice.freeEnded { y with relq := y.relq.erase q })

/-- RELQ_PUSH (R370): a PRUNE whose last page it pushes completes (R372). -/
def execRelqPush (s : State) : Out := .next s.relqPush.slSettle

end Sys2Proof.Machine
end

