-- ==== Sys2Proof/Machine/Detok.lean ====
section
/-! DEFINITION. The detokeniser: output entries into UTF-8, replies, and the end of a request (R360, R368, R369, R371). -/
namespace Sys2Proof.Machine

/-! ### UTF-8 -/

/-- U+FFFD in UTF-8. -/
def fffd : List Byte := [0xEF#8, 0xBF#8, 0xBD#8]

/-- Length of the sequence that a byte starts; 0 when none can start with it. -/
def utf8Len (b : Byte) : Nat :=
  if b.toNat < 0x80 then 1
  else if b.toNat < 0xC2 then 0
  else if b.toNat < 0xE0 then 2
  else if b.toNat < 0xF0 then 3
  else if b.toNat < 0xF5 then 4
  else 0

/-- Byte k of a sequence may follow its first byte: no overlong form, no surrogate, nothing above U+10FFFF. -/
def utf8Cont (b0 : Byte) (k : Nat) (b : Byte) : Bool :=
  let n := b.toNat
  let lo := if k = 1 then (match b0.toNat with
    | 0xE0 => 0xA0
    | 0xF0 => 0x90
    | _ => 0x80) else 0x80
  let hi := if k = 1 then (match b0.toNat with
    | 0xED => 0x9F
    | 0xF4 => 0x8F
    | _ => 0xBF) else 0xBF
  decide (lo ≤ n) && decide (n ≤ hi)

/-- Continuation bytes that follow a first byte, up to its sequence's length: how many are valid. -/
def utf8Run (b0 : Byte) : Nat → Nat → List Byte → Nat
  | 0, _, _ => 0
  | _ + 1, _, [] => 0
  | left + 1, k, b :: l => if utf8Cont b0 k b then 1 + utf8Run b0 left (k + 1) l else 0

/-- Moves complete sequences from PEND: what moves, and what stays. A byte that can start or continue no valid sequence
moves as U+FFFD. `fuel` is the length (DEDUCED, log 79). -/
def utf8Move : Nat → List Byte → List Byte × List Byte
  | 0, l => ([], l)
  | _ + 1, [] => ([], [])
  | fuel + 1, b :: l =>
    let n := utf8Len b
    if n = 0 then
      let r := utf8Move fuel l
      (fffd ++ r.1, r.2)
    else
      let k := utf8Run b (n - 1) 1 l
      if k = n - 1 then
        let r := utf8Move fuel (l.drop k)
        (b :: l.take k ++ r.1, r.2)
      else if k = l.length then ([], b :: l)
      else
        let r := utf8Move fuel (l.drop k)
        ((List.replicate (1 + k) fffd).flatten ++ r.1, r.2)

/-! ### Stop strings (R371) -/

/-- The earliest place at which a stop string occurs. -/
def stopAt (stops : List (List Byte)) : List Byte → Option Nat
  | [] => none
  | b :: l => if stops.any (fun t => startsWith t (b :: l)) then some 0 else (stopAt stops l).map (· + 1)

/-- The longest suffix that is a proper prefix of a stop string: where it begins. -/
def holdFrom (stops : List (List Byte)) : List Byte → Nat
  | [] => 0
  | b :: l => if stops.any (fun t => decide (l.length + 1 < t.length) && startsWith (b :: l) t) then 0 else holdFrom stops l + 1

/-! ### Replies (R360) -/

/-- A TEXT or FINAL reply with what is ready: its bytes, and its tokens when LOGP is set. -/
def Req.reply (r : Req) (type reason : Nat) : List Byte :=
  replyBytes type reason r.rseq.toNat r.reqid.toNat r.toks.length r.out.length (if r.range then 1 else 0)
    (r.out ++ if r.flags.getLsbD 1 then r.toks.flatMap fun w => leBytes 8 w.toNat else [])

/-- What is ready has gone out. FLAGS[0] speaks of the tokens of one reply and is clear for the next
(DESIGN CHOICE, log 125). -/
def Req.sent (r : Req) : Req := { r with out := [], toks := [], range := false, rseq := r.rseq + 1 }

/-- Replaces a request record. -/
def State.setReq (s : State) (old new : Req) : State :=
  s.modSl fun z => { z with reqs := z.reqs.map fun q => if q = old then new else q }

/-! ### One token (R371) -/

/-- A token's string goes through PEND and HOLD; `none` for an id out of range. A stop keeps PEND for the end marker
(DEDUCED, log 79). -/
def Req.token (r : Req) (str : Option (List Byte)) (entry : Word) : Req :=
  let bytes := str.getD fffd
  let mv := utf8Move (r.pend.length + bytes.length) (r.pend ++ bytes)
  let hold := r.hold ++ mv.1
  let r1 := { r with range := r.range || str.isNone, pend := mv.2, toks := r.toks ++ [entry] }
  match stopAt r.stops hold with
  | some n => { r1 with out := r.out ++ hold.take n, hold := [], stopped := true }
  | none =>
    let n := holdFrom r.stops hold
    { r1 with out := r.out ++ hold.take n, hold := hold.drop n }

/-- An entry's token id and log-probability as a reply reports them. -/
def entryWord (w : Word) : Word := .ofNat 64 (bits w 23 0 + bits w 63 32 * 2 ^ 32)

/-- The token joins the stream in the token buffer at NPROMPT + k (R369). One past the slot's buffer, or at an address that no
longer translates, is written nowhere (DESIGN CHOICE, log 126). -/
def State.appendToken (s : State) (r : Req) (id : Nat) : State :=
  let e := s.slEntry r.part r.ctx
  let n := r.nprompt + r.popped
  if e.tokstr / 4 ≤ n then s else (s.slWrite r.part r.ctx (e.tok r.slot + 4 * n) (leBytes 4 id)).getD s

/-- MAXT := tokens popped (R371). -/
def State.writeMaxt (s : State) (r : Req) (n : Nat) : State :=
  (s.slWrite r.part r.ctx ((s.slEntry r.part r.ctx).seq r.slot + 28) (leBytes 4 n)).getD s

/-- A TEXT reply goes out when 4,096 bytes are ready, or when the queue is empty after the pop (DEDUCED, log 79). -/
def State.maybeText (s : State) (r : Req) (empty : Bool) : State :=
  if decide (4096 ≤ r.out.length) || empty then (s.sendReply r.pdc (r.reply 2 0)).setReq r r.sent else s

/-- A token entry is popped. -/
def State.popToken (s : State) (r : Req) (w : Word) (empty : Bool) : State :=
  let id := bits w 23 0
  let s1 := s.appendToken r id
  let str := (Tbl.find? s.sl.voc r.vocab.toNat).bind fun v => v.strs[id]?
  let r0 := { r with popped := r.popped + 1 }
  let r1 := if r.stopped then r0 else r0.token str (entryWord w)
  let s2 := s1.setReq r r1
  let s3 := if r1.stopped && !r.stopped then s2.writeMaxt r1 r1.popped else s2
  s3.maybeText r1 empty

/-! ### The end of a request (R368, R369) -/

/-- Bytes of a slot's structures as the detokeniser reads them at the end; bytes that no longer translate or are
poisoned are free (DESIGN CHOICE, log 101). -/
def State.slotBytes (s : State) (r : Req) (va n : Nat) : List Byte :=
  (s.slRead r.part r.ctx va n).getD ((List.range n).map fun i => freeByte s.freeCtr (va + i))

/-- The value of such bytes. -/
def State.slotVal (s : State) (r : Req) (va n : Nat) : Nat := leNat (s.slotBytes r va n)

/-- The pages of a slot: PLIST entries up to CLEN. -/
def State.slotPages (s : State) (r : Req) (plist clen : Nat) : List Word :=
  (List.range ((clen + 31) / 32)).map fun k => .ofNat 64 (s.slotVal r (plist + 8 * k) 8)

/-- Pages to adopt: whole pages after the matched ones, with the keys of the token stream and the signatures. -/
def State.adoptPages (s : State) (r : Req) (e : SlEntry) (plist back clen : Nat) : List AdoptPage :=
  ((List.range (clen / 32)).drop r.nodes.length).map fun k =>
    { key := (List.range 32).map fun j => s.slotVal r (e.tok r.slot + 4 * (32 * k + j)) 4
      page := .ofNat 64 (s.slotVal r (plist + 8 * k) 8)
      sig := s.slotBytes r (back + 32 * k) 32 }

/-- The steps after FINAL: adoption, references, RELQ, the slot (R368). -/
def State.closeReq (s : State) (r : Req) : State :=
  let e := s.slEntry r.part r.ctx
  let a := e.seq r.slot
  let rd (o n : Nat) : Nat := s.slotVal r (a + o) n
  let clen := rd 8 4
  let plist := rd 32 8
  let back := rd 40 8
  let pages := s.slotPages r plist clen
  let last := (r.nodes.getLast?).getD e.root
  let ad := if r.flags.getLsbD 2 then
      State.adopt { s with freeCtr := s.freeCtr + 1 } (e.pool r.part r.ctx) r.vocab.toNat e.admcnt last
        (s.adoptPages r e plist back clen)
    else ({ s with freeCtr := s.freeCtr + 1 }, [])
  let free := (pages.drop r.nodes.length).filter fun w => !ad.2.contains w
  ((ad.1.dropNodes (e.pool r.part r.ctx) r.nodes).setReq r { r with st := .ended }).modSl fun z =>
    Sluice.freeEnded { z with relq := z.relq ++ free.map fun w => (r.part, r.ctx, w, some r.slot) }

/-- The end marker is popped: FINAL with its reason, or STOP, then the slot's end. -/
def State.popEnd (s : State) (r : Req) (w : Word) : State :=
  let r1 := { r with
    out := r.out ++ r.hold ++ (List.replicate r.pend.length fffd).flatten, hold := [], pend := [] }
  let reason := if r.stopped then 3 else bits w 7 0
  let s1 := (s.sendReply r.pdc (r1.reply 3 reason)).setReq r r1.sent
  s1.closeReq r1.sent

/-! ### The event -/

/-- OUTPUT_ENTRY_POP (R371): the first committed entry of the output queue of the event's slot, one of the context's NSLOT.
An entry after the end marker is discarded (R368). -/
def execOutputEntryPop (s : State) : Out :=
  let p := s.ev.part
  let e := s.slEntry p s.ev.ctx
  let qid := e.oq s.ev.slot
  .next (match (s.part p).queue qid with
    | none => s
    | some z =>
      if e.nslot ≤ s.ev.slot.toNat ∨ !z.isOutputOf s.ev.ctx then s
      else match z.next none with
        | none => s
        | some i =>
          let z1 := z.remove i.num
          let t := s.modPart p fun P => P.setQueue qid z1
          let w : Word := .ofNat 64 (leNat i.data)
          match s.sl.reqs.find? fun r => r.part == p && r.ctx == s.ev.ctx && r.slot == s.ev.slot with
          | none => t
          | some r =>
            if r.st = .admitted then
              if w.getLsbD 31 then t.popEnd r w else t.popToken r w (z1.next none).isNone
            else t)

end Sys2Proof.Machine
end

