-- ==== Sys2Proof/Machine/Gram.lean ====
section
/-! DEFINITION. The grammar stack and its mask fetch (R240, R241), and speculation permits (R242). -/
namespace Sys2Proof.Machine

/-- Replaces the grammar stack. -/
def Core.setGstk (k : Core) (l : List (BitVec 16)) : Core := { k with eng := { k.eng with gstk := l } }

/-- GPUSH (R240). -/
def execGpush (a : Reg) (e : Bool) (s : State) : Out :=
  issueA s (with1 s a e fun x s1 =>
    let l := s1.here.eng.gstk
    if 8 ≤ l.length then .trap { code := trapGstkOvf, t0 := .ofNat 64 (bits x 15 0), t1 := 8 }
    else .ok (s1.modHere fun k => k.setGstk (x.setWidth 16 :: l)))
/-- GPOP (R240). Its destination register, or the binding of its port, is tested before the stack, and room in the queue at
its port after it (R36, R37), an order beside the underflow trap that the spec does not spell out (DESIGN CHOICE,
log 97). -/
def execGpop (d : Reg) (_e : Bool) (s : State) : Out :=
  issueA s (s.gate false [] [d] (
    match s.here.eng.gstk with
    | [] => .trap { code := trapGstkUnf }
    | x :: l => (s.modHere fun k => k.setGstk l).wr d (x.setWidth 64) .ok))
/-- GTOP (R240); its destination first, as of GPOP (DESIGN CHOICE, log 97). -/
def execGtop (d : Reg) (_e : Bool) (s : State) : Out :=
  issueA s (s.gate false [] [d] (
    match s.here.eng.gstk with
    | [] => .trap { code := trapGstkUnf }
    | x :: _ => s.wr d (x.setWidth 64) .ok))
/-- GDEPTH (R240). -/
def execGdepth (d : Reg) (_e : Bool) (s : State) : Out := issueA s (alu0 s d (.ofNat 64 s.here.eng.gstk.length))
/-- GCLR (R240). -/
def execGclr (s : State) : Out := issueA s (.ok (s.modHere fun k => k.setGstk []))

/-- The mask address of a state and slice (R241). -/
def maskAddr (base key : Word) : Word :=
  base + .ofNat 64 ((bits key 15 0 * bits key 41 32 + bits key 25 16) * 64)

/-- MASKF's checks on its operands, and the bytes it copies (R241): its key, the table's base, the destination, then
the mask's own address. With sp as d, an address below SPCO counts as redirected (R59) (DEDUCED, log 118). -/
def State.maskf (s : State) (d : Reg) (dst base key : Word) : Eff :=
  let nsl := bits key 41 32
  if bits key 31 26 ≠ 0 ∨ bits key 63 42 ≠ 0 then .fault { code := .illegal }
  else if nsl = 0 ∨ 512 < nsl ∨ nsl ≤ bits key 25 16 then .fault { code := .illegal }
  else if bits base 63 56 ≠ 0 then .fault (addrFlt .prot base .read false)
  else if base.toNat % 64 ≠ 0 then .fault (addrFlt .align base .read false)
  else if d == 63#6 && decide (dst.toNat < s.here.spco.toNat) then .fault (addrFlt .prot dst .write false)
  else match spOwn dst 64 64 with
    | .error c => .fault (addrFlt c dst .write false)
    | .ok o =>
      let va := maskAddr base key
      match s.access .read va 64 with
      | .error f => .fault f
      | .ok x =>
        if s.poisoned x.pa then .fault (poisonFlt va)
        else if s.here.spm.badIn o 64 then .fault spPoison
        else .ok (s.modSpm s.cur (·.write o (s.physRead x.pa 64)))

/-- MASKF (R241). -/
def execMaskf (d a b : Reg) (e : Bool) (s : State) : Out :=
  issueA s (with3 s a b d e fun base key dst s1 => s1.maskf d dst base key)

/-! ### Permits -/

/-- The pool in force: PPOOL at cap level 0, else 0 (R323, R324). -/
def State.pool (s : State) (P : Part) : Nat := if s.power.cap = 0#2 then bits P.schcfg 31 20 else 0
/-- DETGRANT, values above 16 acting as 16 (Table 17.6) (DEDUCED, log 81). -/
def Part.detGrant (P : Part) : Nat := Nat.min (bits P.schcfg 13 9) 16

/-- The permits granted to a request of n (R242, R324): a task holds at most 16 in all (DEDUCED, log 81). -/
def State.grant (s : State) (n : Nat) : Nat :=
  let h := s.here.a.permits.toNat
  if s.here.detm then Nat.min n (s.myPart.detGrant - h)
  else Nat.min (Nat.min n (s.pool s.myPart - s.myPart.permits)) (16 - h)

/-- The moving core's task holds g permits more; a non-DET task's come from the pool. -/
def State.addPermits (s : State) (g : Nat) : State :=
  let s1 := s.modHere fun k => { k with a := { k.a with permits := k.a.permits + .ofNat 5 g } }
  if s.here.detm then s1 else s1.modMyPart fun P => { P with permits := P.permits + g }

/-- SPERMIT: n is 0-16 (R242). -/
def execSpermit (d a : Reg) (e : Bool) (s : State) : Out :=
  issueA s (s.gate e [a] [d] (s.rd a fun x s1 =>
    if 16 < x.toNat then .fault { code := .illegal }
    else (s1.addPermits (s1.grant x.toNat)).wr d (.ofNat 64 (s1.grant x.toNat)) .ok))

/-- The moving core's task returns g permits. -/
def State.dropPermits (s : State) (g : Nat) : State :=
  let s1 := s.modHere fun k => { k with a := { k.a with permits := k.a.permits - .ofNat 5 g } }
  if s.here.detm then s1 else s1.modMyPart fun P => { P with permits := P.permits - g }

/-- SPRET (R242). -/
def execSpret (a : Reg) (e : Bool) (s : State) : Out :=
  issueA s (with1 s a e fun x s1 => .ok (s1.dropPermits (Nat.min x.toNat s1.here.a.permits.toNat)))

end Sys2Proof.Machine
end

