-- ==== Sys2Proof/Machine/Mgmt.lean ====
section
/-! DEFINITION. The hardware semaphore (R374), the management controller (R376, R377), reset and bring-up (R378), CXL
enumeration (R379), and setting up and tearing down partitions (R355, R356). -/
namespace Sys2Proof.Machine

/-! ### HSEM (R374, Table 21.2) -/

/-- A port takes the free semaphore. -/
def Io.acquire (z : Io) (n : PortId) (tag : Byte) : Io := { z with held := true, owner := n, tag := tag }

/-- An acquire by port n, and by the other port in the same clk where `tie` gives that port's tag. -/
def Io.tryAcquire (z : Io) (n : PortId) (tag : Byte) (tie : Option Byte) : Io :=
  if z.held then z
  else match tie with
    | none => z.acquire n tag
    | some u =>
      let win := ~~~z.lasttie
      { z.acquire win (if win == n then tag else u) with lasttie := win }

/-- HSEM_ACQUIRE (R374). -/
def execHsemAcquire (s : State) : Out :=
  .next (if s.io.powered then { s with io := s.io.tryAcquire s.ev.port (s.ev.v.extractLsb' 8 8) s.ev.tie } else s)
/-- HSEM_RELEASE (R374): the other port's is ignored. -/
def execHsemRelease (s : State) : Out :=
  .next (if s.io.powered && s.io.held && s.io.owner == s.ev.port then { s with io := { s.io with held := false } } else s)

/-! ### The management controller (R376) -/

/-- MCRES values (R376). -/
def mcOk : Word := 0
def mcBusy : Word := 1
def mcField : Word := 2
def mcImage : Word := 3
def mcBad : Word := 5

/-- A port's MCCMD is applied: it holds HSEM (R374), and in FAILED only WARMRESET is accepted (R378)
(DEDUCED, log 69). -/
def State.mcTakes (s : State) (n : PortId) (warm : Bool) : Bool :=
  s.io.powered && s.io.held && s.io.owner == n && (warm || s.accepting)

/-- MCCMD and its result. -/
def State.mcEnd (s : State) (cmd res : Word) : State := { s with io := { s.io with mccmd := cmd, mcres := res } }

/-- The physical address of a host address behind a port (R345). -/
def hostAddr (n : PortId) (a : Word) : Nat := hostBase + n.toNat * 2 ^ 49 + bits a 48 0

/-- The firmware image at MCARG, as the port reads it: its header gives its length (DESIGN CHOICE, log 10). -/
def State.fwImage (s : State) (n : PortId) : List Byte :=
  let a := hostAddr n s.io.mcarg
  s.physRead a (freeImageLen (s.physRead a 16))

/-- FWLOAD's result and state (R376, R378): the image is read from the host's memory over its port, and a good one
starts training (DESIGN CHOICE, log 10). A bad one gives IMAGE and the controller stays in ROM: it is no step that ends in
FAILED (DESIGN CHOICE, log 129). -/
def State.fwload (s : State) (n : PortId) : State × Word :=
  if s.io.phase ≠ phaseRom then (s, mcBusy)
  else if !freeCrcOk (s.fwImage n) then (s, mcImage)
  else ({ s with io := { s.io with fw := true, phase := phaseTraining } }, mcOk)

/-- FWLOAD (R376) (DESIGN CHOICE, log 10). -/
def execFwload (s : State) : Out :=
  .next (if s.mcTakes s.ev.port false then
      let r := s.fwload s.ev.port
      r.1.mcEnd 1 r.2
    else s)

/-! ### SETUP and TEARDOWN (R355, R356) -/

/-- The partition id of a set of dies: its lowest (Table 19.4). -/
def lowestDie (d : BitVec 4) : PartId := .ofNat 2 (((List.range 4).find? fun k => d.getLsbD k).getD 0)

/-- A partition control block (Table 19.3). -/
def partOfBlock (m : Nat → Nat → Nat) : Part :=
  let dies : BitVec 4 := .ofNat 4 (m 0 1)
  { up := true, dies := dies, score := .ofNat 8 (m 1 1), sroot := .ofNat 64 (m 8 8), sentry := .ofNat 64 (m 16 8)
    cxlwin := .ofNat 64 (m 24 8), hostb := .ofNat 64 (m 32 8), hosts := .ofNat 64 (m 40 8)
    spillcap := 1048576 * 2 * dieCount dies }

/-- Some context of the partition exists. -/
def Part.hasCtx (P : Part) : Bool := P.ctxs.any (·.2.st != 0#8)

/-- Two windows of non-zero size overlap. -/
def overlaps (a n b m : Nat) : Bool := decide (0 < n) && decide (0 < m) && decide (a < b + m) && decide (b < a + n)

/-- Windows of two partitions overlap. -/
def Part.windowsMeet (P Q : Part) : Bool :=
  overlaps (bits P.cxlwin 25 0) (bits P.cxlwin 57 32) (bits Q.cxlwin 25 0) (bits Q.cxlwin 57 32)
    || overlaps P.hostb.toNat P.hosts.toNat Q.hostb.toNat Q.hosts.toNat

/-- The host window lies in the HOST region, or there is none. -/
def Part.hostOk (P : Part) : Bool :=
  P.hosts == 0 || (decide (hostBase ≤ P.hostb.toNat) && decide (P.hostb.toNat + P.hosts.toNat ≤ hostEnd))

/-- The set-up of P as partition p is refused (R355, R356) (DEDUCED, log 68). -/
def State.setupBad (s : State) (p : PartId) (P : Part) : Bool :=
  P.dies == 0 || !P.dies.getLsbD (dieOf P.score).toNat || P.sroot.toNat % 0x40000 != 0 || !P.rangePinnable P.sroot.toNat 0x40000
    || !P.hostOk || (s.part p).hasCtx
    || allParts.any fun q => q != p && (s.part q).dies != 0 && ((s.part q).dies &&& P.dies != 0 || (s.part q).windowsMeet P)

/-- The cores of a set of dies become idle and their TLBs empty; no AMORR return to them is under way any more (R356). -/
def State.dropCores (s : State) (dies : BitVec 4) : State :=
  { s with
    cores := s.cores.filter fun kv => !dies.getLsbD (kv.1 / 64)
    dieTlb := s.dieTlb.filter fun kv => !dies.getLsbD kv.1
    amorr := s.amorr.filter fun r => !dies.getLsbD (dieOf r.core).toNat }

/-- The cores of a partition become idle and its supervisor core starts at SENTRY (R355); a PC holds no bits [1:0] (R120)
(DEDUCED, log 68). -/
def State.startCores (s : State) (P : Part) : State :=
  (s.dropCores P.dies).setCore P.score { occ := .supervisor, a := { pc := P.sentry &&& ~~~3#64 } }

/-- SETUP's result and state (DEDUCED, log 68). The partition starts with nothing of the Sluice (DESIGN CHOICE, log 122). -/
def State.setup (s : State) (a : Nat) : State × Word :=
  let m (o n : Nat) : Nat := s.mem.get (a + o) n
  let P := partOfBlock m
  let p := lowestDie P.dies
  if s.io.phase ≠ phaseReady then (s, mcBusy)
  else if !inHbm a || !inHbm (a + 63) || s.poisonedIn a 64 || s.setupBad p P then (s, mcField)
  else ((((s.dropCores (s.part p).dies).setPart p P).startCores P).dropSluice p, mcOk)

/-- SETUP (R355, R376): the block's address is in MCARG. -/
def execSetup (s : State) : Out :=
  .next (if s.mcTakes s.ev.port false then
      let r := s.setup s.io.mcarg.toNat
      r.1.mcEnd 2 r.2
    else s)

/-- TEARDOWN's result and state (R356, R376). A partition that is not set up has nothing to tear down: FIELD
(DEDUCED, log 68). What the Sluice holds for the partition goes with it (DESIGN CHOICE, log 122). -/
def State.teardown (s : State) (p : PartId) : State × Word :=
  let P := s.part p
  if !P.up then (s, mcField)
  else if P.hasCtx then (s, mcBusy)
  else (({ s.dropCores P.dies with parts := Tbl.erase s.parts p.toNat }).dropSluice p, mcOk)

/-- TEARDOWN (R376): the partition is the event's. -/
def execTeardown (s : State) : Out :=
  .next (if s.mcTakes s.ev.port false then
      let r := s.teardown s.ev.part
      r.1.mcEnd (.ofNat 64 (3 + s.ev.part.toNat * 16)) r.2
    else s)

/-! ### Warm and cold resets (R378) -/

/-- Every task that is on a core of a partition is handled as a failed save, gang by gang. -/
def State.failAll (s : State) (p : PartId) : State :=
  allCores.foldl (fun t c =>
    if t.partOf c == p && (t.core c).occ == .task then t.failCores p (t.saveSet c) true else t) s

/-- Supervisor registers as a set-up again leaves them: at reset (R6, R293). The records that wait and those not yet
answered are the queue logic's and stay (DEDUCED, log 52). -/
def Sup.restart (S : Sup) : Sup := { ring := S.ring, reports := S.reports, out := S.out }

/-- A partition through a warm reset: registers with a reset value take it (R6), what the queue logic holds stays, and
it waits to be set up again (DEDUCED, log 52). -/
def Part.warm (P : Part) : Part :=
  { P with
    up := false, stopped := false, sup := P.sup.restart, evrun := none, evwait := [], evarg := 0, evcmd := 0, evres := []
    lrcmd := 0, lrres := [], ctxcmd := 0, ctxres := 0, grpcmd := 0, grparg := 0, grpres := 0, qcmd := 0, qres := 0
    schcfg := 0x0000000800000110, rillsl := 0, resv := []
    permits := 0, interval := 0, rq := Tbl.mapVal (fun _ l => l.map fun e => { e with rest := false }) P.rq }

/-- The I/O die after a warm reset: HSEM, HPERM and its registers are at reset, WARM is set (R377), LASTTIE, the firmware
and the error counts stay. -/
def Io.warmed (z : Io) : Io :=
  { lasttie := z.lasttie, fw := z.fw, warm := true, warming := true, errc := z.errc, erru := z.erru, powered := z.powered
    phase := if z.fw then phaseTraining else phaseRom }

/-- The warm reset: cores, TLBs and the I/O die are reset; HBM and the queue logic stay (DEDUCED, log 52). -/
def State.warmReset (s : State) : State :=
  let s1 := allParts.foldl (fun t p => if (t.part p).up then t.failAll p else t) s
  { s1 with
    cores := [], dieTlb := [], amorr := [], power := {}
    parts := Tbl.mapVal (fun _ P => P.warm) s1.parts
    io := s1.io.warmed
    sl := { s1.sl with drops := 0, accs := 0, rejs := 0, cmd := 0, arg := 0, res := 0, run := none, waits := [], inbox := [] } }

/-- WARMRESET (R376, R378). -/
def execWarmreset (s : State) : Out := .next (if s.mcTakes s.ev.port true then s.warmReset else s)
/-- PERST_WARM_RESET (R378): PERST# on one port alone; not accepted in FAILED. -/
def execPerstWarmReset (s : State) : Out := .next (if s.accepting then s.warmReset else s)

/-- COLD_RESET (R378): power-on, or PERST# on both ports. The hosts' and the expanders' memory is their own; LASTTIE is
kept (R374) (DEDUCED, log 70). -/
def execColdReset (s : State) : Out :=
  .next { State.reset with
    mem := s.mem.filter fun c => !inHbm c.1
    poison := s.poison.filter fun l => !inHbm (128 * l)
    io := { lasttie := s.io.lasttie }
    clk := s.clk, agenda := s.agenda, freeCtr := s.freeCtr, cur := s.cur, ev := s.ev }

/-! ### Bring-up (R378, R379) -/

/-- The devices that a port takes: supported ones, at most the four that a switch may have (DEDUCED, log 70). -/
def portDevs (devs : List CxlDevice) (n : PortId) : List CxlDevice :=
  (devs.filter fun d => d.supported && d.port == n).take 4

/-- The devices that are mapped: port 0 first, then port 1, in enumeration order (R379). -/
def mappedDevs (devs : List CxlDevice) : List CxlDevice := portDevs devs 0 ++ portDevs devs 1

/-- Devices laid out one after the other from an address, each rounded down to 64 KiB, up to 4 TiB. -/
def layoutCxl : Nat → List CxlDevice → List CxlRange
  | _, [] => []
  | a, d :: l =>
    let n := Nat.min (d.bytes / 65536 * 65536) (cxlEnd - a)
    { base := a, size := n } :: layoutCxl (a + n) l

/-- After a warm reset each previous partition is set up again, its supervisor at SENTRY. -/
def State.setupAgain (s : State) : State :=
  allParts.foldl (fun t p =>
    let P := t.part p
    if !P.up && P.dies != 0 then (t.setPart p { P with up := true }).startCores P else t) s

/-- A warm bring-up sends the replies not yet acknowledged again, with their own RSEQ (R378)
(DESIGN CHOICE, log 12). -/
def State.resend (s : State) : State := { s with sl := { s.sl with wire := s.sl.wire ++ s.sl.replies } }

/-- BRINGUP_TRAINING (R378): steps 3 to 5; `fail` is the FAILCODE of a step that fails, 1 to 4 (Table 21.4), `devs` what
enumeration finds. -/
def execBringupTraining (s : State) : Out :=
  .next (if !s.io.powered || s.io.phase ≠ phaseTraining then s
    else match s.ev.fail with
      | some c => if 1 ≤ c.toNat ∧ c.toNat ≤ 4 then { s with io := { s.io with phase := phaseFailed, failcode := c } } else s
      | none =>
        let s1 := { s with io := { s.io with
          phase := phaseReady, warming := false, cxl := layoutCxl cxlBase (mappedDevs s.ev.devs)
          erru := s.io.erru + .ofNat 32 (s.ev.devs.length - (mappedDevs s.ev.devs).length) } }
        if s.io.warming then s1.setupAgain.resend else s1)

/-- CXL_LINK_DOWN (R379): a device on the map drops off its link; vector 1 on both ports. Of a device that is not there or
is down already there is no such event. -/
def execCxlLinkDown (s : State) : Out :=
  .next (if !((s.io.cxl[s.ev.n.toNat]?.map (·.up)).getD false) then s else { s with io := { s.io with
    cxl := (List.range s.io.cxl.length).zip s.io.cxl |>.map fun d => if d.1 = s.ev.n.toNat then { d.2 with up := false } else d.2
    msix := s.io.msix ++ [(0#1, 1#3), (1#1, 1#3)] } })

end Sys2Proof.Machine
end

