-- ==== Sys2Proof/Machine/Regs.lean ====
section
/-! DEFINITION. The supervisor, partition and scheduling control registers: what each reads and what a write of each does
(R288, R293-R297, R325, R328, R345, R357). -/
namespace Sys2Proof.Machine

/-! ### Reads -/

/-- SSTATUS (Table 16.3). -/
def Sup.status (S : Sup) : Word := .ofNat 64 (S.ee.toNat + S.inev.toNat * 2 + S.pend.toNat * 4)
/-- FRCTL (Table 16.4). -/
def Sup.frctl (S : Sup) : Word := .ofNat 64 (S.szlog.toNat + S.lost.toNat * 2 ^ 8)
/-- PART (Table 19.4). -/
def Part.partWord (P : Part) (p : PartId) : Word :=
  .ofNat 64 (p.toNat + P.dies.toNat * 2 ^ 4 + P.score.toNat * 2 ^ 8 + P.taskCores * 2 ^ 16)
/-- PERMIT: the pool now and the permits held (Table 17.5). -/
def State.permitWord (s : State) (P : Part) : Word := .ofNat 64 (s.pool P % 2 ^ 12 + P.permits % 2 ^ 12 * 2 ^ 16)
/-- TOKENS (Table 17.7). A ring shows the T that is set, not the tokens above it that no pass has withdrawn yet
(DESIGN CHOICE, log 128). -/
def State.tokensWord (s : State) : Word :=
  .ofNat 64 (s.tokens 0 + s.tokens 1 * 2 ^ 4 + s.tokens 2 * 2 ^ 8 + s.tokens 3 * 2 ^ 12
    + s.power.step.toNat * 2 ^ 16 + s.power.cap.toNat * 2 ^ 20)

/-- The value of register n of partition p for an agent, or none where no register has the number (R288). -/
def State.regRead (s : State) (p : PartId) (a : Agent) (n : BitVec 12) : Option Word :=
  let P := s.part p
  let S := P.sup
  match n.toNat with
  | 0x100 => some S.status
  | 0x101 => some S.svec
  | 0x102 => some S.sepc
  | 0x103 => some (S.scause.setWidth 64)
  | 0x104 => some S.frbase
  | 0x105 => some S.frctl
  | 0x106 => some S.frpi
  | 0x107 => some S.frci
  | 0x108 => some S.ccmd
  | 0x109 => some S.carg0
  | 0x10A => some S.carg1
  | 0x10B => some (S.cstat.setWidth 64)
  | 0x10C => some s.io.snap.id
  | 0x120 => some (P.partWord p)
  | 0x121 => some P.ctxbase
  | 0x122 => some (P.nctx.setWidth 64)
  | 0x123 => some P.ctxcmd
  | 0x124 => some P.ctxres
  | 0x125 => some P.grpcmd
  | 0x126 => some P.grparg
  | 0x127 => some P.grpres
  | 0x128 => some (P.tmcfg.setWidth 64)
  | 0x129 => some (.ofNat 64 P.spillcap)
  | 0x13D => some P.evarg
  | 0x13E => some P.evcmd
  | 0x13F => some (Tbl.get 0 P.evres (agentIx a))
  | 0x140 => some P.lrpool
  | 0x141 => some P.lrcmd
  | 0x142 => some (Tbl.get 0 P.lrres (agentIx a))
  | 0x143 => some P.schcfg
  | 0x144 => some (s.permitWord P)
  | 0x145 => some P.qtbase
  | 0x146 => some P.qcmd
  | 0x147 => some P.qres
  | 0x148 => some s.tokensWord
  | _ => none

/-! ### Writes -/

/-- A register that names a structure of n bytes in pinned HBM takes an address that is aligned and whose structure lies
there whole (R345); other writes are ignored. -/
def Part.base (P : Part) (v : Word) (align n : Nat) (ok : Bool) (set : Part → Part) : Part :=
  if ok && v.toNat % align == 0 && P.rangePinnable v.toNat n then set P else P

/-- The context table at CTXBASE for a highest id (R352). -/
def Part.ctxTable (P : Part) (n : BitVec 16) : Bool := P.rangePinnable P.ctxbase.toNat (64 * (n.toNat + 1))

/-- NCTX: a table that lies in the partition's own HBM stays there (R345) (DEDUCED, log 93). -/
def Part.setNctx (P : Part) (n : BitVec 16) : Part :=
  if P.ctxs.all (·.2.st == 0#8) && (P.ctxTable n || !P.ctxTable P.nctx) then { P with nctx := n } else P

/-- A write of SSTATUS: EE only. -/
def Sup.setStatus (S : Sup) (v : Word) : Sup := { S with ee := v.getLsbD 0 }
/-- A write of FRCTL: SZLOG while EE is 0, and LOST. -/
def Sup.setFrctl (S : Sup) (v : Word) : Sup :=
  { S with szlog := if S.ee then S.szlog else v.setWidth 5, lost := v.getLsbD 8 }
/-- A write of FRCI: ignored outside FRPI − 2^SZLOG to FRPI and below the current value (R294). -/
def Sup.setFrci (S : Sup) (v : Word) : Sup :=
  if S.frpi.toNat ≤ v.toNat + S.ringSize ∧ v ≤ S.frpi ∧ S.frci ≤ v then { S with frci := v } else S

/-- A write of a register whose effect stays in its partition. -/
def Part.regWrite (P : Part) (n : BitVec 12) (v : Word) : Part :=
  match n.toNat with
  | 0x100 => { P with sup := P.sup.setStatus v }
  | 0x101 => { P with sup := { P.sup with svec := v &&& vecMask } }
  | 0x102 => { P with sup := { P.sup with sepc := v &&& ~~~3#64 } }
  | 0x103 => { P with sup := { P.sup with scause := v.setWidth 8 } }
  | 0x104 => P.base v 4096 (64 * P.sup.ringSize) (!P.sup.ee) fun P => { P with sup := { P.sup with frbase := v } }
  | 0x105 =>
    let S := P.sup.setFrctl v
    { P with sup := if P.ringFits S || !P.ringFits P.sup then S else { S with szlog := P.sup.szlog } }
  | 0x107 => { P with sup := P.sup.setFrci v }
  | 0x109 => { P with sup := { P.sup with carg0 := v } }
  | 0x10A => { P with sup := { P.sup with carg1 := v } }
  | 0x121 => P.base v 65536 (64 * (P.nctx.toNat + 1)) (P.ctxs.all (·.2.st == 0#8)) fun P => { P with ctxbase := v }
  | 0x122 => P.setNctx (v.setWidth 16)
  | 0x126 => { P with grparg := v }
  | 0x13D => if P.pinnable (evAddr v) then { P with evarg := .ofNat 64 (bits v 55 0) } else P
  | 0x143 => { P with schcfg := .ofNat 64 (bits v 35 0) }
  | 0x145 => P.base v 65536 0x200000 P.queues.isEmpty fun P => { P with qtbase := v }
  | _ => P

/-- Every UNBUILT record of a pool shows state 6, and its OVER, in its STAT (Table 17.1, R307). -/
def State.showUnbuilt (s : State) (p : PartId) : State :=
  let P := s.part p
  { s with mem := (List.range 4096).foldl (fun m i =>
      if (P.lrec (.ofNat 12 i)).st = .unbuilt then
        m.put (P.recAddr (.ofNat 12 i) + 120) 8 ((P.lrec (.ofNat 12 i)).word0 none).toNat else m) s.mem }

/-- LRPOOL: writable while every record is UNBUILT. The queue logic then writes the STAT of the pool's records (R307)
(DEDUCED, log 93). -/
def State.setLrpool (s : State) (p : PartId) (v : Word) : State :=
  let P := s.part p
  if v.toNat % 65536 == 0 && P.rangePinnable v.toNat 0x80000 && P.recs.all (·.2.st == .unbuilt) then
    (s.setPart p { P with lrpool := v }).showUnbuilt p
  else s

/-- TMCFG: writable only while no CXL page is resident (Table 19.4). -/
def State.setTmcfg (s : State) (p : PartId) (v : Word) : State :=
  if (s.residents p).isEmpty then s.modPart p fun P => { P with tmcfg := v.setWidth 16 } else s

/-- A write of register n of partition p by an agent. Commands run; a read-only register ignores the write
(PRESUMED, log 89). -/
def State.regWrite (s : State) (p : PartId) (a : Agent) (n : BitVec 12) (v : Word) : State :=
  match n.toNat with
  | 0x108 => s.ccmd p v
  | 0x123 => s.ctxcmd p v
  | 0x125 => s.grpcmd p v
  | 0x128 => s.setTmcfg p v
  | 0x13E => s.evcmd p a v
  | 0x140 => s.setLrpool p v
  | 0x141 => s.lrcmd p a v
  | 0x146 => s.qcmd p v
  | _ => s.modPart p (·.regWrite n v)

end Sys2Proof.Machine
end

