-- ==== Sys2Proof/Machine/Host.lean ====
section
/-! DEFINITION. The hosts: register writes (R288, R373-R375, R377, R380), BAR 2 (R118, R373), and the failure of one unit
(R312, R344). -/
namespace Sys2Proof.Machine

/-! ### The I/O-die register page (Table 21.1) -/

/-- A write of HSEM by a port (R374). -/
def Io.writeHsem (z : Io) (n : PortId) (v : Word) : Io :=
  if v.getLsbD 0 then z.tryAcquire n (v.extractLsb' 8 8) none
  else if z.held && z.owner == n then { z with held := false } else z

/-- A write of MCSTAT: STOPPED and WARM are W1C (Table 21.4). -/
def Io.writeMcstat (z : Io) (v : Word) : Io :=
  { z with stopped := z.stopped &&& ~~~(v.extractLsb' 12 4), warm := z.warm && !v.getLsbD 16 }

/-- A write of SNAPCTL (Table 21.5): its enables, then LOCK, then FIRE. -/
def State.writeSnapctl (s : State) (v : Word) : State :=
  let z := s.io.snap
  let s1 := { s with io := { s.io with snap := { z with
    host := v.getLsbD 0, pin := v.getLsbD 1, instr := v.getLsbD 2, faults := v.extractLsb' 16 16
    lock := z.lock && !v.getLsbD 32 } } }
  if v.getLsbD 63 && v.getLsbD 0 then s1.snapFire srcHost else s1

/-- A write of MCCMD by a port: its operation (Table 21.3) (DEDUCED, log 69). -/
def State.mccmdWrite (s : State) (n : PortId) (v : Word) : State :=
  let op := bits v 2 0
  if !s.mcTakes n (op == 4) then s
  else match op with
    | 1 => let r := s.fwload n; r.1.mcEnd (v &&& 0x37#64) r.2
    | 2 => let r := s.setup s.io.mcarg.toNat; r.1.mcEnd (v &&& 0x37#64) r.2
    | 3 => let r := s.teardown (.ofNat 2 (bits v 5 4)); r.1.mcEnd (v &&& 0x37#64) r.2
    | 4 => s.warmReset
    | _ => s.mcEnd (v &&& 0x37#64) mcBad

/-- A write of the I/O-die register page by a port. Read-only registers and other offsets ignore it
(PRESUMED, log 89). In FAILED only HSEM and, from its holder, WARMRESET are written (R378) (DEDUCED, log 69). -/
def State.ioWrite (s : State) (n : PortId) (off : BitVec 16) (v : Word) : State :=
  if !s.accepting && off != 0x000#16 && off != 0x010#16 then s else match off.toNat with
  | 0x000 => { s with io := s.io.writeHsem n v }
  | 0x010 => s.mccmdWrite n v
  | 0x018 => { s with io := { s.io with mcarg := v } }
  | 0x028 => { s with io := s.io.writeMcstat v }
  | 0x030 => if s.io.held && s.io.owner == n then { s with io := { s.io with hperm := v.setWidth 8 } } else s
  | 0x040 => s.writeSnapctl v
  | 0x080 => s.slbase v
  | 0x088 => s.slcmd n v
  | 0x090 => s.modSl fun z => { z with arg := v }
  | _ => s

/-- A write through a partition window (R375): EVARG, LRCMD and EVCMD only, the commands from the holder of HSEM
(PRESUMED, log 89). -/
def State.windowWrite (s : State) (n : PortId) (p : PartId) (num : BitVec 12) (v : Word) : State :=
  match num.toNat with
  | 0x13D => s.regWrite p (.port n) num v
  | 0x13E => if s.mayCommand p (.port n) then s.regWrite p (.port n) num v else s
  | 0x141 => if s.mayCommand p (.port n) then s.regWrite p (.port n) num v else s
  | _ => s

/-- REGISTER_WRITE (R288, R375, R377): the supervisor's of a register of its partition, or a host's. -/
def execRegisterWrite (s : State) : Out :=
  .next (match s.ev.target with
    | .sup p n => if (s.part p).up then s.regWrite p .sup n s.ev.v else s
    | .window n p num => if s.accepting && (s.part p).up then s.windowWrite n p num s.ev.v else s
    | .io n off => if s.io.powered then s.ioWrite n off s.ev.v else s)

/-! ### What a host reads of BAR 0 and BAR 4 (R373-R377, R380, R382) -/

/-- HSEM (Table 21.2). -/
def Io.hsem (z : Io) : Word := .ofNat 64 (z.held.toNat + z.owner.toNat * 2 + z.lasttie.toNat * 4 + z.tag.toNat * 2 ^ 8)

/-- MCSTAT (Table 21.4). -/
def State.mcstat (s : State) : Word :=
  .ofNat 64 (s.io.phase.toNat + (allParts.foldl (fun n p => n + (s.part p).up.toNat * 2 ^ p.toNat) 0) * 2 ^ 8
    + s.io.stopped.toNat * 2 ^ 12 + s.io.warm.toNat * 2 ^ 16 + s.io.failcode.toNat * 2 ^ 24)

/-- SNAPCTL (Table 21.5): FIRE reads 0. -/
def Snap.ctl (z : Snap) : Word :=
  .ofNat 64 (z.host.toNat + z.pin.toNat * 2 + z.instr.toNat * 4 + z.faults.toNat * 2 ^ 16 + z.lock.toNat * 2 ^ 32)

/-- ERRCNT (R382). -/
def Io.errcnt (z : Io) : Word := .ofNat 64 (z.errc.toNat + z.erru.toNat * 2 ^ 32)

/-- A register of the I/O-die page as a port reads it (Table 21.1); reserved fields and other offsets read 0 (R7)
(PRESUMED, log 89). -/
def State.ioRead (s : State) (n : PortId) (off : Nat) : Word :=
  match off with
  | 0x000 => s.io.hsem
  | 0x008 => .ofNat 64 n.toNat
  | 0x010 => s.io.mccmd
  | 0x018 => s.io.mcarg
  | 0x020 => s.io.mcres
  | 0x028 => s.mcstat
  | 0x030 => s.io.hperm.setWidth 64
  | 0x040 => s.io.snap.ctl
  | 0x048 => s.io.snap.id
  | 0x050 => s.io.snap.miss
  | 0x080 => Tbl.get 0 s.sl.base s.sl.lastPart.toNat
  | 0x088 => s.sl.cmd
  | 0x090 => s.sl.arg
  | 0x098 => s.sl.res
  | 0x0A0 => s.sl.drops.setWidth 64
  | 0x0A8 => s.sl.accs.setWidth 64
  | 0x0B0 => s.sl.rejs.setWidth 64
  | 0x100 => s.io.errcnt
  | _ => 0

/-- A byte of BAR 0 as a port reads it: the registers, and the snapshot window from 0x1000 to 0x7FFF (Table 21.1). A byte
of the window that no capture has latched is free (log 11). -/
def State.ioByte (s : State) (n : PortId) (a : Nat) : Byte :=
  if 0x1000 ≤ a ∧ a < 0x8000 then (s.io.snap.window[a - 0x1000]?).getD (freeByte s.freeCtr a)
  else (s.ioRead n (a / 8 * 8)).extractLsb' (8 * (a % 8)) 8

/-- A register of partition window p as a port reads it (R375): PART, TOKENS, LRRES, EVRES and SNAPID, each agent the
results of its own commands; any other number reads 0, and so does a partition that is not set up
(PRESUMED, log 89). -/
def State.windowRead (s : State) (n : PortId) (p : PartId) (num : BitVec 12) : Word :=
  if (s.part p).up && [0x120, 0x148, 0x142, 0x13F, 0x10C].contains num.toNat then (s.regRead p (.port n) num).getD 0 else 0

/-! ### BAR 2 (R373) -/

/-- A BAR 2 access by a port to a byte of HBM is permitted. -/
def State.barOk (s : State) (n : PortId) (a : Nat) : Bool :=
  inHbm a && (match allParts.find? fun p => (s.part p).dies.getLsbD (stackOf a / 2) with
    | some p => s.io.hperm.getLsbD (4 * n.toNat + p.toNat)
    | none => s.io.held && s.io.owner == n)

/-- HOST_MEMORY_WRITE (R118, R373): bytes at an offset; those that are not permitted are dropped, and all of them in
FAILED (R378) (DEDUCED, log 69). -/
def execHostMemoryWrite (s : State) : Out :=
  let a := s.ev.va.toNat
  let bs := ((List.range s.ev.bytes.length).zip s.ev.bytes).map fun q => (q.2, s.barOk s.ev.port (a + q.1))
  .next (if s.accepting then s.physWriteEn a bs else s)

/-- The byte that a host reads. -/
def State.barByte (s : State) (n : PortId) (a i : Nat) : Byte :=
  if !s.barOk n (a + i) then 0xFF else if s.poisoned (a + i) then freeByte s.freeCtr i else s.mem.read (a + i)

/-- The bytes that a host's read returns: `n` bytes of BAR 0 from an offset on, a register of BAR 4, or `n` bytes of
BAR 2, where those that are not permitted read as ones. The spec does not say what a poisoned line reads as. -/
def State.hostBytes (s : State) : List Byte :=
  match s.ev.target with
  | .io n off => (List.range s.ev.n.toNat).map fun i => s.ioByte n (off.toNat + i)
  | .window n p num => leBytes 8 (s.windowRead n p num).toNat
  | .sup _ _ => (List.range s.ev.n.toNat).map (s.barByte s.ev.port s.ev.va.toNat)

/-- HOST_MEMORY_READ (R373, R375): a read of a host; the event's target is BAR 0, BAR 4 or, as `sup`, BAR 2. -/
def execHostMemoryRead (s : State) : Out :=
  .next (if s.io.powered then { s with freeCtr := s.freeCtr + 1, io := { s.io with bar2 := s.hostBytes } } else s)

/-! ### The failure of one unit (R312, R344) -/

/-- The home of a partition's queue logic while it is not mirrored: stack 0 of its lowest die (R312)
(DESIGN CHOICE, log 72). -/
def Part.primaryHome (P : Part) : BitVec 3 := .ofNat 3 (2 * (lowestDie P.dies).toNat)

/-- The queue logic of a partition is lost with base die k: it is not mirrored, and k is its home (R312, R344)
(DESIGN CHOICE, log 72). -/
def Part.losesQueues (P : Part) (k : BitVec 3) : Bool := P.up && !P.schcfg.getLsbD 8 && P.primaryHome == k

/-- Tasks on the cores of a die are handled as failed saves (R341), and its cores leave service
(DEDUCED, log 71). -/
def State.failDie (s : State) (d : BitVec 2) : State :=
  let p := s.partOfDie d
  let cs := allCores.filter fun c => dieOf c == d
  let s1 := cs.foldl (fun t c => if (t.core c).occ == .task then t.failCores p (t.saveSet c) else t) s
  let s2 := s1.modPart p fun P => cs.foldl (fun P c => { P with resv := P.resv.map fun r =>
    { r with cores := r.cores.filter (· != c) } }) P
  (cs.foldl (fun t c => t.setCore c { out := true }) s2).evProgress p

/-- An HBM stack fails: its lines read as poisoned from then on (DEDUCED, log 71). -/
def State.failStack (s : State) (k : BitVec 3) : State := { s with dead := s.dead ||| (1#8 <<< k.toNat) }

/-- SINGLE_DIE_OR_STACK_FAILURE (R344): the queue logic of a mirrored partition lives on in its other home. With MIRROR
0 the spec voids the guarantee and gives no effect where the home itself is lost (DESIGN CHOICE, log 72). -/
def execSingleDieOrStackFailure (s : State) : Out :=
  match s.ev.unit with
  | .die d => .next (s.failDie d)
  | .stack k => .next (s.failStack k)
  | .baseDie k =>
    if allParts.any fun p => (s.part p).losesQueues k then .fault .unmirrored else .next (s.failStack k)

end Sys2Proof.Machine
end

