-- ==== Sys2Proof/Machine/Priv.lean ====
section
/-! DEFINITION. The privileged functions (R286-R292). Their mode check is the decoder's (R284). -/
namespace Sys2Proof.Machine

/-- SRET (R287): with PEND the event is taken again at once. -/
def execSret (s : State) : Out :=
  let t := s.leaveEvent (s.partOf s.cur)
  issueA s (if s.myPart.sup.inev then .jump t t.here.a.pc else .fault { code := .illegal })

/-- A control register as the supervisor reads it: a user register of its own core, or one of its partition (R288). -/
def State.supRead (s : State) (n : BitVec 12) : Option Word := (s.readCtl n).or (s.regRead (s.partOf s.cur) .sup n)

/-- SRDCTL (R288). -/
def execSrdctl (d : Reg) (i : BitVec 12) (_e : Bool) (s : State) : Out :=
  issueA s (
    match s.supRead i with
    | none => .fault { code := .illegal }
    | some v => alu0 s d v)

/-- A write of a control register by the supervisor (R288). -/
def State.supWrite (s : State) (n : BitVec 12) (v : Word) : Except Flt State :=
  if (s.readCtl n).isSome then s.writeCtl n v else .ok (s.regWrite (s.partOf s.cur) .sup n v)

/-- SWRCTL (R288): the number is checked before the register is read. -/
def execSwrctl (d : Reg) (i : BitVec 12) (e : Bool) (s : State) : Out :=
  issueA s (
    match s.supRead i with
    | none => .fault { code := .illegal }
    | some _ => with1 s d e fun v s1 =>
      match s1.supWrite i v with
      | .error f => .fault f
      | .ok t => .ok t)

/-- The TLB entries that TLBINV removes (R289). -/
def tlbPick (va sel : Word) (e : TlbEnt) : Bool :=
  (sel.getLsbD 33 || e.ctx == sel.setWidth 16) && (sel.getLsbD 32 || e.meets (bits va 55 16) (bits sel 31 16 + 1))

/-- TLBINV (R289, R351). -/
def execTlbinv (a b : Reg) (e : Bool) (s : State) : Out :=
  issueA s (with2 s a b e fun va sel s1 =>
    if bits sel 63 34 ≠ 0 then .fault { code := .illegal }
    else .ok (s1.tlbDrop (s1.partOf s1.cur) (tlbPick va sel)))

/-- SESPALL (R290): every row of the context lies in the Spillway (DEDUCED, log 66). -/
def execSespall (a : Reg) (e : Bool) (s : State) : Out :=
  issueA s (with1 s a e fun v s1 =>
    if bits v 63 16 ≠ 0 then .fault { code := .illegal }
    else .ok (s1.modRows fun l => l.map fun r => if r.ctx == v.setWidth 16 then { r with loc := none } else r))

/-- SNAPT (R291, R380). With INSTR 0 it triggers nothing, and the spec gives no value for d. -/
def State.snapt (s : State) (tag : BitVec 16) : Word × State :=
  if s.io.snap.instr then
    let t := s.snapFire (srcInstr tag)
    (t.io.snap.answer t.clk, t)
  else s.freshWord

/-- SNAPT (R291) (DEDUCED, log 66). -/
def execSnapt (d a : Reg) (e : Bool) (s : State) : Out :=
  issueA s (s.gate e [a] [d] (s.rd a fun v s1 =>
    if bits v 63 16 ≠ 0 then .fault { code := .illegal }
    else
      let r := s1.snapt (v.setWidth 16)
      r.2.wr d r.1 .ok))

/-- A core leaves every reservation (R314). -/
def Part.unreserve (P : Part) (c : CoreId) : Part :=
  { P with resv := P.resv.map fun r => { r with cores := r.cores.filter (· != c) } }

/-- Core C was in service before the CORESTOP that is being carried out. -/
def Core.wasIn (k : Core) : Bool := !k.out || k.stopping

/-- CORESTOP's first step on a core: out of service, out of its reservation, its task to be saved (R292, R327)
(DEDUCED, log 67). -/
def State.stopCore (s : State) (c : CoreId) : State :=
  ((s.modCore c fun k => { k with out := true, stopping := k.wasIn }).modPart (s.partOf c) (·.unreserve c)).askSave c

/-- CORESTOP retires (R292) (DEDUCED, log 67). -/
def State.coreDone (s : State) (c : CoreId) (out : Bool) : State := s.modCore c fun k => { k with out := out, stopping := false }

/-- CORESTOP (R292): while the task is being saved the instruction waits, and it reads its operand again at its end
(DEDUCED, log 66) (DEDUCED, log 67). -/
def execCorestop (d a : Reg) (e : Bool) (s : State) : Out :=
  issueA s (s.gate e [a] [d] (s.rd a fun v s1 =>
    let c : CoreId := v.setWidth 8
    let was : Word := if (s1.core c).wasIn then 1 else 0
    if bits v 63 9 ≠ 0 then .fault { code := .illegal }
    else if !s1.myPart.isTaskCore c then .fault protOpen
    else if !v.getLsbD 8 then (s1.coreDone c false).wr d was .ok
    else if (s1.core c).occ == .task then .stallIn (s.stopCore c) (.core c)
    else (((s1.modPart (s1.partOf c) (·.unreserve c)).coreDone c true).wr d was .ok)))

end Sys2Proof.Machine
end

