-- ==== Sys2Proof/Machine/Vector.lean ====
section
/-! DEFINITION. Arithmetic, logic, compares and functions of the X-strand on lanes (R181-R185, R195). -/
namespace Sys2Proof.Machine

/-- The rounding mode of an XV instruction (R176). -/
def Core.mode (k : Core) : Rmode := k.ctl.mode
/-- The hash of stochastic rounding for element e (R80, R176). -/
def Core.srh (k : Core) (e : Nat) : Nat := srHash k.ctl.rngseed k.x.lc (.ofNat 32 e)

/-- A binary function that rounds by RNDM.MODE. -/
def fp2 (s : State) (w : Nat) (d a b : VNo) (p : PNo) (e : Bool) (f : Rmode → Nat → Nat → Nat → Nat × Flags) : Eff :=
  vec2 s w d a b p e fun i x y => f s.here.mode (s.here.srh i) x y
/-- A fused function that rounds once by RNDM.MODE; vd is the third source. -/
def fp3 (s : State) (w : Nat) (d a b : VNo) (p : PNo) (e : Bool)
    (f : Rmode → Nat → Nat → Nat → Nat → Nat × Flags) : Eff :=
  vec3 s w d a b p e fun i x y z => f s.here.mode (s.here.srh i) x y z
/-- A unary function that rounds by RNDM.MODE. -/
def fp1 (s : State) (d a : VNo) (p : PNo) (e : Bool) (f : Rmode → Nat → Nat → Nat × Flags) : Eff :=
  vec1 s 32 d a p e fun i x => f s.here.mode (s.here.srh i) x
/-- A binary lane function without flags. -/
def int2 (s : State) (w : Nat) (d a b : VNo) (p : PNo) (e : Bool) (f : Nat → Nat → Nat) : Eff :=
  vec2 s w d a b p e fun _ x y => (f x y, 0#6)

/-- The signed value of a w-bit lane. -/
def sgn (w x : Nat) : Int := if 2 ^ (w - 1) ≤ x then (x : Int) - 2 ^ w else x
/-- The w-bit code of an integer. -/
def unsg (w : Nat) (v : Int) : Nat := (v % 2 ^ w).toNat
/-- A saturated signed sum or difference, with SAT when it clamps (R183). -/
def satTo (w : Nat) (v : Int) : Nat × Flags :=
  if v < -2 ^ (w - 1) then (2 ^ (w - 1), flSAT)
  else if 2 ^ (w - 1) - 1 < v then (2 ^ (w - 1) - 1, flSAT)
  else (unsg w v, 0#6)

/-- The shifts of 32-bit lanes by an unsigned count (R184). -/
def laneShl (x c : Nat) : Nat := if 32 ≤ c then 0 else x * 2 ^ c % 2 ^ 32
def laneShr (x c : Nat) : Nat := if 32 ≤ c then 0 else x / 2 ^ c
def laneSar (x c : Nat) : Nat :=
  if 32 ≤ c then (if 2 ^ 31 ≤ x then 2 ^ 32 - 1 else 0) else unsg 32 (sgn 32 x / 2 ^ c)

/-- The conditions of the FP32 compares (R185). -/
def eqF32 (x y : Nat) : Bool := numEq (codeValue .fp32 x) (codeValue .fp32 y)
def ltF32 (x y : Nat) : Bool := numLt (codeValue .fp32 x) (codeValue .fp32 y)
def leF32 (x y : Nat) : Bool := ltF32 x y || eqF32 x y
def unF32 (x y : Nat) : Bool := codeValue .fp32 x == .nan || codeValue .fp32 y == .nan

/-- VADD.F32 (R181). -/
def execVaddF32 (d a b : VNo) (p : PNo) (e : Bool) (s : State) : Out := issueX s (fp2 s 32 d a b p e (fpAdd .fp32))
/-- VSUB.F32 (R181). -/
def execVsubF32 (d a b : VNo) (p : PNo) (e : Bool) (s : State) : Out := issueX s (fp2 s 32 d a b p e (fpSub .fp32))
/-- VMUL.F32 (R181). -/
def execVmulF32 (d a b : VNo) (p : PNo) (e : Bool) (s : State) : Out := issueX s (fp2 s 32 d a b p e (fpMul .fp32))
/-- VMIN.F32 (R95, R181). -/
def execVminF32 (d a b : VNo) (p : PNo) (e : Bool) (s : State) : Out := issueX s (int2 s 32 d a b p e (fpMin .fp32))
/-- VMAX.F32 (R95, R181). -/
def execVmaxF32 (d a b : VNo) (p : PNo) (e : Bool) (s : State) : Out := issueX s (int2 s 32 d a b p e (fpMax .fp32))
/-- VCPSGN.F32 (R95, R181). -/
def execVcpsgnF32 (d a b : VNo) (p : PNo) (e : Bool) (s : State) : Out := issueX s (int2 s 32 d a b p e (fpCpsgn .fp32))
/-- VFMA.F32 (R181). -/
def execVfmaF32 (d a b : VNo) (p : PNo) (e : Bool) (s : State) : Out := issueX s (fp3 s 32 d a b p e (fpFma .fp32 false))
/-- VFNMA.F32 (R181). -/
def execVfnmaF32 (d a b : VNo) (p : PNo) (e : Bool) (s : State) : Out := issueX s (fp3 s 32 d a b p e (fpFma .fp32 true))
/-- VADD.F16 (R181). -/
def execVaddF16 (d a b : VNo) (p : PNo) (e : Bool) (s : State) : Out := issueX s (fp2 s 16 d a b p e (fpAdd .fp16))
/-- VSUB.F16 (R181). -/
def execVsubF16 (d a b : VNo) (p : PNo) (e : Bool) (s : State) : Out := issueX s (fp2 s 16 d a b p e (fpSub .fp16))
/-- VMUL.F16 (R181). -/
def execVmulF16 (d a b : VNo) (p : PNo) (e : Bool) (s : State) : Out := issueX s (fp2 s 16 d a b p e (fpMul .fp16))
/-- VMIN.F16 (R95, R181). -/
def execVminF16 (d a b : VNo) (p : PNo) (e : Bool) (s : State) : Out := issueX s (int2 s 16 d a b p e (fpMin .fp16))
/-- VMAX.F16 (R95, R181). -/
def execVmaxF16 (d a b : VNo) (p : PNo) (e : Bool) (s : State) : Out := issueX s (int2 s 16 d a b p e (fpMax .fp16))
/-- VCPSGN.F16 (R95, R181). -/
def execVcpsgnF16 (d a b : VNo) (p : PNo) (e : Bool) (s : State) : Out := issueX s (int2 s 16 d a b p e (fpCpsgn .fp16))
/-- VFMA.F16 (R181). -/
def execVfmaF16 (d a b : VNo) (p : PNo) (e : Bool) (s : State) : Out := issueX s (fp3 s 16 d a b p e (fpFma .fp16 false))
/-- VFNMA.F16 (R181). -/
def execVfnmaF16 (d a b : VNo) (p : PNo) (e : Bool) (s : State) : Out := issueX s (fp3 s 16 d a b p e (fpFma .fp16 true))
/-- VADD.BF16 (R181). -/
def execVaddBF16 (d a b : VNo) (p : PNo) (e : Bool) (s : State) : Out := issueX s (fp2 s 16 d a b p e (fpAdd .bf16))
/-- VSUB.BF16 (R181). -/
def execVsubBF16 (d a b : VNo) (p : PNo) (e : Bool) (s : State) : Out := issueX s (fp2 s 16 d a b p e (fpSub .bf16))
/-- VMUL.BF16 (R181). -/
def execVmulBF16 (d a b : VNo) (p : PNo) (e : Bool) (s : State) : Out := issueX s (fp2 s 16 d a b p e (fpMul .bf16))
/-- VMIN.BF16 (R95, R181). -/
def execVminBF16 (d a b : VNo) (p : PNo) (e : Bool) (s : State) : Out := issueX s (int2 s 16 d a b p e (fpMin .bf16))
/-- VMAX.BF16 (R95, R181). -/
def execVmaxBF16 (d a b : VNo) (p : PNo) (e : Bool) (s : State) : Out := issueX s (int2 s 16 d a b p e (fpMax .bf16))
/-- VCPSGN.BF16 (R95, R181). -/
def execVcpsgnBF16 (d a b : VNo) (p : PNo) (e : Bool) (s : State) : Out := issueX s (int2 s 16 d a b p e (fpCpsgn .bf16))
/-- VFMA.BF16 (R181). -/
def execVfmaBF16 (d a b : VNo) (p : PNo) (e : Bool) (s : State) : Out := issueX s (fp3 s 16 d a b p e (fpFma .bf16 false))
/-- VFNMA.BF16 (R181). -/
def execVfnmaBF16 (d a b : VNo) (p : PNo) (e : Bool) (s : State) : Out := issueX s (fp3 s 16 d a b p e (fpFma .bf16 true))

/-- VADD on 32-bit integer lanes (R182). -/
def execVaddI32 (d a b : VNo) (p : PNo) (e : Bool) (s : State) : Out := issueX s (int2 s 32 d a b p e fun x y => (x + y) % 2 ^ 32)
/-- VSUB on 32-bit integer lanes (R182). -/
def execVsubI32 (d a b : VNo) (p : PNo) (e : Bool) (s : State) : Out := issueX s (int2 s 32 d a b p e fun x y => (x + 2 ^ 32 - y) % 2 ^ 32)
/-- VMUL on 32-bit integer lanes (R182). -/
def execVmulI32 (d a b : VNo) (p : PNo) (e : Bool) (s : State) : Out := issueX s (int2 s 32 d a b p e fun x y => x * y % 2 ^ 32)
/-- VMULH on 32-bit integer lanes (R182). -/
def execVmulhI32 (d a b : VNo) (p : PNo) (e : Bool) (s : State) : Out := issueX s (int2 s 32 d a b p e fun x y => unsg 32 (sgn 32 x * sgn 32 y / 2 ^ 32))
/-- VMIN on 32-bit integer lanes (R182). -/
def execVminI32 (d a b : VNo) (p : PNo) (e : Bool) (s : State) : Out := issueX s (int2 s 32 d a b p e fun x y => if sgn 32 y < sgn 32 x then y else x)
/-- VMAX on 32-bit integer lanes (R182). -/
def execVmaxI32 (d a b : VNo) (p : PNo) (e : Bool) (s : State) : Out := issueX s (int2 s 32 d a b p e fun x y => if sgn 32 x < sgn 32 y then y else x)
/-- VMINU on 32-bit integer lanes (R182). -/
def execVminUI32 (d a b : VNo) (p : PNo) (e : Bool) (s : State) : Out := issueX s (int2 s 32 d a b p e fun x y => Nat.min x y)
/-- VMAXU on 32-bit integer lanes (R182). -/
def execVmaxUI32 (d a b : VNo) (p : PNo) (e : Bool) (s : State) : Out := issueX s (int2 s 32 d a b p e fun x y => Nat.max x y)
/-- VADD.I16 (R183). -/
def execVaddI16 (d a b : VNo) (p : PNo) (e : Bool) (s : State) : Out := issueX s (int2 s 16 d a b p e fun x y => (x + y) % 2 ^ 16)
/-- VSUB.I16 (R183). -/
def execVsubI16 (d a b : VNo) (p : PNo) (e : Bool) (s : State) : Out := issueX s (int2 s 16 d a b p e fun x y => (x + 2 ^ 16 - y) % 2 ^ 16)
/-- VADDS.I16 (R183). -/
def execVaddsI16 (d a b : VNo) (p : PNo) (e : Bool) (s : State) : Out := issueX s (vec2 s 16 d a b p e fun _ x y => satTo 16 (sgn 16 x + sgn 16 y))
/-- VSUBS.I16 (R183). -/
def execVsubsI16 (d a b : VNo) (p : PNo) (e : Bool) (s : State) : Out := issueX s (vec2 s 16 d a b p e fun _ x y => satTo 16 (sgn 16 x - sgn 16 y))
/-- VADD.I8 (R183). -/
def execVaddI8 (d a b : VNo) (p : PNo) (e : Bool) (s : State) : Out := issueX s (int2 s 8 d a b p e fun x y => (x + y) % 2 ^ 8)
/-- VSUB.I8 (R183). -/
def execVsubI8 (d a b : VNo) (p : PNo) (e : Bool) (s : State) : Out := issueX s (int2 s 8 d a b p e fun x y => (x + 2 ^ 8 - y) % 2 ^ 8)
/-- VADDS.I8 (R183). -/
def execVaddsI8 (d a b : VNo) (p : PNo) (e : Bool) (s : State) : Out := issueX s (vec2 s 8 d a b p e fun _ x y => satTo 8 (sgn 8 x + sgn 8 y))
/-- VSUBS.I8 (R183). -/
def execVsubsI8 (d a b : VNo) (p : PNo) (e : Bool) (s : State) : Out := issueX s (vec2 s 8 d a b p e fun _ x y => satTo 8 (sgn 8 x - sgn 8 y))

/-- A bitwise function on bytes under a predicate (R184). -/
def bitwise (s : State) (d a b : VNo) (p : PNo) (e : Bool) (f : VReg → VReg → VReg) : Eff :=
  let pg := s.here.preg p
  s.vgate e [a, b] (some d) <| s.rdV e a fun x s1 => s1.rdV e b fun y s2 => s2.wrV d 8 pg (f x y) .ok

/-- VAND (R184). -/
def execVand (d a b : VNo) (p : PNo) (e : Bool) (s : State) : Out := issueX s (bitwise s d a b p e fun x y => x &&& y)
/-- VOR (R184). -/
def execVor (d a b : VNo) (p : PNo) (e : Bool) (s : State) : Out := issueX s (bitwise s d a b p e fun x y => x ||| y)
/-- VXOR (R184). -/
def execVxor (d a b : VNo) (p : PNo) (e : Bool) (s : State) : Out := issueX s (bitwise s d a b p e fun x y => x ^^^ y)
/-- VANDN (R184). -/
def execVandn (d a b : VNo) (p : PNo) (e : Bool) (s : State) : Out := issueX s (bitwise s d a b p e fun x y => x &&& ~~~y)
/-- VSHL (R184). -/
def execVshl (d a b : VNo) (p : PNo) (e : Bool) (s : State) : Out := issueX s (int2 s 32 d a b p e laneShl)
/-- VSHR (R184). -/
def execVshr (d a b : VNo) (p : PNo) (e : Bool) (s : State) : Out := issueX s (int2 s 32 d a b p e laneShr)
/-- VSAR (R184). -/
def execVsar (d a b : VNo) (p : PNo) (e : Bool) (s : State) : Out := issueX s (int2 s 32 d a b p e laneSar)
/-- VNOT (R184). -/
def execVnot (d a : VNo) (p : PNo) (e : Bool) (s : State) : Out :=
  issueX s (s.vgate e [a] (some d) <| s.rdV e a fun x s1 => s1.wrV d 8 (s.here.preg p) (~~~x) .ok)

/-- VeqF32 (R185). -/
def execVeqF32 (d : PNo) (a b : VNo) (p : PNo) (e : Bool) (s : State) : Out := issueX s (cmp2 s d a b p e (eqF32))
/-- VltF32 (R185). -/
def execVltF32 (d : PNo) (a b : VNo) (p : PNo) (e : Bool) (s : State) : Out := issueX s (cmp2 s d a b p e (ltF32))
/-- VleF32 (R185). -/
def execVleF32 (d : PNo) (a b : VNo) (p : PNo) (e : Bool) (s : State) : Out := issueX s (cmp2 s d a b p e (leF32))
/-- VunF32 (R185). -/
def execVunF32 (d : PNo) (a b : VNo) (p : PNo) (e : Bool) (s : State) : Out := issueX s (cmp2 s d a b p e (unF32))
/-- VeqI32 (R185). -/
def execVeqI32 (d : PNo) (a b : VNo) (p : PNo) (e : Bool) (s : State) : Out := issueX s (cmp2 s d a b p e (fun x y => x == y))
/-- VltI32 (R185). -/
def execVltI32 (d : PNo) (a b : VNo) (p : PNo) (e : Bool) (s : State) : Out := issueX s (cmp2 s d a b p e (fun x y => decide (sgn 32 x < sgn 32 y)))
/-- VltUI32 (R185). -/
def execVltUI32 (d : PNo) (a b : VNo) (p : PNo) (e : Bool) (s : State) : Out := issueX s (cmp2 s d a b p e (fun x y => decide (x < y)))
/-- VneI32 (R185). -/
def execVneI32 (d : PNo) (a b : VNo) (p : PNo) (e : Bool) (s : State) : Out := issueX s (cmp2 s d a b p e (fun x y => x != y))

/-- VEXP2 (R96, R195). -/
def execVexp2 (d a : VNo) (p : PNo) (e : Bool) (s : State) : Out := issueX s (fp1 s d a p e fpExp2)
/-- VLOG2 (R96, R195). -/
def execVlog2 (d a : VNo) (p : PNo) (e : Bool) (s : State) : Out := issueX s (fp1 s d a p e fpLog2)
/-- VRCP (R96, R195). -/
def execVrcp (d a : VNo) (p : PNo) (e : Bool) (s : State) : Out := issueX s (fp1 s d a p e fpRcp)
/-- VRSQ (R96, R195). -/
def execVrsq (d a : VNo) (p : PNo) (e : Bool) (s : State) : Out := issueX s (fp1 s d a p e fpRsqrt)
/-- VSQRT (R96, R195). -/
def execVsqrt (d a : VNo) (p : PNo) (e : Bool) (s : State) : Out := issueX s (fp1 s d a p e fpSqrt)
/-- VDIV (R96, R195). -/
def execVdiv (d a b : VNo) (p : PNo) (e : Bool) (s : State) : Out := issueX s (fp2 s 32 d a b p e fpDiv)

end Sys2Proof.Machine
end

