-- ==== Sys2Proof/Machine/Weir.lean ====
section
/-! DEFINITION. The Weir interval boundary (R313, R314, R317, R318, R386): ageing, expiry of reservations, RILLSL, and the
moves of cores between a pipeline's stages (R255). -/
namespace Sys2Proof.Machine

/-- clk of a Weir interval; WEIRU 0 acts as 16 (Table 17.6, R318). -/
def Part.weirLen (P : Part) : Nat :=
  let u := bits P.schcfg 7 0
  (if u = 0 then 16 else u) * 4096

/-! ### Ageing (R34, R313) -/

/-- The entry has waited more than 4 intervals and ages: not in DET mode, not while its context holds it
(DEDUCED, log 54). -/
def Part.ages (P : Part) (e : REnt) : Bool := !e.det && (P.ctx e.ctx).active && decide (4 * P.weirLen < e.waited)

/-- The aged entries of priority k join the tail of the next one, in their order (DEDUCED, log 54). -/
def Part.promote (P : Part) (k : BitVec 2) : Part :=
  let old := (P.ready k).filter P.ages
  let P1 := P.setReady k ((P.ready k).filter fun e => !P.ages e)
  { P1.setReady (k + 1) (P.ready (k + 1) ++ old.map fun e => { e with waited := 0 }) with
    resv := P1.resv.map fun r => if old.any (fun e => e.multi && e.lrec == r.lrec) then { r with prio := k + 1 } else r }

/-- Ageing at a boundary: from the highest priority down, so that no record moves twice. -/
def Part.ageAll (P : Part) : Part := ((P.promote 2#2).promote 1#2).promote 0#2

/-! ### Expiry of reservations (R314) -/

/-- Reservations older than an interval release their cores; their entries rest until the next boundary. -/
def Part.expireResv (P : Part) : Part :=
  let late := (P.resv.filter fun r => decide (P.weirLen ≤ r.age)).map (·.lrec)
  { P with
    resv := P.resv.filter fun r => !late.contains r.lrec
    rq := Tbl.mapVal (fun _ l => l.map fun e => if e.multi then { e with rest := late.contains e.lrec } else e) P.rq }

/-! ### The Weir (R255, R317) -/

/-- A stage as the Weir sees it: index, unheld committed items of its input, the input's depth, cores, MINC, MAXC. -/
structure StageView where
  ix : Nat
  count : Nat
  depth : Nat
  cores : Nat
  minc : Nat
  maxc : Nat
  deriving DecidableEq, Repr

/-- The stage that a core will serve: a posted move counts as made (DEDUCED, log 55). -/
def Pipe.stageSoon (x : Pipe) (q : CoreId × BitVec 4) : BitVec 4 := ((x.moves.find? (·.1 == q.1)).map (·.2)).getD q.2

/-- The snapshot of every stage of a pipeline (R317) (DEDUCED, log 55). -/
def Part.stageViews (P : Part) (i : BitVec 12) (r : LRec) (x : Pipe) : List StageView :=
  ((List.range r.pipe.stages.length).zip r.pipe.stages).map fun q =>
    let n := match P.rill i r q.2.inr with
      | none => (0, 1)
      | some z => (z.items.countP (fun i : QItem => i.st == ItemSt.ready), z.depth)
    { ix := q.1, count := n.1, depth := n.2, cores := x.cores.countP fun c => (x.stageSoon c).toNat == q.1
      minc := q.2.minc.toNat, maxc := q.2.maxc.toNat }

/-- Stage a is fuller than stage b, as exact fractions (R317). -/
def StageView.fuller (a b : StageView) : Bool := decide (b.count * a.depth < a.count * b.depth)

/-- The fullest stage that may gain a core, lowest index on ties. -/
def weirHi (l : List StageView) : Option StageView :=
  (l.filter fun v => decide (v.cores < v.maxc)).foldl (fun b v => match b with
    | none => some v
    | some w => if v.fuller w then some v else b) none

/-- The emptiest stage that may lose a core, lowest index on ties. -/
def weirLo (l : List StageView) : Option StageView :=
  (l.filter fun v => decide (v.minc < v.cores)).foldl (fun b v => match b with
    | none => some v
    | some w => if w.fuller v then some v else b) none

/-- φ(hi) − φ(lo) is above 1/8, a signed comparison (R317). -/
def weirFar (hi lo : StageView) : Bool :=
  decide ((hi.depth * lo.depth : Int) < 8 * ((hi.count * lo.depth : Int) - lo.count * hi.depth))

/-- The pairs of stages between which a core moves: from, to (R255). -/
def weirMoves : Nat → List StageView → List (Nat × Nat)
  | 0, _ => []
  | fuel + 1, l =>
    match weirHi l, weirLo l with
    | some hi, some lo =>
      if hi.ix = lo.ix || !weirFar hi lo then []
      else (lo.ix, hi.ix) :: weirMoves fuel (l.filter fun v => v.ix != hi.ix && v.ix != lo.ix)
    | _, _ => []

/-- One core moves between two stages: an idle one at once, else a running one at its next task boundary; the lowest
COREID of its kind (R255, R317) (DEDUCED, log 55). -/
def State.moveCore (s : State) (p : PartId) (i : Nat) (m : Nat × Nat) : State :=
  let x := Tbl.get ({} : Pipe) (s.part p).pipes i
  let mine := (x.cores.filter fun q => (x.stageSoon q).toNat == m.1 && !x.moves.any (·.1 == q.1)).map (·.1)
  let idle := sortCores (mine.filter fun c => (s.core c).occ == .idle)
  let n : BitVec 4 := .ofNat 4 m.2
  match idle, sortCores mine with
  | c :: _, _ => s.modPart p fun P => { P with pipes := Tbl.set P.pipes i { x with
      cores := x.cores.map fun q => if q.1 == c then (c, n) else q } }
  | [], c :: _ => s.modPart p fun P => { P with pipes := Tbl.set P.pipes i { x with moves := x.moves ++ [(c, n)] } }
  | [], [] => s

/-- The Weir decides for one pipeline whose interval has passed; none while its context is suspended (R386). -/
def State.weirPipe (s : State) (p : PartId) (L : Nat) (i : Nat) : State :=
  let P := s.part p
  let x := Tbl.get ({} : Pipe) P.pipes i
  if x.interval < L then s
  else
    let r := P.lrec (.ofNat 12 i)
    let s1 := s.modPart p fun P => { P with pipes := Tbl.set P.pipes i { x with interval := x.interval - L } }
    if (P.ctx r.ctx).active then (weirMoves 8 (P.stageViews (.ofNat 12 i) r x)).foldl (fun t m => t.moveCore p i m) s1 else s1

/-- WEIR_INTERVAL (R313, R314, R318): the boundary of the partition's interval, and of each pipeline's. -/
def execWeirInterval (s : State) : Out :=
  let p := s.ev.part
  let P := s.part p
  let L := P.weirLen
  let s1 := if P.interval < L then s else s.modPart p fun P =>
    { P.ageAll.expireResv with interval := P.interval - L, rillsl := .ofNat 6 (Nat.min (bits P.schcfg 19 14) 32) }
  .next (if P.up then (P.pipes.map (·.1)).foldl (fun t i => t.weirPipe p L i) s1 else s)

end Sys2Proof.Machine
end

