-- ==== Sys2Proof/Machine/Xstrand.lean ====
section
/-! DEFINITION. Moves, permutes, conversion, quantisation, reductions, predicates and control of the X-strand
(R186-R194, R196, R197, R200, R201). -/
namespace Sys2Proof.Machine

/-- Lane 0 of a register, 32 bits. -/
def lane0 (v : VReg) : Nat := v.toNat % 2 ^ 32

/-- VSEL: the predicate selects bytes; every byte is written (R186). -/
def execVsel (d a b : VNo) (p : PNo) (e : Bool) (s : State) : Out :=
  let m := byteMask (s.here.preg p)
  issueX s (s.vgate e [a, b] (some d) <| s.rdV e a fun x s1 => s1.rdV e b fun y s2 => s2.wrV d 8 allOn ((x &&& m) ||| (y &&& ~~~m)) .ok)
/-- VMOV (R186). -/
def execVmov (d a : VNo) (p : PNo) (e : Bool) (s : State) : Out :=
  issueX s (s.vgate e [a] (some d) <| s.rdV e a fun x s1 => s1.wrV d 8 (s.here.preg p) x .ok)

/-- A lane permutation of va under a parameter from vb: `f xs y e` gives lane e. -/
def permute (s : State) (d a b : VNo) (p : PNo) (e : Bool) (f : List Nat → VReg → Nat → Nat) : Eff :=
  let pg := s.here.preg p
  s.vgate e [a, b] (some d) <| s.rdV e a fun x s1 => s1.rdV e b fun y s2 =>
    s2.wrV d 32 pg (packV 32 ((List.range 128).map (f (lanesOf 32 128 x) y))) .ok

/-- VBCL (R186). -/
def execVbcl (d a b : VNo) (p : PNo) (e : Bool) (s : State) : Out :=
  issueX s (permute s d a b p e fun xs y _ => xs.getD (lane0 y % 128) 0)
/-- VPERM (R186). -/
def execVperm (d a b : VNo) (p : PNo) (e : Bool) (s : State) : Out :=
  issueX s (permute s d a b p e fun xs y i =>
    let k := y.toNat / 2 ^ (32 * i) % 2 ^ 32
    if k < 128 then xs.getD k 0 else 0)
/-- VSLUP (R186). -/
def execVslup (d a b : VNo) (p : PNo) (e : Bool) (s : State) : Out :=
  issueX s (permute s d a b p e fun xs y i => if lane0 y ≤ i then xs.getD (i - lane0 y) 0 else 0)
/-- VSLDN (R186). -/
def execVsldn (d a b : VNo) (p : PNo) (e : Bool) (s : State) : Out :=
  issueX s (permute s d a b p e fun xs y i => if i + lane0 y ≤ 127 then xs.getD (i + lane0 y) 0 else 0)

/-- VTOA: pushes lanes 0 and 1 as one XQ entry, waiting while XQ holds 8 (R187). -/
def execVtoa (a : VNo) (e : Bool) (s : State) : Out :=
  issueX s (s.vgate e [a] none <|
    if s.here.q.xq.length < 8 then
      s.rdV e a fun x s1 => .ok (s1.modHere fun k => { k with q := { k.q with xq := k.q.xq ++ [x.setWidth 64] } })
    else .stall .xpush)

/-- The random bits of a lane (R188). -/
def vrandLane (seed : Word) (c : W32) (i : Nat) : Nat :=
  bits (mix64 (seed ^^^ 0x5851F42D4C957F2D#64 ^^^ mix64 (c ++ BitVec.ofNat 32 i))) 63 32
/-- VRAND (R188). -/
def execVrand (d a : VNo) (p : PNo) (e : Bool) (s : State) : Out :=
  issueX s (s.vgate e [a] (some d) <| s.rdV e a fun x s1 =>
    s1.wrV d 32 (s.here.preg p)
      (packV 32 ((List.range 128).map (vrandLane s.here.ctl.rngseed (x.setWidth 32)))) .ok)

/-! ### Conversion and quantisation -/

/-- Flags of a list of results. -/
def allFlags (rs : List (Nat × Flags)) : Flags := rs.foldl (fun f r => f ||| r.2) 0#6

/-- VCVT (R189). -/
def execVcvt (d a : VNo) (sat : Bool) (t u : Elem) (r : Rmode) (e : Bool) (s : State) : Out :=
  issueX s (whole1 s d a e fun x =>
    let rs := (List.range 128).zipWith (fun i c => convert t sat r (s.here.srh i) (codeValue u c))
      (lanesOf (elemWidth u) 128 x)
    (packV (elemWidth t) (rs.map (·.1)), allFlags rs))

/-- The register after this one: VQNT's and VDQNT's partner (R190, R191). -/
def partner (d : VNo) : VNo := d + 1
/-- ec[k] of a partner register (Table 08.3). -/
def partnerEc (v : VReg) : List Byte := (lanesOf 8 128 (v >>> 1024)).map (.ofNat 8)
/-- y[k] = x[k] / 2^(ec[k] - 127), NaN when ec[k] is 0xFF (R85). -/
def colScaled (c : Nat) (ec : Byte) : Num :=
  if ec = 255#8 then .nan else (codeValue .fp32 c).scale (127 - (ec.toNat : Int))

/-- VQNT: vd must be a register of 0-54; its partner takes the row-scale entry (R190). -/
def execVqnt (d a : VNo) (f : Elem) (r : Rmode) (e : Bool) (s : State) : Out :=
  issueX s (
    if 55 ≤ d.toNat then .fault { code := .illegal }
    else
      let pv := s.here.vreg (partner d)
      s.vgate e [a] (some d) <| s.rdV e a fun x s1 =>
        let (codes, entry, fl) := quantise f r s.here.srh ((lanesOf 32 128 x).zipWith colScaled (partnerEc pv))
        (s1.raise fl).wrV d 8 allOn (packV (elemWidth f) codes) fun s2 =>
          .ok (s2.modHere fun k => k.setV (partner d) ((pv &&& ~~~0xFFFFFFFF#4096) ||| entry.setWidth 4096)))

/-- VDQNT: va must be a register of 0-54 (R191). -/
def execVdqnt (d a : VNo) (f : Elem) (e : Bool) (s : State) : Out :=
  issueX s (
    if 55 ≤ a.toNat then .fault { code := .illegal }
    else
      let pv := s.here.vreg (partner a)
      s.vgate e [a] (some d) <| s.rdV e a fun x s1 =>
        let rs := (lanesOf (elemWidth f) 128 x).zipWith
          (fun c ec => convert .fp32 false .rne 0 (scaledValue f c (pv.setWidth 16) ec)) (partnerEc pv)
        (s1.raise (allFlags rs)).wrV d 8 allOn (packV 32 (rs.map (·.1))) .ok)

/-- VPACK (R192). -/
def execVpack (d a : VNo) (f : Elem) (e : Bool) (s : State) : Out :=
  issueX s (whole1 s d a e fun x =>
    (packV (elemWidth f) ((lanesOf 32 128 x).map fun v => v % 2 ^ elemWidth f), 0#6))
/-- VUNPK (R192). -/
def execVunpk (d a : VNo) (f : Elem) (e : Bool) (s : State) : Out :=
  issueX s (whole1 s d a e fun x => (packV 32 (lanesOf (elemWidth f) 128 x), 0#6))

/-- The sign bits of 128 lanes: 1 for a value below zero; -0 and NaN give 0 (R193). -/
def signBits (l : List Nat) : Nat := ofLanes 1 (l.map fun x => (ltF32 x 0).toNat)
/-- VSGN: vd is read and written (R193). -/
def execVsgn (d a : VNo) (e : Bool) (s : State) : Out :=
  issueX s (s.vgate e [a, d] (some d) <| s.rdV e a fun x s1 => s1.rdV e d fun z s2 =>
    let l := lanesOf 32 128 x
    let v : VReg := .ofNat 4096 (z.toNat / 2 ^ 128 % 2 ^ 128 + signBits l * 2 ^ 128)
    (s2.raise (flIf (l.any fun c => codeValue .fp32 c == .nan) flNV)).wrV d 8 allOn v .ok)

/-- Number of set bits of a 256-bit number. -/
def pop256 (n : Nat) : Nat := (List.range 256).countP fun i => n.testBit i
/-- 256 - POPC(q xor s): the score of a signature (R194, R237). -/
def score (q s : Nat) : Nat := 256 - pop256 (q ^^^ s)
/-- VHAM: vd is read and written (R194). -/
def execVham (d a : VNo) (e : Bool) (s : State) : Out :=
  issueX s (s.vgate e [a, d] (some d) <| s.rdV e a fun x s1 => s1.rdV e d fun z s2 =>
    let q := z.toNat % 2 ^ 256
    s2.wrV d 8 allOn (packV 32 ((lanesOf 256 16 x).map (score q))) .ok)

/-! ### Reductions -/

/-- The active lanes of a register with their numbers. -/
def activeLanes (p : PReg) (x : VReg) : List (Nat × Nat) :=
  ((lanesOf 32 128 x).zip (List.range 128)).filter fun q => active p 32 q.2

/-- One level of the sum tree: neighbours added by RNE (R97). -/
def sumPairs : List Nat → List Nat × Flags
  | x :: y :: l =>
    let r := fpAdd .fp32 .rne 0 x y
    let t := sumPairs l
    (r.1 :: t.1, r.2 ||| t.2)
  | l => (l, 0#6)
/-- The tree of R97, `n` levels. -/
def sumTree : Nat → List Nat → List Nat × Flags
  | 0, l => (l, 0#6)
  | n + 1, l =>
    let r := sumPairs l
    let t := sumTree n r.1
    (t.1, r.2 ||| t.2)
/-- VRSUM.F32 of 128 lanes, inactive lanes +0 (R97). -/
def rsumF32 (p : PReg) (x : VReg) : Nat × Flags :=
  let l := (lanesOf 32 128 x).zipWith (fun v i => if active p 32 i then v else 0) (List.range 128)
  let r := sumTree 7 l
  (r.1.getD 0 0, r.2)

/-- The winning lane: `better x y` says that x beats the best y so far; ties go to the lower lane (R98). -/
def winner (better : Nat → Nat → Bool) : List (Nat × Nat) → Option (Nat × Nat)
  | [] => none
  | q :: l =>
    match winner better l with
    | none => some q
    | some r => if better r.1 q.1 then some r else some q
/-- Lanes that can win an FP32 reduction: NaN never does (R98). -/
def notNan (q : Nat × Nat) : Bool := codeValue .fp32 q.1 != .nan
/-- Value and index of an FP32 maximum or minimum (R98). -/
def redF32 (max : Bool) (p : PReg) (x : VReg) : Nat × Nat :=
  let l := activeLanes p x
  match winner (fun a b => if max then ltF32 b a else ltF32 a b) (l.filter notNan) with
  | some q => q
  | none => (if l.isEmpty then inf32 max else nan32, 0xFFFFFFFF)
/-- Value and index of a signed integer maximum (R98). -/
def redI32 (p : PReg) (x : VReg) : Nat × Nat :=
  (winner (fun a b => decide (sgn 32 b < sgn 32 a)) (activeLanes p x)).getD (0x80000000, 0xFFFFFFFF)

/-- A reduction writes every lane of vd (R196). -/
def reduce (s : State) (d a : VNo) (p : PNo) (e : Bool) (f : PReg → VReg → List Nat × Flags) : Eff :=
  let pg := s.here.preg p
  s.vgate e [a] (some d) <| s.rdV e a fun x s1 =>
    let r := f pg x
    (s1.raise r.2).wrV d 8 allOn (packV 32 r.1) .ok

/-- VRSUM.F32 (R97). -/
def execVrsumF32 (d a : VNo) (p : PNo) (e : Bool) (s : State) : Out :=
  issueX s (reduce s d a p e fun g x => ([(rsumF32 g x).1], (rsumF32 g x).2))
/-- VRMAX.F32 (R98). -/
def execVrmaxF32 (d a : VNo) (p : PNo) (e : Bool) (s : State) : Out :=
  issueX s (reduce s d a p e fun g x => ([(redF32 true g x).1], 0#6))
/-- VRMIN.F32 (R98). -/
def execVrminF32 (d a : VNo) (p : PNo) (e : Bool) (s : State) : Out :=
  issueX s (reduce s d a p e fun g x => ([(redF32 false g x).1], 0#6))
/-- VRMAXI.F32 (R98). -/
def execVrmaxiF32 (d a : VNo) (p : PNo) (e : Bool) (s : State) : Out :=
  issueX s (reduce s d a p e fun g x => ([(redF32 true g x).1, (redF32 true g x).2], 0#6))
/-- VRMINI.F32 (R98). -/
def execVrminiF32 (d a : VNo) (p : PNo) (e : Bool) (s : State) : Out :=
  issueX s (reduce s d a p e fun g x => ([(redF32 false g x).1, (redF32 false g x).2], 0#6))
/-- VRSUM.I32 (R97). -/
def execVrsumI32 (d a : VNo) (p : PNo) (e : Bool) (s : State) : Out :=
  issueX s (reduce s d a p e fun g x => ([(activeLanes g x).foldl (fun t q => (t + q.1) % 2 ^ 32) 0], 0#6))
/-- VRMAX.I32 (R98). -/
def execVrmaxI32 (d a : VNo) (p : PNo) (e : Bool) (s : State) : Out :=
  issueX s (reduce s d a p e fun g x => ([(redI32 g x).1], 0#6))
/-- VRMAXI.I32 (R98). -/
def execVrmaxiI32 (d a : VNo) (p : PNo) (e : Bool) (s : State) : Out :=
  issueX s (reduce s d a p e fun g x => ([(redI32 g x).1, (redI32 g x).2], 0#6))

/-! ### Predicates -/

/-- A predicate result; p0 discards (R197). -/
def predEff (s : State) (d : PNo) (v : PReg) : Eff := .ok (s.modHere (·.setP d v))
/-- PAND (R197). -/
def execPand (d a b : PNo) (_e : Bool) (s : State) : Out := issueX s (predEff s d (s.here.preg a &&& s.here.preg b))
/-- POR (R197). -/
def execPor (d a b : PNo) (_e : Bool) (s : State) : Out := issueX s (predEff s d (s.here.preg a ||| s.here.preg b))
/-- PXOR (R197). -/
def execPxor (d a b : PNo) (_e : Bool) (s : State) : Out := issueX s (predEff s d (s.here.preg a ^^^ s.here.preg b))
/-- PNOT (R197). -/
def execPnot (d a : PNo) (_e : Bool) (s : State) : Out := issueX s (predEff s d (~~~s.here.preg a))
/-- PMOV (R197). -/
def execPmov (d a : PNo) (_e : Bool) (s : State) : Out := issueX s (predEff s d (s.here.preg a))
/-- The set 32-bit lanes of a predicate, ascending. -/
def setLanes (p : PReg) : List Nat := (List.range 128).filter fun i => p.getLsbD (4 * i)
/-- PPOPC (R197). -/
def execPpopc (d : VNo) (a : PNo) (_e : Bool) (s : State) : Out :=
  issueX s (s.wrV d 8 allOn (packV 32 [(setLanes (s.here.preg a)).length]) .ok)
/-- PFFS (R197). -/
def execPffs (d : VNo) (a : PNo) (_e : Bool) (s : State) : Out :=
  issueX s (s.wrV d 8 allOn (packV 32 [(setLanes (s.here.preg a)).headD 0xFFFFFFFF]) .ok)
/-- VFROMP (R197). -/
def execVfromp (d : VNo) (a : PNo) (_e : Bool) (s : State) : Out :=
  issueX s (s.wrV d 8 allOn (byteMask (s.here.preg a)) .ok)

/-! ### Control -/

/-- PC + sext(off18) x 4 (R200). -/
def xTarget (s : State) (o : BitVec 18) : Word := s.here.x.pc + sextW o * 4

/-- XLOOP (R201). -/
def execXloop (o : BitVec 18) (_e : Bool) (s : State) : Out :=
  let n := s.here.x.lc - 1
  issueX s (
    if n ≠ 0 then
      .jump (s.modHere fun k => { k with x := { k.x with lc := n, vrb := k.x.vrb - 1, prb := k.x.prb - 1 } }) (xTarget s o)
    else .ok (s.modHere fun k => { k with x := { k.x with lc := n } }))
/-- XBR (R200). -/
def execXbr (o : BitVec 18) (p : PNo) (_e : Bool) (s : State) : Out :=
  issueX s (if s.here.preg p ≠ 0 then .jump s (xTarget s o) else .ok s)
/-- XJ (R200). -/
def execXj (o : BitVec 18) (_e : Bool) (s : State) : Out := issueX s (.jump s (xTarget s o))
/-- XRDV: the X-strand becomes idle (R200). -/
def execXrdv (s : State) : Out := issueX s (.ok (s.modHere fun k => { k with x := { k.x with run := .idle } }))
/-- XSETLC (R200). -/
def execXsetlc (a : VNo) (e : Bool) (s : State) : Out :=
  issueX s (s.rdV e a fun x s1 => .ok (s1.modHere fun k => { k with x := { k.x with lc := x.setWidth 32 } }))

end Sys2Proof.Machine
end

