-- ==== Sys2Proof/Machine/Dispatch.lean ====
section
/-! DEFINITION. One arm per constructor of Instr, each a direct call of its meaning or a refusal by name. -/
namespace Sys2Proof.Machine

def exec (i : Instr) (s : State) : Host.Outcome State Fault Refusal :=
  match i with
  | .add d a b e => Sys2Proof.Machine.execAdd d a b e s
  | .sub d a b e => Sys2Proof.Machine.execSub d a b e s
  | .mul d a b e => Sys2Proof.Machine.execMul d a b e s
  | .mulh d a b e => Sys2Proof.Machine.execMulh d a b e s
  | .mulhu d a b e => Sys2Proof.Machine.execMulhu d a b e s
  | .divu d a b e => Sys2Proof.Machine.execDivu d a b e s
  | .remu d a b e => Sys2Proof.Machine.execRemu d a b e s
  | .and d a b e => Sys2Proof.Machine.execAnd d a b e s
  | .or d a b e => Sys2Proof.Machine.execOr d a b e s
  | .xor d a b e => Sys2Proof.Machine.execXor d a b e s
  | .andn d a b e => Sys2Proof.Machine.execAndn d a b e s
  | .orn d a b e => Sys2Proof.Machine.execOrn d a b e s
  | .shl d a b e => Sys2Proof.Machine.execShl d a b e s
  | .shr d a b e => Sys2Proof.Machine.execShr d a b e s
  | .sar d a b e => Sys2Proof.Machine.execSar d a b e s
  | .rotr d a b e => Sys2Proof.Machine.execRotr d a b e s
  | .min d a b e => Sys2Proof.Machine.execMin d a b e s
  | .max d a b e => Sys2Proof.Machine.execMax d a b e s
  | .minu d a b e => Sys2Proof.Machine.execMinu d a b e s
  | .maxu d a b e => Sys2Proof.Machine.execMaxu d a b e s
  | .slt d a b e => Sys2Proof.Machine.execSlt d a b e s
  | .sltu d a b e => Sys2Proof.Machine.execSltu d a b e s
  | .seq d a b e => Sys2Proof.Machine.execSeq d a b e s
  | .sne d a b e => Sys2Proof.Machine.execSne d a b e s
  | .clz d a e => Sys2Proof.Machine.execClz d a e s
  | .ctz d a e => Sys2Proof.Machine.execCtz d a e s
  | .popc d a e => Sys2Proof.Machine.execPopc d a e s
  | .bfx d a b e => Sys2Proof.Machine.execBfx d a b e s
  | .bfxu d a b e => Sys2Proof.Machine.execBfxu d a b e s
  | .bfi d a b e => Sys2Proof.Machine.execBfi d a b e s
  | .selnz d a b e => Sys2Proof.Machine.execSelnz d a b e s
  | .addi d a imm => Sys2Proof.Machine.execAddi d a imm s
  | .andi d a imm => Sys2Proof.Machine.execAndi d a imm s
  | .ori d a imm => Sys2Proof.Machine.execOri d a imm s
  | .xori d a imm => Sys2Proof.Machine.execXori d a imm s
  | .shli d a c => Sys2Proof.Machine.execShli d a c s
  | .shri d a c => Sys2Proof.Machine.execShri d a c s
  | .sari d a c => Sys2Proof.Machine.execSari d a c s
  | .slti d a imm => Sys2Proof.Machine.execSlti d a imm s
  | .lih d imm => Sys2Proof.Machine.execLih d imm s
  | .ldb d a c o => Sys2Proof.Machine.execLdb d a c o s
  | .ldbu d a c o => Sys2Proof.Machine.execLdbu d a c o s
  | .ldh d a c o => Sys2Proof.Machine.execLdh d a c o s
  | .ldhu d a c o => Sys2Proof.Machine.execLdhu d a c o s
  | .ldw d a c o => Sys2Proof.Machine.execLdw d a c o s
  | .ldwu d a c o => Sys2Proof.Machine.execLdwu d a c o s
  | .ldd d a c o => Sys2Proof.Machine.execLdd d a c o s
  | .stb d a c o => Sys2Proof.Machine.execStb d a c o s
  | .sth d a c o => Sys2Proof.Machine.execSth d a c o s
  | .stw d a c o => Sys2Proof.Machine.execStw d a c o s
  | .std d a c o => Sys2Proof.Machine.execStd d a c o s
  | .amo d a b op sc => Sys2Proof.Machine.execAmo d a b op sc s
  | .amorr d a b op sc => Sys2Proof.Machine.execAmorr d a b op sc s
  | .ldacq d a c sc o => Sys2Proof.Machine.execLdacq d a c sc o s
  | .strel d a c sc o => Sys2Proof.Machine.execStrel d a c sc o s
  | .fence m sc => Sys2Proof.Machine.execFence m sc s
  | .spldb d a b e => Sys2Proof.Machine.execSpldb d a b e s
  | .spldh d a b e => Sys2Proof.Machine.execSpldh d a b e s
  | .spldw d a b e => Sys2Proof.Machine.execSpldw d a b e s
  | .spldd d a b e => Sys2Proof.Machine.execSpldd d a b e s
  | .spstb d a b e => Sys2Proof.Machine.execSpstb d a b e s
  | .spsth d a b e => Sys2Proof.Machine.execSpsth d a b e s
  | .spstw d a b e => Sys2Proof.Machine.execSpstw d a b e s
  | .spstd d a b e => Sys2Proof.Machine.execSpstd d a b e s
  | .spmarkf a b e => Sys2Proof.Machine.execSpmarkf a b e s
  | .spmarke a b e => Sys2Proof.Machine.execSpmarke a b e s
  | .sptestf d a b e => Sys2Proof.Machine.execSptestf d a b e s
  | .vld q a b e => Sys2Proof.Machine.execVld q a b e s
  | .vldDec q a b e => Sys2Proof.Machine.execVldDec q a b e s
  | .vldf q a b e => Sys2Proof.Machine.execVldf q a b e s
  | .vldfc q a b e => Sys2Proof.Machine.execVldfc q a b e s
  | .vst q a b e => Sys2Proof.Machine.execVst q a b e s
  | .vstf q a b e => Sys2Proof.Machine.execVstf q a b e s
  | .vgth q a m e => Sys2Proof.Machine.execVgth q a m e s
  | .vsct q a m e => Sys2Proof.Machine.execVsct q a m e s
  | .vldg q a b e => Sys2Proof.Machine.execVldg q a b e s
  | .vstg q a b e => Sys2Proof.Machine.execVstg q a b e s
  | .qbind d a e => Sys2Proof.Machine.execQbind d a e s
  | .qunbind d e => Sys2Proof.Machine.execQunbind d e s
  | .qwait d a e => Sys2Proof.Machine.execQwait d a e s
  | .qstat d a e => Sys2Proof.Machine.execQstat d a e s
  | .lrpatch d a b e => Sys2Proof.Machine.execLrpatch d a b e s
  | .lrarm a e => Sys2Proof.Machine.execLrarm a e s
  | .lrstat d a b e => Sys2Proof.Machine.execLrstat d a b e s
  | .jdec a e => Sys2Proof.Machine.execJdec a e s
  | .tself d e => Sys2Proof.Machine.execTself d e s
  | .gbar d a e => Sys2Proof.Machine.execGbar d a e s
  | .garr d e => Sys2Proof.Machine.execGarr d e s
  | .gwait d a e => Sys2Proof.Machine.execGwait d a e s
  | .gpeer d a e => Sys2Proof.Machine.execGpeer d a e s
  | .finc d a e => Sys2Proof.Machine.execFinc d a e s
  | .fwait d a b e => Sys2Proof.Machine.execFwait d a b e s
  | .frd d a e => Sys2Proof.Machine.execFrd d a e s
  | .fclr d e => Sys2Proof.Machine.execFclr d e s
  | .twait d a e => Sys2Proof.Machine.execTwait d a e s
  | .ttest d a e => Sys2Proof.Machine.execTtest d a e s
  | .fork a e => Sys2Proof.Machine.execFork a e s
  | .slip imm e => Sys2Proof.Machine.execSlip imm e s
  | .frame a e => Sys2Proof.Machine.execFrame a e s
  | .gpush a e => Sys2Proof.Machine.execGpush a e s
  | .gpop d e => Sys2Proof.Machine.execGpop d e s
  | .gtop d e => Sys2Proof.Machine.execGtop d e s
  | .gdepth d e => Sys2Proof.Machine.execGdepth d e s
  | .maskf d a b e => Sys2Proof.Machine.execMaskf d a b e s
  | .mxw d imm e => Sys2Proof.Machine.execMxw d imm e s
  | .mxr d imm e => Sys2Proof.Machine.execMxr d imm e s
  | .meMode a b e x => Sys2Proof.Machine.execMeMode a b e x s
  | .meMsk a e x => Sys2Proof.Machine.execMeMsk a e x s
  | .oclaim pair n e => Sys2Proof.Machine.execOclaim pair n e s
  | .orels n e => Sys2Proof.Machine.execOrels n e s
  | .ostat d e => Sys2Proof.Machine.execOstat d e s
  | .ceGo d a e x => Sys2Proof.Machine.execCeGo d a e x s
  | .ceAbort d e => Sys2Proof.Machine.execCeAbort d e s
  | .ceStat d a e => Sys2Proof.Machine.execCeStat d a e s
  | .seIns a b e x => Sys2Proof.Machine.execSeIns a b e x s
  | .seDel a e => Sys2Proof.Machine.execSeDel a e s
  | .seAge a b e => Sys2Proof.Machine.execSeAge a b e s
  | .seSel a e x => Sys2Proof.Machine.execSeSel a e x s
  | .seCnt d a e => Sys2Proof.Machine.execSeCnt d a e s
  | .seQuota d a e => Sys2Proof.Machine.execSeQuota d a e s
  | .spermit d a e => Sys2Proof.Machine.execSpermit d a e s
  | .spret a e => Sys2Proof.Machine.execSpret a e s
  | .fltarm d a e x => Sys2Proof.Machine.execFltarm d a e x s
  | .fltclose d e => Sys2Proof.Machine.execFltclose d e s
  | .trap imm e => Sys2Proof.Machine.execTrap imm e s
  | .scall imm e => Sys2Proof.Machine.execScall imm e s
  | .rdctl d imm e => Sys2Proof.Machine.execRdctl d imm e s
  | .wrctl d imm e => Sys2Proof.Machine.execWrctl d imm e s
  | .iflush a b e => Sys2Proof.Machine.execIflush a b e s
  | .srdctl d imm e => Sys2Proof.Machine.execSrdctl d imm e s
  | .swrctl d imm e => Sys2Proof.Machine.execSwrctl d imm e s
  | .tlbinv a b e => Sys2Proof.Machine.execTlbinv a b e s
  | .sespall a e => Sys2Proof.Machine.execSespall a e s
  | .snapt d a e => Sys2Proof.Machine.execSnapt d a e s
  | .corestop d a e => Sys2Proof.Machine.execCorestop d a e s
  | .beq a b o => Sys2Proof.Machine.execBeq a b o s
  | .bne a b o => Sys2Proof.Machine.execBne a b o s
  | .blt a b o => Sys2Proof.Machine.execBlt a b o s
  | .bge a b o => Sys2Proof.Machine.execBge a b o s
  | .bltu a b o => Sys2Proof.Machine.execBltu a b o s
  | .bgeu a b o => Sys2Proof.Machine.execBgeu a b o s
  | .jal d o => Sys2Proof.Machine.execJal d o s
  | .jalr d a imm => Sys2Proof.Machine.execJalr d a imm s
  | .loop d o => Sys2Proof.Machine.execLoop d o s
  | .vaddF32 d a b p e => Sys2Proof.Machine.execVaddF32 d a b p e s
  | .vsubF32 d a b p e => Sys2Proof.Machine.execVsubF32 d a b p e s
  | .vmulF32 d a b p e => Sys2Proof.Machine.execVmulF32 d a b p e s
  | .vminF32 d a b p e => Sys2Proof.Machine.execVminF32 d a b p e s
  | .vmaxF32 d a b p e => Sys2Proof.Machine.execVmaxF32 d a b p e s
  | .vfmaF32 d a b p e => Sys2Proof.Machine.execVfmaF32 d a b p e s
  | .vfnmaF32 d a b p e => Sys2Proof.Machine.execVfnmaF32 d a b p e s
  | .vcpsgnF32 d a b p e => Sys2Proof.Machine.execVcpsgnF32 d a b p e s
  | .vaddF16 d a b p e => Sys2Proof.Machine.execVaddF16 d a b p e s
  | .vsubF16 d a b p e => Sys2Proof.Machine.execVsubF16 d a b p e s
  | .vmulF16 d a b p e => Sys2Proof.Machine.execVmulF16 d a b p e s
  | .vminF16 d a b p e => Sys2Proof.Machine.execVminF16 d a b p e s
  | .vmaxF16 d a b p e => Sys2Proof.Machine.execVmaxF16 d a b p e s
  | .vfmaF16 d a b p e => Sys2Proof.Machine.execVfmaF16 d a b p e s
  | .vfnmaF16 d a b p e => Sys2Proof.Machine.execVfnmaF16 d a b p e s
  | .vcpsgnF16 d a b p e => Sys2Proof.Machine.execVcpsgnF16 d a b p e s
  | .vaddBF16 d a b p e => Sys2Proof.Machine.execVaddBF16 d a b p e s
  | .vsubBF16 d a b p e => Sys2Proof.Machine.execVsubBF16 d a b p e s
  | .vmulBF16 d a b p e => Sys2Proof.Machine.execVmulBF16 d a b p e s
  | .vminBF16 d a b p e => Sys2Proof.Machine.execVminBF16 d a b p e s
  | .vmaxBF16 d a b p e => Sys2Proof.Machine.execVmaxBF16 d a b p e s
  | .vfmaBF16 d a b p e => Sys2Proof.Machine.execVfmaBF16 d a b p e s
  | .vfnmaBF16 d a b p e => Sys2Proof.Machine.execVfnmaBF16 d a b p e s
  | .vcpsgnBF16 d a b p e => Sys2Proof.Machine.execVcpsgnBF16 d a b p e s
  | .vaddI32 d a b p e => Sys2Proof.Machine.execVaddI32 d a b p e s
  | .vsubI32 d a b p e => Sys2Proof.Machine.execVsubI32 d a b p e s
  | .vmulI32 d a b p e => Sys2Proof.Machine.execVmulI32 d a b p e s
  | .vmulhI32 d a b p e => Sys2Proof.Machine.execVmulhI32 d a b p e s
  | .vminI32 d a b p e => Sys2Proof.Machine.execVminI32 d a b p e s
  | .vmaxI32 d a b p e => Sys2Proof.Machine.execVmaxI32 d a b p e s
  | .vminUI32 d a b p e => Sys2Proof.Machine.execVminUI32 d a b p e s
  | .vmaxUI32 d a b p e => Sys2Proof.Machine.execVmaxUI32 d a b p e s
  | .vaddI16 d a b p e => Sys2Proof.Machine.execVaddI16 d a b p e s
  | .vsubI16 d a b p e => Sys2Proof.Machine.execVsubI16 d a b p e s
  | .vaddsI16 d a b p e => Sys2Proof.Machine.execVaddsI16 d a b p e s
  | .vsubsI16 d a b p e => Sys2Proof.Machine.execVsubsI16 d a b p e s
  | .vaddI8 d a b p e => Sys2Proof.Machine.execVaddI8 d a b p e s
  | .vsubI8 d a b p e => Sys2Proof.Machine.execVsubI8 d a b p e s
  | .vaddsI8 d a b p e => Sys2Proof.Machine.execVaddsI8 d a b p e s
  | .vsubsI8 d a b p e => Sys2Proof.Machine.execVsubsI8 d a b p e s
  | .vand d a b p e => Sys2Proof.Machine.execVand d a b p e s
  | .vor d a b p e => Sys2Proof.Machine.execVor d a b p e s
  | .vxor d a b p e => Sys2Proof.Machine.execVxor d a b p e s
  | .vandn d a b p e => Sys2Proof.Machine.execVandn d a b p e s
  | .vshl d a b p e => Sys2Proof.Machine.execVshl d a b p e s
  | .vshr d a b p e => Sys2Proof.Machine.execVshr d a b p e s
  | .vsar d a b p e => Sys2Proof.Machine.execVsar d a b p e s
  | .vnot d a p e => Sys2Proof.Machine.execVnot d a p e s
  | .veqF32 d a b p e => Sys2Proof.Machine.execVeqF32 d a b p e s
  | .vltF32 d a b p e => Sys2Proof.Machine.execVltF32 d a b p e s
  | .vleF32 d a b p e => Sys2Proof.Machine.execVleF32 d a b p e s
  | .vunF32 d a b p e => Sys2Proof.Machine.execVunF32 d a b p e s
  | .veqI32 d a b p e => Sys2Proof.Machine.execVeqI32 d a b p e s
  | .vltI32 d a b p e => Sys2Proof.Machine.execVltI32 d a b p e s
  | .vltUI32 d a b p e => Sys2Proof.Machine.execVltUI32 d a b p e s
  | .vneI32 d a b p e => Sys2Proof.Machine.execVneI32 d a b p e s
  | .vsel d a b p e => Sys2Proof.Machine.execVsel d a b p e s
  | .vmov d a p e => Sys2Proof.Machine.execVmov d a p e s
  | .vbcl d a b p e => Sys2Proof.Machine.execVbcl d a b p e s
  | .vperm d a b p e => Sys2Proof.Machine.execVperm d a b p e s
  | .vslup d a b p e => Sys2Proof.Machine.execVslup d a b p e s
  | .vsldn d a b p e => Sys2Proof.Machine.execVsldn d a b p e s
  | .vtoa a e => Sys2Proof.Machine.execVtoa a e s
  | .vrand d a p e => Sys2Proof.Machine.execVrand d a p e s
  | .vcvt d a sat t u r e => Sys2Proof.Machine.execVcvt d a sat t u r e s
  | .vqnt d a f r e => Sys2Proof.Machine.execVqnt d a f r e s
  | .vdqnt d a f e => Sys2Proof.Machine.execVdqnt d a f e s
  | .vpack d a f e => Sys2Proof.Machine.execVpack d a f e s
  | .vunpk d a f e => Sys2Proof.Machine.execVunpk d a f e s
  | .vsgn d a e => Sys2Proof.Machine.execVsgn d a e s
  | .vham d a e => Sys2Proof.Machine.execVham d a e s
  | .vexp2 d a p e => Sys2Proof.Machine.execVexp2 d a p e s
  | .vlog2 d a p e => Sys2Proof.Machine.execVlog2 d a p e s
  | .vrcp d a p e => Sys2Proof.Machine.execVrcp d a p e s
  | .vrsq d a p e => Sys2Proof.Machine.execVrsq d a p e s
  | .vsqrt d a p e => Sys2Proof.Machine.execVsqrt d a p e s
  | .vdiv d a b p e => Sys2Proof.Machine.execVdiv d a b p e s
  | .vrsumF32 d a p e => Sys2Proof.Machine.execVrsumF32 d a p e s
  | .vrmaxF32 d a p e => Sys2Proof.Machine.execVrmaxF32 d a p e s
  | .vrminF32 d a p e => Sys2Proof.Machine.execVrminF32 d a p e s
  | .vrmaxiF32 d a p e => Sys2Proof.Machine.execVrmaxiF32 d a p e s
  | .vrminiF32 d a p e => Sys2Proof.Machine.execVrminiF32 d a p e s
  | .vrsumI32 d a p e => Sys2Proof.Machine.execVrsumI32 d a p e s
  | .vrmaxI32 d a p e => Sys2Proof.Machine.execVrmaxI32 d a p e s
  | .vrmaxiI32 d a p e => Sys2Proof.Machine.execVrmaxiI32 d a p e s
  | .pand d a b e => Sys2Proof.Machine.execPand d a b e s
  | .por d a b e => Sys2Proof.Machine.execPor d a b e s
  | .pxor d a b e => Sys2Proof.Machine.execPxor d a b e s
  | .pnot d a e => Sys2Proof.Machine.execPnot d a e s
  | .ppopc d a e => Sys2Proof.Machine.execPpopc d a e s
  | .pffs d a e => Sys2Proof.Machine.execPffs d a e s
  | .pmov d a e => Sys2Proof.Machine.execPmov d a e s
  | .vfromp d a e => Sys2Proof.Machine.execVfromp d a e s
  | .accrd d c r p e => Sys2Proof.Machine.execAccrd d c r p e s
  | .accwr a c r p e => Sys2Proof.Machine.execAccwr a c r p e s
  | .accz m c e => Sys2Proof.Machine.execAccz m c e s
  | .xloop o e => Sys2Proof.Machine.execXloop o e s
  | .xbr o p e => Sys2Proof.Machine.execXbr o p e s
  | .xj o e => Sys2Proof.Machine.execXj o e s
  | .xsetlc a e => Sys2Proof.Machine.execXsetlc a e s
  | .endTask => Sys2Proof.Machine.execEndTask s
  | .rdv => Sys2Proof.Machine.execRdv s
  | .gclr => Sys2Proof.Machine.execGclr s
  | .meGo => Sys2Proof.Machine.execMeGo s
  | .nop => Sys2Proof.Machine.execNop s
  | .tret => Sys2Proof.Machine.execTret s
  | .isync => Sys2Proof.Machine.execIsync s
  | .sret => Sys2Proof.Machine.execSret s
  | .xrdv => Sys2Proof.Machine.execXrdv s
  | .taskDispatch => Sys2Proof.Machine.execTaskDispatch s
  | .gangStart => Sys2Proof.Machine.execGangStart s
  | .stageTaskStart => Sys2Proof.Machine.execStageTaskStart s
  | .taskRestore => Sys2Proof.Machine.execTaskRestore s
  | .backgroundFill => Sys2Proof.Machine.execBackgroundFill s
  | .endCommit => Sys2Proof.Machine.execEndCommit s
  | .gangCommit => Sys2Proof.Machine.execGangCommit s
  | .stallRelease => Sys2Proof.Machine.execStallRelease s
  | .loadReturn => Sys2Proof.Machine.execLoadReturn s
  | .amorrReturn => Sys2Proof.Machine.execAmorrReturn s
  | .gatherScatterLane => Sys2Proof.Machine.execGatherScatterLane s
  | .xTrapTake => Sys2Proof.Machine.execXTrapTake s
  | .faultRecordWrite => Sys2Proof.Machine.execFaultRecordWrite s
  | .taskTimeout => Sys2Proof.Machine.execTaskTimeout s
  | .qtimeout => Sys2Proof.Machine.execQtimeout s
  | .fwaitTimeout => Sys2Proof.Machine.execFwaitTimeout s
  | .twaitTimeout => Sys2Proof.Machine.execTwaitTimeout s
  | .gwaitTimeout => Sys2Proof.Machine.execGwaitTimeout s
  | .stampIssue => Sys2Proof.Machine.execStampIssue s
  | .stampOverrun => Sys2Proof.Machine.execStampOverrun s
  | .pageWalk => Sys2Proof.Machine.execPageWalk s
  | .meCommandStart => Sys2Proof.Machine.execMeCommandStart s
  | .meTileStep => Sys2Proof.Machine.execMeTileStep s
  | .ceChainStart => Sys2Proof.Machine.execCeChainStart s
  | .ceRecord => Sys2Proof.Machine.execCeRecord s
  | .seCommandRun => Sys2Proof.Machine.execSeCommandRun s
  | .filterResult => Sys2Proof.Machine.execFilterResult s
  | .tierPageIn => Sys2Proof.Machine.execTierPageIn s
  | .tierPageOut => Sys2Proof.Machine.execTierPageOut s
  | .weirInterval => Sys2Proof.Machine.execWeirInterval s
  | .breezeTokenPass => Sys2Proof.Machine.execBreezeTokenPass s
  | .breezeForcedPass => Sys2Proof.Machine.execBreezeForcedPass s
  | .capLevelRaise => Sys2Proof.Machine.execCapLevelRaise s
  | .capLevelLower => Sys2Proof.Machine.execCapLevelLower s
  | .thermalCap => Sys2Proof.Machine.execThermalCap s
  | .thermalShutdown => Sys2Proof.Machine.execThermalShutdown s
  | .preemptStop => Sys2Proof.Machine.execPreemptStop s
  | .saveImageWrite => Sys2Proof.Machine.execSaveImageWrite s
  | .exportBlockWrite => Sys2Proof.Machine.execExportBlockWrite s
  | .supervisorEvent => Sys2Proof.Machine.execSupervisorEvent s
  | .supervisorFault => Sys2Proof.Machine.execSupervisorFault s
  | .memoryErrorReport => Sys2Proof.Machine.execMemoryErrorReport s
  | .onChipError => Sys2Proof.Machine.execOnChipError s
  | .scrub => Sys2Proof.Machine.execScrub s
  | .ccmdResume => Sys2Proof.Machine.execCcmdResume s
  | .ccmdAbandon => Sys2Proof.Machine.execCcmdAbandon s
  | .ccmdSave => Sys2Proof.Machine.execCcmdSave s
  | .ccmdReturn => Sys2Proof.Machine.execCcmdReturn s
  | .lrBuild => Sys2Proof.Machine.execLrBuild s
  | .lrUnbuild => Sys2Proof.Machine.execLrUnbuild s
  | .lrDrain => Sys2Proof.Machine.execLrDrain s
  | .queueOpen => Sys2Proof.Machine.execQueueOpen s
  | .queueClose => Sys2Proof.Machine.execQueueClose s
  | .evSuspend => Sys2Proof.Machine.execEvSuspend s
  | .evResume => Sys2Proof.Machine.execEvResume s
  | .evExport => Sys2Proof.Machine.execEvExport s
  | .evImport => Sys2Proof.Machine.execEvImport s
  | .ctxCreate => Sys2Proof.Machine.execCtxCreate s
  | .ctxDestroy => Sys2Proof.Machine.execCtxDestroy s
  | .groupBuild => Sys2Proof.Machine.execGroupBuild s
  | .groupUnbuild => Sys2Proof.Machine.execGroupUnbuild s
  | .registerWrite => Sys2Proof.Machine.execRegisterWrite s
  | .slbaseWrite => Sys2Proof.Machine.execSlbaseWrite s
  | .enable => Sys2Proof.Machine.execEnable s
  | .disable => Sys2Proof.Machine.execDisable s
  | .vload => Sys2Proof.Machine.execVload s
  | .vunload => Sys2Proof.Machine.execVunload s
  | .prune => Sys2Proof.Machine.execPrune s
  | .packetReceive => Sys2Proof.Machine.execPacketReceive s
  | .requestReceive => Sys2Proof.Machine.execRequestReceive s
  | .acceptReply => Sys2Proof.Machine.execAcceptReply s
  | .admission => Sys2Proof.Machine.execAdmission s
  | .outputEntryPop => Sys2Proof.Machine.execOutputEntryPop s
  | .relqPush => Sys2Proof.Machine.execRelqPush s
  | .hsemAcquire => Sys2Proof.Machine.execHsemAcquire s
  | .hsemRelease => Sys2Proof.Machine.execHsemRelease s
  | .fwload => Sys2Proof.Machine.execFwload s
  | .bringupTraining => Sys2Proof.Machine.execBringupTraining s
  | .setup => Sys2Proof.Machine.execSetup s
  | .teardown => Sys2Proof.Machine.execTeardown s
  | .warmreset => Sys2Proof.Machine.execWarmreset s
  | .coldReset => Sys2Proof.Machine.execColdReset s
  | .perstWarmReset => Sys2Proof.Machine.execPerstWarmReset s
  | .cxlLinkDown => Sys2Proof.Machine.execCxlLinkDown s
  | .snapFire => Sys2Proof.Machine.execSnapFire s
  | .snapLockFree => Sys2Proof.Machine.execSnapLockFree s
  | .snapPinEdge => Sys2Proof.Machine.execSnapPinEdge s
  | .hostMemoryWrite => Sys2Proof.Machine.execHostMemoryWrite s
  | .hostMemoryRead => Sys2Proof.Machine.execHostMemoryRead s
  | .lossOfPower => Sys2Proof.Machine.execLossOfPower s
  | .singleDieOrStackFailure => Sys2Proof.Machine.execSingleDieOrStackFailure s

end Sys2Proof.Machine
end

