-- ==== Sys2Proof/Machine/Turn.lean ====
section
/-! DEFINITION. One turn of the machine: a strand's next instruction, a step of the hardware or of a host, or the passing
of clk (log 3). -/
namespace Sys2Proof.Machine

/-- What comes before the next instruction of a core's A-strand at a boundary: an on-chip error (R381), a ring event of
the supervisor core (R295), or the X-strand's trap (R178). None: the instruction itself. An atomic that has begun stands
at no boundary (R37). -/
def State.boundary (s : State) (c : CoreId) : Option State :=
  let k := s.core c
  let p := s.partOf c
  if !k.a.begun.isEmpty then none
  else if !k.errs.isEmpty then some (s.takeErr c)
  else if k.isSup && (s.part p).score == c && s.eventReady p then some (s.takeEvent p 0 k.a.pc)
  else if s.xTrapReady c then some (s.takeXTrap c)
  else none

/-- What comes before a strand's next instruction: what its boundary takes, or the fill of image parts that it is the
first to access (R339). -/
def State.before (s : State) (c : CoreId) (st : Strand) : Option State :=
  match st with
  | .a => (s.boundary c).or (s.firstAccess c .a)
  | .x => s.firstAccess c .x

/-- A strand's instruction: it is fetched, decoded and executed, or its fetch faults. -/
def runInstr (s : State) (c : CoreId) (st : Strand) : Out :=
  match s.fetch c st with
  | .run i t => exec i t
  | .flt t f => .next (t.takeFault c st f)

/-- A strand's turn. -/
def runStrand (s : State) (c : CoreId) (st : Strand) : Out :=
  if s.canRun c st then
    match s.before c st with
    | some t => .next t
    | none => runInstr s c st
  else .next s

/-- One turn (log 3) (DESIGN CHOICE, log 85). -/
def runTurn (s : State) : Turn → Out
  | .strand c st => runStrand s c st
  | .event i args => if isEvent i then exec i { s with ev := args } else .next s
  | .clk n => .next (s.passClk n)

/-- The turn that step takes: the next one of the agenda, or, when it is empty, none; then a new round is laid out
(DESIGN CHOICE, log 3). -/
def stepTurn (s : State) : Out :=
  match s.agenda with
  | [] => .next { s with agenda := s.round }
  | t :: r => runTurn { s with agenda := r } t

end Sys2Proof.Machine
end

