-- ==== Sys2Proof/Safety.lean ====
section
/-! DEFINITION. What counts as well-formed data and as a step that goes on, and the terms in which the statements say when
an instruction completes and what it leaves. -/
namespace Sys2Proof.Machine

/-- Every memory of the state is in canonical form: the physical memory and each core's scratchpad. -/
def State.memOk (s : State) : Bool := s.mem.wf && s.cores.all fun kv => kv.2.spm.mem.wf

/-- The step goes on to a next state. -/
def goesOn : Host.Outcome State Fault Refusal → Bool
  | .next _ => true
  | .fault _ => false
  | .refused _ => false

/-! ### Scalar operands (R35-R37) -/

/-- Registers `srcs` can be read and `dsts` written now: no port is used against its direction, no register holds
poisoned data, none is empty (R36, R37). -/
def State.clear (s : State) (srcs dsts : List Reg) : Bool :=
  srcs.all (fun r => !isPort r || s.here.portOk false r) && dsts.all (fun r => !isPort r || s.here.portOk true r)
    && (srcs ++ dsts).all fun r => !s.here.isEmpty r && s.here.a.bad.all (·.reg != r)

/-- Reading source r gives x and leaves state t: a register as it stands, or the pop of a port (R37). -/
def State.Reads (s : State) (r : Reg) (x : Word) (t : State) : Prop :=
  if isPort r = true then s.popPort r = .val x t else x = s.here.reg r ∧ t = s

/-- Writing v to destination r leaves state t: the register set, nothing for s0, or the push of a port (R35, R37). -/
def State.Writes (s : State) (r : Reg) (v : Word) (t : State) : Prop :=
  if isPort r = true then ∃ w, s.pushPort r v = .val w t else t = s.modHere (·.setReg r v)

/-- The A-strand's instruction of `len` bytes, begun in s, has completed with state t: the PC moves past it. -/
def State.pastA (s t : State) (len : Word) : State := t.modHere (·.retireA (s.here.a.pc + len))

/-- The A-strand's instruction has completed with state t, and the PC is pc. -/
def State.jumpA (t : State) (pc : Word) : State := t.modHere (·.retireA pc)

/-- The control registers that software sets are the same in both: not the flags of RNDM, the trap registers nor the
counters (R50, R51). -/
def Ctl.SameSettings (c d : Ctl) : Prop :=
  d.mode = c.mode ∧ d.fc = c.fc ∧ d.flen = c.flen ∧ d.spovf = c.spovf ∧ d.tvec = c.tvec ∧ d.rngseed = c.rngseed ∧
    d.slipd = c.slipd ∧ d.sequota = c.sequota

/-! ### Vector operands (R39-R42) -/

/-- Reading vector source n gives x and leaves state t: a register as it stands, zero for v60-v63, or the pop of a load
queue through v56-v59, which may complete a push that waits for it (R42, R154). -/
def State.ReadsV (s : State) (n : VNo) (x : VReg) (t : State) : Prop :=
  if isPopV n = true then
    ∃ y l, s.here.lq (lqOfPort n) = y :: l ∧ y.gather = none ∧ y.bad = none ∧ x = y.data
      ∧ t = s.modHere fun k => (k.setLq (lqOfPort n) l).endHandoff (lqOfPort n)
  else x = s.here.vreg n ∧ t = s

/-- Delivering v to vector destination n, in elements of w bits under predicate p, leaves state t: active elements are
replaced, or the whole register with its inactive elements zero is pushed to SQ0-SQ2 (v60-v62), with the predicate's own
bits as byte enables, or to IQ (v63) (R42, R176). -/
def State.WritesV (s : State) (n : VNo) (w : Nat) (p : PReg) (v : VReg) (t : State) : Prop :=
  if n.toNat < 56 then
    t = s.modHere fun k => k.setV n ((v &&& byteMask (widen w p)) ||| (k.vreg n &&& ~~~byteMask (widen w p)))
  else if n.toNat < 60 then False
  else if n.toNat = 63 then
    s.here.q.iq.length + s.here.eng.gs.length < 3 ∧
      t = s.modHere fun k => { k with q := { k.q with iq := k.q.iq ++ [{ idx := v &&& byteMask (widen w p), mask := laneMask p }] } }
  else (s.here.sq (sqOfPort n)).length + s.here.heldSq (sqOfPort n) < 3 ∧
      t = s.modHere fun k => k.setSq (sqOfPort n) (k.sq (sqOfPort n) ++ [{ data := v &&& byteMask (widen w p), en := p }])

/-- The X-strand's instruction, begun in s, has completed with state t. -/
def State.pastX (s t : State) : State := t.modHere (·.retireX (s.here.x.pc + 4))

/-- Element e of w bits of a vector register, as a number (R39). -/
def lane (w : Nat) (v : VReg) (e : Nat) : Nat := v.toNat / 2 ^ (w * e) % 2 ^ w

/-- The vector register whose element e of w bits is f e. -/
def ofElems (w : Nat) (f : Nat → Nat) : VReg := packV w ((List.range (4096 / w)).map f)

/-- A long form with extension word x may be accepted now: its produce token is not PENDING, and under an acting stamp the
strand stands in the stamped tick, which it has not missed by waiting (R46, R122, R320). -/
def State.accepts (s : State) (x : Ext) : Bool :=
  !s.here.tokenBusy x && (!s.here.stamped x
    || !s.here.a.late && s.here.ctl.fc == x.stamp && (s.here.ctl.flen == 0#12 || decide (x.stamp < s.here.ctl.flen)))

end Sys2Proof.Machine
end

