-- ==== Sys2Proof/Certificates/Slice0/Obligations.lean ====
section
/-! DEFINITION. The statements for the provers: what the instructions, the hardware's steps and the machine do, each from
the spec's numbered rules. -/
open Sys2Proof Sys2Proof.Machine

/-! ### Integer arithmetic and branches (R141-R146) -/

/-- R141, Table 07.1: each function writes its result to d and the strand goes on at the next word, whatever the
operands are: registers, s0, or ports (R35, R37).

R141: CLZ, CTZ and POPC write the number of leading zeros, of trailing zeros and of set bits, from 0 to 64.

R142: with position pos = y[5:0] and width w = min(y[13:8] or 64, 64 - pos), BFXU writes the field zero-extended,
BFX sign-extended from its bit w - 1, and BFI writes z = s[d] with bits pos to pos + w - 1 replaced. SELNZ (Table 07.1)
writes s[a] where s[d] is not 0, else s[b].

R36: an instruction that reads an empty register takes REG_EMPTY where its E bit is set, with the register's number in
TINFO0 and nothing else changed but what the entry of the handler sets, and waits for it otherwise; with its sources full
it waits for an empty destination. This of each integer, immediate, jump, load, store, scratchpad, flag, record, stack,
permit and strand form named here (branches have a statement of their own), its ports usable (R37) and no register of it
poisoned. Sources are tried in the order in which they are read. That an empty register is waited for, or with E = 1 trapped on, before an empty source port or a
full destination port of the same instruction is waited for is the model's choice: log 99 (DESIGN CHOICE). -/
def Obligations.IntegerResults : Prop :=
  (∀ (s s1 s2 t : State) (d a b : Reg) (e : Bool) (x y v : Word) (i : Instr),
     s.clear [a, b] [d] = true → s.Reads a x s1 → s1.Reads b y s2 → s2.Writes d v t →
     (i, v) ∈ [
       (.add d a b e, x + y), (.sub d a b e, x - y), (.mul d a b e, x * y),
       (.mulh d a b e, .ofInt 64 (x.toInt * y.toInt / 2 ^ 64)), (.mulhu d a b e, .ofNat 64 (x.toNat * y.toNat / 2 ^ 64)),
       (.divu d a b e, if y = 0 then BitVec.allOnes 64 else .ofNat 64 (x.toNat / y.toNat)),
       (.remu d a b e, if y = 0 then x else .ofNat 64 (x.toNat % y.toNat)),
       (.and d a b e, x &&& y), (.or d a b e, x ||| y), (.xor d a b e, x ^^^ y), (.andn d a b e, x &&& ~~~y),
       (.orn d a b e, x ||| ~~~y), (.shl d a b e, x <<< (y.toNat % 64)), (.shr d a b e, x >>> (y.toNat % 64)),
       (.sar d a b e, x.sshiftRight (y.toNat % 64)), (.rotr d a b e, x.rotateRight (y.toNat % 64)),
       (.min d a b e, if x.toInt ≤ y.toInt then x else y), (.max d a b e, if x.toInt ≤ y.toInt then y else x),
       (.minu d a b e, if x.toNat ≤ y.toNat then x else y), (.maxu d a b e, if x.toNat ≤ y.toNat then y else x),
       (.slt d a b e, if x.toInt < y.toInt then 1 else 0), (.sltu d a b e, if x.toNat < y.toNat then 1 else 0),
       (.seq d a b e, if x = y then 1 else 0), (.sne d a b e, if x ≠ y then 1 else 0)] →
     exec i s = .next (s.pastA t 4)) ∧
  (∀ (s s1 t : State) (d a : Reg) (e : Bool) (x v : Word), s.clear [a] [d] = true → s.Reads a x s1 → s1.Writes d v t →
     ((∃ n, n ≤ 64 ∧ v = .ofNat 64 n ∧ (∀ k, 64 - n ≤ k → k < 64 → x.getLsbD k = false)
         ∧ (n < 64 → x.getLsbD (63 - n) = true)) → exec (.clz d a e) s = .next (s.pastA t 4)) ∧
     ((∃ n, n ≤ 64 ∧ v = .ofNat 64 n ∧ (∀ k, k < n → x.getLsbD k = false) ∧ (n < 64 → x.getLsbD n = true)) →
       exec (.ctz d a e) s = .next (s.pastA t 4)) ∧
     (v = .ofNat 64 ((List.range 64).countP fun k => x.getLsbD k) → exec (.popc d a e) s = .next (s.pastA t 4))) ∧
  (∀ (s s1 s2 t : State) (d a b : Reg) (e : Bool) (x y v : Word) (pos w : Nat),
     s.Reads a x s1 → s1.Reads b y s2 → pos = y.toNat % 64 →
     w = min (if y.toNat / 256 % 64 = 0 then 64 else y.toNat / 256 % 64) (64 - pos) →
     (s.clear [a, b] [d] = true → s2.Writes d v t →
       ((∀ k, k < 64 → v.getLsbD k = (decide (k < w) && x.getLsbD (pos + k))) →
         exec (.bfxu d a b e) s = .next (s.pastA t 4)) ∧
       ((∀ k, k < 64 → v.getLsbD k = x.getLsbD (pos + min k (w - 1))) → exec (.bfx d a b e) s = .next (s.pastA t 4))) ∧
     (∀ (s3 : State) (z : Word), s.clear [a, b, d] [d] = true → s2.Reads d z s3 → s3.Writes d v t →
       ((∀ k, k < 64 → v.getLsbD k = if pos ≤ k ∧ k < pos + w then x.getLsbD (k - pos) else z.getLsbD k) →
         exec (.bfi d a b e) s = .next (s.pastA t 4)) ∧
       (v = (if z ≠ 0 then x else y) → exec (.selnz d a b e) s = .next (s.pastA t 4)))) ∧
  (∀ (s : State) (i : Instr) (E : Bool) (L D : List Reg) (d a b : Reg) (e : Bool) (i13 : BitVec 13) (i19 : BitVec 19)
     (c6 o6 : BitVec 6) (o9 : BitVec 9) (c4 : BitVec 4) (sc : Scope),
     ((i, E, L, D) ∈ [
       (Instr.add d a b e, e, [a, b], [d]), (.sub d a b e, e, [a, b], [d]), (.mul d a b e, e, [a, b], [d]),
       (.mulh d a b e, e, [a, b], [d]), (.mulhu d a b e, e, [a, b], [d]), (.divu d a b e, e, [a, b], [d]),
       (.remu d a b e, e, [a, b], [d]), (.and d a b e, e, [a, b], [d]), (.or d a b e, e, [a, b], [d]),
       (.xor d a b e, e, [a, b], [d]), (.andn d a b e, e, [a, b], [d]), (.orn d a b e, e, [a, b], [d]),
       (.shl d a b e, e, [a, b], [d]), (.shr d a b e, e, [a, b], [d]), (.sar d a b e, e, [a, b], [d]),
       (.rotr d a b e, e, [a, b], [d]), (.min d a b e, e, [a, b], [d]), (.max d a b e, e, [a, b], [d]),
       (.minu d a b e, e, [a, b], [d]), (.maxu d a b e, e, [a, b], [d]), (.slt d a b e, e, [a, b], [d]),
       (.sltu d a b e, e, [a, b], [d]), (.seq d a b e, e, [a, b], [d]), (.sne d a b e, e, [a, b], [d]),
       (.clz d a e, e, [a], [d]), (.ctz d a e, e, [a], [d]), (.popc d a e, e, [a], [d]),
       (.bfxu d a b e, e, [a, b], [d]), (.bfx d a b e, e, [a, b], [d]), (.bfi d a b e, e, [a, b, d], [d]),
       (.selnz d a b e, e, [a, b, d], [d])] ∨
      (i, E, L, D) ∈ [
       (Instr.addi d a i13, false, [a], [d]), (.andi d a i13, false, [a], [d]), (.ori d a i13, false, [a], [d]),
       (.xori d a i13, false, [a], [d]), (.shli d a c6, false, [a], [d]), (.shri d a c6, false, [a], [d]),
       (.sari d a c6, false, [a], [d]), (.slti d a i13, false, [a], [d]), (.lih d i19, false, [], [d]),
       (.jal d i19, false, [], [d]), (.jalr d a i13, false, [a], [d]), (.loop d i13, false, [d], [d]),
       (.stb d a c4 o9, false, [a, d], []), (.sth d a c4 o9, false, [a, d], []), (.stw d a c4 o9, false, [a, d], []),
       (.std d a c4 o9, false, [a, d], []), (.strel d a c4 sc o6, false, [a, d], [])] ∨
      isPort d = false ∧ (i, E, L, D) ∈ [
       (Instr.ldb d a c4 o9, false, [a], [d]), (.ldbu d a c4 o9, false, [a], [d]), (.ldh d a c4 o9, false, [a], [d]),
       (.ldhu d a c4 o9, false, [a], [d]), (.ldw d a c4 o9, false, [a], [d]), (.ldwu d a c4 o9, false, [a], [d]),
       (.ldd d a c4 o9, false, [a], [d]), (.ldacq d a c4 sc o6, false, [a], [d])] ∨
      (i, E, L, D) ∈ [
       (Instr.spldb d a b e, e, [a, b], [d]), (.spldh d a b e, e, [a, b], [d]), (.spldw d a b e, e, [a, b], [d]),
       (.spldd d a b e, e, [a, b], [d]), (.spstb d a b e, e, [a, b, d], []), (.spsth d a b e, e, [a, b, d], []),
       (.spstw d a b e, e, [a, b, d], []), (.spstd d a b e, e, [a, b, d], []), (.spmarkf a b e, e, [a, b], []),
       (.spmarke a b e, e, [a, b], []), (.sptestf d a b e, e, [a, b], [d]), (.finc d a e, e, [a], []),
       (.fwait d a b e, e, [a, b], []), (.lrpatch d a b e, e, [a, b, d], []), (.lrarm a e, e, [a], []),
       (.jdec a e, e, [a], []), (.lrstat d a b e, e, [a, b], [d]), (.gpush a e, e, [a], []), (.maskf d a b e, e, [a, b, d], []),
       (.spermit d a e, e, [a], [d]), (.spret a e, e, [a], []), (.fork a e, e, [a], []), (.frame a e, e, [a], [])]) →
     (∀ q ∈ L, isPort q = true → s.here.portOk false q = true) → (∀ q ∈ D, isPort q = true → s.here.portOk true q = true) →
     (∀ q ∈ s.here.a.bad, q.reg ∉ L ++ D) →
     (∀ r, L.find? s.here.isEmpty = some r →
       (E = true → exec i s = .next (s.takeTrap s.cur { code := 0x06#8, t0 := r.setWidth 64 }) ∧
         (s.here.a.inTrap = false → s.here.ctl.tvec ≠ 0 →
           exec i s = .next (s.modHere fun k => { k.reopen with
             ctl := { k.ctl with tcause := 0x06#8, tinfo0 := r.setWidth 64, tinfo1 := 0, tinfo2 := 0, tinfo3 := 0, tpc := k.a.pc }
             a := { k.a with inTrap := true, pc := k.ctl.tvec, wait := none, waitClk := 0, late := false } }))) ∧
       (E = false → exec i s = .next (s.modHere (·.stallA (.reg r))))) ∧
     (∀ r, L.find? s.here.isEmpty = none → D.find? s.here.isEmpty = some r →
       exec i s = .next (s.modHere (·.stallA (.reg r)))))

/-- R143: the immediate forms; LIH reads no register; a shift whose imm13[12:6] is not 0 faults ILLEGAL (R123). -/
def Obligations.ImmediateResults : Prop :=
  ∀ (s s1 t : State) (d a : Reg) (i13 : BitVec 13) (c : BitVec 6) (i19 : BitVec 19) (x v : Word),
    (s.clear [a] [d] = true → s.Reads a x s1 → s1.Writes d v t →
      ∀ i, (i, v) ∈ [
        (Instr.addi d a i13, x + i13.signExtend 64), (.andi d a i13, x &&& i13.setWidth 64),
        (.ori d a i13, x ||| i13.setWidth 64), (.xori d a i13, x ^^^ i13.setWidth 64),
        (.shli d a c, x <<< c.toNat), (.shri d a c, x >>> c.toNat), (.sari d a c, x.sshiftRight c.toNat),
        (.slti d a i13, if x.toInt < i13.toInt then 1 else 0)] → exec i s = .next (s.pastA t 4)) ∧
    (s.clear [] [d] = true → s.Writes d (i19.signExtend 64 <<< 13) t → exec (.lih d i19) s = .next (s.pastA t 4)) ∧
    (∀ (sup : Bool) (w x : W32), fMajor w = 5 ∨ fMajor w = 6 ∨ fMajor w = 7 → fld w 7 7 ≠ 0#7 → decode .a sup w x = .error .illegal)

/-- R144: a branch whose condition holds goes to PC + sext(off) x 4; otherwise the next instruction follows. A read of an
empty register waits. -/
def Obligations.BranchesFollowTheirCondition : Prop :=
  ∀ (s s1 s2 : State) (a b : Reg) (o : BitVec 13) (x y : Word) (i : Instr) (c : Prop) [Decidable c],
    (i = .beq a b o ∧ (c ↔ x = y) ∨ i = .bne a b o ∧ (c ↔ x ≠ y) ∨ i = .blt a b o ∧ (c ↔ x.toInt < y.toInt) ∨
      i = .bge a b o ∧ (c ↔ y.toInt ≤ x.toInt) ∨ i = .bltu a b o ∧ (c ↔ x.toNat < y.toNat) ∨
      i = .bgeu a b o ∧ (c ↔ y.toNat ≤ x.toNat)) →
    (s.clear [a, b] [] = true → s.Reads a x s1 → s1.Reads b y s2 →
      exec i s = .next (if c then s2.jumpA (s.here.a.pc + o.signExtend 64 * 4) else s.pastA s2 4)) ∧
    (∀ r, (∀ q ∈ [a, b], isPort q = true → s.here.portOk false q = true) → (∀ q ∈ s.here.a.bad, q.reg ≠ a ∧ q.reg ≠ b) →
      [a, b].find? s.here.isEmpty = some r → exec i s = .next (s.modHere (·.stallA (.reg r))))

/-- R145, R146: JAL and JALR link PC + 4, JALR reads s[a] before it writes d and faults ALIGN at a target that is no
multiple of 4; LOOP decrements d and branches while it is not 0: with d = s0, which reads 0, it always branches, a reading
that is the model's: log 25 (DEDUCED). -/
def Obligations.JumpsAndLoop : Prop :=
  ∀ (s s1 t : State) (d a : Reg) (o : BitVec 13) (o19 : BitVec 19) (x : Word),
    (s.clear [] [d] = true → s.Writes d (s.here.a.pc + 4) t →
      exec (.jal d o19) s = .next (t.jumpA (s.here.a.pc + o19.signExtend 64 * 4))) ∧
    (s.clear [a] [d] = true → s.Reads a x s1 →
      ((x + o.signExtend 64 * 4).toNat % 4 = 0 → s1.Writes d (s.here.a.pc + 4) t →
        exec (.jalr d a o) s = .next (t.jumpA (x + o.signExtend 64 * 4))) ∧
      ((x + o.signExtend 64 * 4).toNat % 4 ≠ 0 →
        exec (.jalr d a o) s = .next (s.takeFault s.cur .a (addrFlt .align (x + o.signExtend 64 * 4) .fetch false)))) ∧
    (s.clear [d] [d] = true → s.Reads d x s1 → s1.Writes d (x - 1) t →
      exec (.loop d o) s = .next (if x = 1 then s.pastA t 4 else t.jumpA (s.here.a.pc + o.signExtend 64 * 4)))

/-! ### Global memory (R36, R105, R140, R147-R152) -/

/-- R147, R149, R140: a global load performs at s[a] + sext(off) x size, checked and translated by R148; d turns empty with
the value, sign- or zero-extended, on its way (the poison of its line with it, R36), and s0 discards it.

R36: LOAD_RETURN delivers a value on its way to register r: the register takes it and is full again, a poisoned value is
marked with its line and the load's PC, and nothing else of the machine changes. -/
def Obligations.GlobalLoads : Prop :=
  (∀ (s s1 : State) (d a : Reg) (c : BitVec 4) (sc : Scope) (o : BitVec 9) (o6 : BitVec 6) (x off : Word) (size : Nat)
     (l : Xl) (v : Word) (i : Instr),
     isPort d = false → s.clear [a] [d] = true → s.Reads a x s1 →
     (i, off, size, v) ∈ [
       (Instr.ldb d a c o, o.signExtend 64, 1, (BitVec.ofNat 8 (s1.mem.get l.pa 1)).signExtend 64),
       (.ldbu d a c o, o.signExtend 64, 1, .ofNat 64 (s1.mem.get l.pa 1)),
       (.ldh d a c o, o.signExtend 64 * 2, 2, (BitVec.ofNat 16 (s1.mem.get l.pa 2)).signExtend 64),
       (.ldhu d a c o, o.signExtend 64 * 2, 2, .ofNat 64 (s1.mem.get l.pa 2)),
       (.ldw d a c o, o.signExtend 64 * 4, 4, (BitVec.ofNat 32 (s1.mem.get l.pa 4)).signExtend 64),
       (.ldwu d a c o, o.signExtend 64 * 4, 4, .ofNat 64 (s1.mem.get l.pa 4)),
       (.ldd d a c o, o.signExtend 64 * 8, 8, .ofNat 64 (s1.mem.get l.pa 8)),
       (.ldacq d a c sc o6, o6.signExtend 64 * 8, 8, .ofNat 64 (s1.mem.get l.pa 8))] →
     s1.xlate s1.cur s1.here.ctx .read (x + off) size = .ok l →
     exec i s = .next (s.pastA (s1.modHere (·.awaitReg
       { reg := d, val := v, bad := if s1.poisoned l.pa then some (lineVa (x + off)) else none, pc := s1.here.a.pc })) 4)) ∧
  (∀ (s : State) (c : CoreId) (r : Reg) (p : PendLoad), s.ev.core = c → s.ev.n.setWidth 6 = r → r ≠ 0#6 →
     (s.core c).a.pend.find? (·.reg == r) = some p →
     ∃ k, exec .loadReturn s = .next (s.setCore c k) ∧ k.reg r = p.val ∧ k.isEmpty r = false ∧
       (∀ q, q ≠ r → k.reg q = (s.core c).reg q ∧ k.isEmpty q = (s.core c).isEmpty q) ∧
       p ∉ k.a.pend ∧ (∀ q, q ∈ (s.core c).a.pend → q ≠ p → q ∈ k.a.pend) ∧
       (∀ b, b ∈ k.a.bad ↔ b ∈ (s.core c).a.bad ∨ ∃ l, p.bad = some l ∧ b = { reg := r, line := l, pc := p.pc }) ∧
       k.a.pc = (s.core c).a.pc ∧ k.x = (s.core c).x ∧ k.ctl = (s.core c).ctl ∧ k.spm = (s.core c).spm ∧
       k.eng = (s.core c).eng ∧ k.q = (s.core c).q)

/-- R147, R149: a store writes the low bytes of its data register at s[a] + sext(off) x size; the address register is read
first. A store to a device that has dropped off its link faults POISON (R379). -/
def Obligations.GlobalStores : Prop :=
  ∀ (s s1 s2 : State) (d a : Reg) (c : BitVec 4) (sc : Scope) (o : BitVec 9) (o6 : BitVec 6) (x y off : Word) (size : Nat)
    (l : Xl) (i : Instr),
    s.clear [a, d] [] = true → s.Reads a x s1 → s1.Reads d y s2 →
    (i, off, size) ∈ [
      (Instr.stb d a c o, o.signExtend 64, 1), (.sth d a c o, o.signExtend 64 * 2, 2),
      (.stw d a c o, o.signExtend 64 * 4, 4), (.std d a c o, o.signExtend 64 * 8, 8),
      (.strel d a c sc o6, o6.signExtend 64 * 8, 8)] →
    s2.xlate s2.cur s2.here.ctx .write (x + off) size = .ok l →
    (s2.linkDown l.pa size = true → exec i s = .next (s.takeFault s.cur .a (poisonFlt (x + off)))) ∧
    (s2.linkDown l.pa size = false → ∃ t, exec i s = .next (s.pastA t 4) ∧ t = { s2 with mem := t.mem, poison := s2.poison } ∧
      (∀ k, k < l.pa ∨ l.pa + size ≤ k → t.mem.read k = s2.mem.read k) ∧
      (s2.mem.wf = true → ∀ k, k < size → t.mem.read (l.pa + k) = BitVec.ofNat 8 (y.toNat / 256 ^ k)))

/-- R105, R147-R152: every byte of memory outside the bytes stored keeps its value, and so does every general register (d
of a load or an AMO takes its value later), every control register that software sets and every flag of RNDM: loads and
FENCE store nothing, a store or an atomic stores at its own address.

R154-R157: loads, gathers and the issue of a scatter store nothing; VST and VSTG change only the bytes of their four
lines that lie in global memory, VSTF none; no vector load or store changes a general, vector or predicate register, a
control register that software sets, or, VLD.DEC apart (R77), a flag of RNDM. -/
def Obligations.MemoryAccessFrame : Prop :=
  (∀ (s t : State) (d a b : Reg) (c : BitVec 4) (sc : Scope) (m : BitVec 16) (o : BitVec 9) (o6 : BitVec 6) (op : AmoOp),
     (∀ i ∈ [Instr.ldb d a c o, .ldbu d a c o, .ldh d a c o, .ldhu d a c o, .ldw d a c o, .ldwu d a c o, .ldd d a c o,
         .ldacq d a c sc o6, .fence m sc], exec i s = .next t →
       (∀ k, t.mem.read k = s.mem.read k) ∧ (∀ r, t.here.reg r = s.here.reg r) ∧ t.here.ctl.flags = s.here.ctl.flags ∧
       s.here.ctl.SameSettings t.here.ctl) ∧
     (∀ i off size, (i, off, size) ∈ [(Instr.stb d a c o, o.signExtend 64, 1), (.sth d a c o, o.signExtend 64 * 2, 2),
         (.stw d a c o, o.signExtend 64 * 4, 4), (.std d a c o, o.signExtend 64 * 8, 8),
         (.strel d a c sc o6, o6.signExtend 64 * 8, 8)] → exec i s = .next t →
       (∀ k, (∀ x s1 y s2 l, s.Reads a x s1 → s1.Reads d y s2 → s2.xlate s2.cur s2.here.ctx .write (x + off) size = .ok l →
           k < l.pa ∨ l.pa + size ≤ k) → t.mem.read k = s.mem.read k) ∧
       (∀ r, t.here.reg r = s.here.reg r) ∧ t.here.ctl.flags = s.here.ctl.flags ∧ s.here.ctl.SameSettings t.here.ctl) ∧
     (exec (.amo d a b op sc) s = .next t →
       (∀ k, (s.here.a.begun = [] → ∀ x s1 y s2 l, s.Reads a x s1 → s1.Reads b y s2 →
             s2.xlate s2.cur s2.here.ctx .atomic x 8 = .ok l → k < l.pa ∨ l.pa + 8 ≤ k) →
           (∀ x rest l, s.here.a.begun = x :: rest → s.xlate s.cur s.here.ctx .atomic x 8 = .ok l →
             k < l.pa ∨ l.pa + 8 ≤ k) → t.mem.read k = s.mem.read k) ∧
       (∀ r, t.here.reg r = s.here.reg r) ∧ t.here.ctl.flags = s.here.ctl.flags ∧ s.here.ctl.SameSettings t.here.ctl) ∧
     (exec (.amorr d a b op sc) s = .next t →
       (∀ k, (s.here.a.begun = [] → ∀ x s1 s3 l, s.Reads a x s1 →
             (∃ y s2 w, op ≠ .cas ∧ s1.Reads b y s2 ∧ s2.Reads d w s3) ∨
               (∃ y s2 z s2' w, op = .cas ∧ s1.Reads b y s2 ∧ s2.Reads (b + 1) z s2' ∧ s2'.Reads d w s3) →
             s3.xlate s3.cur s3.here.ctx .atomic x 8 = .ok l → k < l.pa ∨ l.pa + 8 ≤ k) →
           (∀ x rest l, s.here.a.begun = x :: rest → s.xlate s.cur s.here.ctx .atomic x 8 = .ok l →
             k < l.pa ∨ l.pa + 8 ≤ k) → t.mem.read k = s.mem.read k) ∧
       (∀ r, t.here.reg r = s.here.reg r) ∧ t.here.ctl.flags = s.here.ctl.flags ∧ s.here.ctl.SameSettings t.here.ctl)) ∧
  (∀ (s t : State) (q : BitVec 2) (p : Sq) (m : BitVec 3) (a b : Reg) (e : Bool),
     (∀ i ∈ [Instr.vld q a b e, .vldDec q a b e, .vldf q a b e, .vldfc q a b e, .vldg q a b e, .vgth q a m e, .vsct p a m e],
       exec i s = .next t → t.mem = s.mem ∧ (∀ r, t.here.reg r = s.here.reg r) ∧ t.here.x.v = s.here.x.v ∧
         t.here.x.p = s.here.x.p ∧ s.here.ctl.SameSettings t.here.ctl ∧
         (i ≠ .vldDec q a b e → t.here.ctl.flags = s.here.ctl.flags)) ∧
     (∀ i ∈ [Instr.vst p a b e, .vstf p a b e, .vstg p a b e], exec i s = .next t →
       (∀ r, t.here.reg r = s.here.reg r) ∧ t.here.x.v = s.here.x.v ∧ t.here.x.p = s.here.x.p ∧
       t.here.ctl.flags = s.here.ctl.flags ∧ s.here.ctl.SameSettings t.here.ctl ∧
       ∀ k, (∀ x s1 y s2 ls pa va, s.Reads a x s1 → s1.Reads b y s2 →
           (i = .vst p a b e ∧ s2.vecLines .write a (x + y) false = .ok ls ∨
             i = .vstg p a b e ∧ s2.globLines .write [x + y, x + y + 128, x + y + 256, x + y + 384] = .ok ls) →
           LineAt.glob pa va ∈ ls → k < pa ∨ pa + 128 ≤ k) → t.mem.read k = s.mem.read k))

/-- R150: AMO performs one read-modify-write of 8 bytes at s[a] and delivers the old value to d, which is empty until then;
a CAS whose comparison fails writes nothing, and on a poisoned line nothing is written and the old value is poisoned.

R151, R152: AMORR performs the same read-modify-write (CAS with its expected value in s[b] and its new value in s[b+1]),
empties no register, and its old value goes to the scratchpad and the flag of the core its descriptor names;
AMORR_RETURN writes it there and then increments the flag, and discards it where the task has ended.

R150, R221, Table 10.2: each element of a BATCH-ATOMIC performs its AMO on 8 bytes of a resident page and writes the old
value to its place in the scratchpad, in ascending order; its count is the elements performed. -/
def Obligations.AtomicResults : Prop :=
  (∀ (s s1 s2 : State) (d a b : Reg) (op : AmoOp) (sc : Scope) (x y old w : Word) (l : Xl),
     isPort d = false → s.here.a.begun = [] → s.clear (if op = .cas then [a, b, d] else [a, b]) [d] = true →
     s.Reads a x s1 → s1.Reads b y s2 → s2.xlate s2.cur s2.here.ctx .atomic x 8 = .ok l →
     ¬(pteTier l.pte = 1 ∧ pteRsd l.pte = false) → old = .ofNat 64 (s2.mem.get l.pa 8) →
     (s2.poisoned l.pa = true → exec (.amo d a b op sc) s = .next (s.pastA ((s2.keepOps []).modHere
       (·.awaitReg { reg := d, val := old, bad := some (lineVa x), pc := s2.here.a.pc })) 4)) ∧
     (s2.poisoned l.pa = false →
       (op = .cas → old ≠ s2.here.reg d → exec (.amo d a b op sc) s = .next (s.pastA ((s2.keepOps []).modHere
         (·.awaitReg { reg := d, val := old, pc := s2.here.a.pc })) 4)) ∧
       ((op, w) ∈ [(AmoOp.add, old + y), (.and, old &&& y), (.or, old ||| y), (.xor, old ^^^ y), (.swap, y),
           (.smin, if old.toInt ≤ y.toInt then old else y), (.smax, if old.toInt ≤ y.toInt then y else old),
           (.umin, if old.toNat ≤ y.toNat then old else y), (.umax, if old.toNat ≤ y.toNat then y else old)] ∨
           op = .cas ∧ old = s2.here.reg d ∧ w = y →
         exec (.amo d a b op sc) s = .next (s.pastA (((s2.physWrite l.pa (leBytes 8 w.toNat)).keepOps []).modHere
           (·.awaitReg { reg := d, val := old, pc := s2.here.a.pc })) 4)))) ∧
  ((∀ (s s3 u : State) (d a b : Reg) (op : AmoOp) (sc : Scope) (x y cmp desc old : Word) (l : Xl) (r : AmorrRet),
     s.here.a.begun = [] →
     ((∃ s1 s2, op ≠ .cas ∧ s.clear [a, b, d] [] = true ∧ s.Reads a x s1 ∧ s1.Reads b y s2 ∧ s2.Reads d desc s3) ∨
       (∃ s1 s2 s2', op = .cas ∧ b.toNat % 2 = 0 ∧ b.toNat ≤ 46 ∧ s.clear [a, b, b + 1, d] [] = true ∧ s.Reads a x s1 ∧
         s1.Reads b cmp s2 ∧ s2.Reads (b + 1) y s2' ∧ s2'.Reads d desc s3)) →
     s3.amorrCheck desc = none → s3.xlate s3.cur s3.here.ctx .atomic x 8 = .ok l →
     ¬(pteTier l.pte = 1 ∧ pteRsd l.pte = false) → old = .ofNat 64 (s3.mem.get l.pa 8) →
     u = (match amoNew op old y cmp, s3.poisoned l.pa with
       | some w, false => s3.physWrite l.pa (leBytes 8 w.toNat)
       | _, _ => s3) →
     r = AmorrRet.mk (amorrCore desc) ((u.keepOps []).core (amorrCore desc)).holder (amorrAddr desc) (amorrFlag desc) old
       (s3.poisoned l.pa) →
     exec (.amorr d a b op sc) s = .next (s.pastA { u.keepOps [] with amorr := s3.amorr ++ [r] } 4)) ∧
   (∀ (s : State) (r : AmorrRet) (rest : List AmorrRet), s.amorr = r :: rest → r.bad = false →
     (s.core r.core).absent = [] → (s.core r.core).occ = .task → (s.core r.core).holder = r.task →
     exec .amorrReturn s = .next (({ s with amorr := rest } : State).modCore r.core fun k =>
       ({ k with spm := k.spm.write r.addr.toNat (leBytes 8 r.val.toNat) } : Core).incFlag r.flag 1)) ∧
   (∀ (s : State) (r : AmorrRet) (rest : List AmorrRet), s.amorr = r :: rest → (s.core r.core).absent = [] →
     (s.core r.core).occ = .idle →
     exec .amorrReturn s = .next { s with amorr := rest })) ∧
  (∀ (s : State) (r : Rec) (i n o q : Nat) (va old w : Word) (op : AmoOp) (x : Xl), recordOk r = true → rKind r = 4 →
     s.perform r i = s.batch r (rN1 r) i ∧
     (rN1 r ≤ i → ∃ t, s.batch r n i = (.ok t i, i) ∧ t.mem = s.mem ∧ (rSetf r = false → t = s)) ∧
     (i < rN1 r → o = (rSadr r).toNat + 8 * i → q = (rAux64 r).toNat + 8 * i → o + 8 ≤ 0x80000 → q + 8 ≤ 0x80000 →
       s.here.spm.badIn o 8 = false → s.here.spm.badIn q 8 = false → va = rDadr r + (rStr1 r).signExtend 64 * .ofNat 64 i →
       s.xlate s.cur s.here.ctx .atomic va 8 = .ok x → notResident x.pte = false → s.poisoned x.pa = false →
       old = .ofNat 64 (s.mem.get x.pa 8) → AmoOp.ofCode (rAop r) = some op →
       amoNew op old (.ofNat 64 (s.here.spm.mem.get o 8)) 0 = some w →
       s.batch r (n + 1) i = ((s.physWrite x.pa (leBytes 8 w.toNat)).modSpm s.cur
         (·.write q (leBytes 8 old.toNat))).batch r n (i + 1)))

/-- R153, R55, R59: a scratchpad load at s[a] + s[b] writes d zero-extended: from the own scratchpad, from a peer's, or,
below SPCO through sp, from global memory at SPOVF + s[a] + s[b].

R153, R59: a scratchpad store writes the low bytes of s[d] into the own scratchpad, or through the overflow window into
global memory.

R57, R153: SPMARKF and SPMARKE set and clear the full bits of s[b] lines from the line at s[a] on and no other bit;
SPTESTF writes the full bit of the line of s[a] + s[b]. -/
def Obligations.ScratchpadAccesses : Prop :=
  (∀ (s s1 s2 t : State) (d a b : Reg) (e : Bool) (x y : Word) (size v : Nat) (i : Instr),
     s.clear [a, b] [d] = true → s.Reads a x s1 → s1.Reads b y s2 →
     (i, size) ∈ [(Instr.spldb d a b e, 1), (.spldh d a b e, 2), (.spldw d a b e, 4), (.spldd d a b e, 8)] →
     (s2.here.route a (x + y) = .local_ ∧ (x + y).toNat + size ≤ 0x80000 ∧ (x + y).toNat % size = 0 ∧
         s2.here.spm.badIn (x + y).toNat size = false ∧ v = s2.here.spm.mem.get (x + y).toNat size ∨
       (∃ o c, s2.here.route a (x + y) = .local_ ∧ (x + y).toNat = 0x800000 + o ∧ o + size ≤ 0x80000 ∧ o % size = 0 ∧
         s2.peerCore (x + y) false = .ok c ∧ (s2.core c).spm.badIn o size = false ∧ v = (s2.core c).spm.mem.get o size) ∨
       (∃ l, a = 63#6 ∧ (x + y).toNat < s2.here.spco.toNat ∧
         s2.xlate s2.cur s2.here.ctx .read (s2.here.ctl.spovf + (x + y)) size = .ok l ∧ s2.poisoned l.pa = false ∧
         v = s2.mem.get l.pa size)) →
     s2.Writes d (.ofNat 64 v) t → exec i s = .next (s.pastA t 4)) ∧
  (∀ (s s1 s2 s3 : State) (d a b : Reg) (e : Bool) (x y z : Word) (size : Nat) (i : Instr),
     s.clear [a, b, d] [] = true → s.Reads a x s1 → s1.Reads b y s2 → s2.Reads d z s3 →
     (i, size) ∈ [(Instr.spstb d a b e, 1), (.spsth d a b e, 2), (.spstw d a b e, 4), (.spstd d a b e, 8)] →
     (s3.here.route a (x + y) = .local_ → (x + y).toNat + size ≤ 0x80000 → (x + y).toNat % size = 0 →
       s3.here.spm.badIn (x + y).toNat size = false →
       exec i s = .next (s.pastA (s3.modSpm s3.cur
         (·.write (x + y).toNat (leBytes size (z.toNat % 2 ^ (8 * size))))) 4)) ∧
     (∀ l, a = 63#6 → (x + y).toNat < s3.here.spco.toNat →
       s3.xlate s3.cur s3.here.ctx .write (s3.here.ctl.spovf + (x + y)) size = .ok l → s3.linkDown l.pa size = false →
       exec i s = .next (s.pastA (s3.physWrite l.pa (leBytes size (z.toNat % 2 ^ (8 * size)))) 4))) ∧
  (∀ (s s1 s2 t : State) (d a b : Reg) (e : Bool) (x y : Word) (n : Nat), s.Reads a x s1 → s1.Reads b y s2 →
     (s.clear [a, b] [] = true → s2.here.route a x = .local_ → x.toNat < 0x80000 → x.toNat % 128 = 0 →
       x.toNat / 128 + y.toNat ≤ 4096 → n < 4096 →
       (∃ f : BitVec 4096, exec (.spmarkf a b e) s = .next (s.pastA (s2.modSpm s2.cur fun m => { m with full := f }) 4) ∧
         f.getLsbD n = (s2.here.spm.full.getLsbD n || (decide (x.toNat / 128 ≤ n) && decide (n < x.toNat / 128 + y.toNat)))) ∧
       (∃ f : BitVec 4096, exec (.spmarke a b e) s = .next (s.pastA (s2.modSpm s2.cur fun m => { m with full := f }) 4) ∧
         f.getLsbD n = (s2.here.spm.full.getLsbD n && !(decide (x.toNat / 128 ≤ n) && decide (n < x.toNat / 128 + y.toNat))))) ∧
     (s.clear [a, b] [d] = true → s2.here.route a (x + y) = .local_ → (x + y).toNat < 0x80000 →
       s2.Writes d (if s2.here.spm.full.getLsbD ((x + y).toNat / 128) then 1 else 0) t →
       exec (.sptestf d a b e) s = .next (s.pastA t 4)))

/-! ### Vector loads and stores (R154-R158) -/

/-- R154, R156: with room in its queue a vector load pushes the 512 bytes it reads, of the scratchpad lines or the global
bytes its address names; VLDF and VLDFC read full lines and VLDFC empties them. At SLIPD = 0 the strand then waits for the
entry's pop (R18).

R56, R154: where the lines of a vector access lie: an own scratchpad address that is a multiple of 128 names its four
lines, and a full-bit access likewise.

R55, R56, R58, R59, R61: a peer address that is a multiple of 128 names four lines of the core that GPEER chose, where the
access allows a peer; four global addresses name the lines they translate to; through sp a line below SPCO lies in the
overflow window, at SPOVF + its address, and the lines from SPCO on in the own scratchpad.

R55, R61, R116, R381: reading lines gives the 128 bytes of each in turn, of its core's scratchpad or of memory, with the
first poisoned global line; one line with an uncorrectable scratchpad word faults the whole read.

R155: VLD.DEC pushes the 128 elements of its source as FP32 lanes, scaled by ROWE and the column scales of line CLINE
where the format is scaled.

R67, R73-R77, R155: element i of a decoded source is the w bits from bit w x i on; its lane is its value, times 2 to the
sum of the two unbiased scales where the format is scaled (NaN where a scale byte is 0xFF; the row's special E4M3 value for
code 0b1000 of E2M1X), rounded to FP32. Worked: INT8 0xFF is -1; E2M1 1.5 with both scales 2 is 6; the special 0x38 is 1;
E4M3 1.0 x 2^254 overflows to infinity. -/
def Obligations.VectorLoadsPushTheirBytes : Prop :=
  (∀ (s s1 s2 : State) (q : BitVec 2) (a b : Reg) (e : Bool) (x y : Word) (ls : List LineAt) (bs : List Byte)
     (bad : Option Word) (i : Instr) (u : State),
     s.here.a.handoff ≠ some (q, s.here.a.pc) → (s.here.lq q).length < max s.here.ctl.slipd.toNat 1 →
     s.clear [a, b] [] = true → s.Reads a x s1 → s1.Reads b y s2 → s2.readLines ls = .ok (bs, bad) →
     (i = .vld q a b e ∧ s2.vecLines .read a (x + y) true = .ok ls ∧ u = s2 ∨
       i = .vldg q a b e ∧ a ≠ 63#6 ∧ s2.globLines .read [x + y, x + y + 128, x + y + 256, x + y + 384] = .ok ls ∧ u = s2 ∨
       (∃ o, s2.fullLines .read a (x + y) = .ok o ∧ ls = ownLines s2 o ∧
         (∀ n, n < 4 → s2.here.spm.full.getLsbD (o / 128 + n) = true) ∧
         (i = .vldf q a b e ∧ u = s2 ∨ i = .vldfc q a b e ∧ u = s2.modSpm s2.cur (·.markEmpty (o / 128) 4)))) →
     (s2.here.ctl.slipd ≠ 0#3 →
       exec i s = .next (s.pastA (u.modHere fun k => k.setLq q (k.lq q ++ [{ data := vecOf bs, bad := bad }])) 4)) ∧
     (s2.here.ctl.slipd = 0#3 → exec i s = .next ((u.modHere fun k =>
       let k1 := k.setLq q (k.lq q ++ [{ data := vecOf bs, bad := bad }])
       { k1 with a := { k1.a with handoff := some (q, u.here.a.pc) } }).modHere (·.stallA (.handoff q))))) ∧
  (∀ (s : State) (acc : Acc) (a : Reg) (ea : Word), ea.toNat % 128 = 0 → ea.toNat + 512 ≤ 0x80000 →
     (a = 63#6 → s.here.spco.toNat ≤ ea.toNat) →
     (∀ peerOk, s.vecLines acc a ea peerOk = .ok ((List.range 4).map fun i => .sp s.cur (ea.toNat + 128 * i))) ∧
     s.fullLines acc a ea = .ok ea.toNat) ∧
  (∀ (s : State) (acc : Acc) (a : Reg) (ea : Word),
     (∀ (o : Nat) (c : CoreId), a ≠ 63#6 → ea.toNat = 0x800000 + o → o % 128 = 0 → o + 512 ≤ 0x80000 →
       s.here.a.peer = some c → (s.core c).runsTask = true → s.sharesPeerGroup c = true → (s.core c).hold = none →
       s.vecLines acc a ea true = .ok ((List.range 4).map fun i => .sp c (o + 128 * i)) ∧
       s.vecLines acc a ea false = .error (addrFlt .prot ea acc true)) ∧
     (∀ (l0 l1 l2 l3 : Xl), s.xlate s.cur s.here.ctx acc ea 128 = .ok l0 →
       s.xlate s.cur s.here.ctx acc (ea + 128) 128 = .ok l1 → s.xlate s.cur s.here.ctx acc (ea + 256) 128 = .ok l2 →
       s.xlate s.cur s.here.ctx acc (ea + 384) 128 = .ok l3 →
       s.globLines acc [ea, ea + 128, ea + 256, ea + 384] =
         .ok [LineAt.glob l0.pa ea, .glob l1.pa (ea + 128), .glob l2.pa (ea + 256), .glob l3.pa (ea + 384)]) ∧
     (∀ (n : Nat) (peerOk : Bool), 1 ≤ n → n ≤ 4 → ea.toNat % 128 = 0 → ea.toNat + 512 ≤ 0x80000 →
       (n < 4 → s.here.spco.toNat = ea.toNat + 128 * n) → (n = 4 → ea.toNat + 384 < s.here.spco.toNat) →
       s.vecLines acc 63#6 ea peerOk =
         (s.globLines acc ((List.range n).map fun i => s.here.ctl.spovf + (ea + .ofNat 64 (128 * i)))).map
           (· ++ (List.range (4 - n)).map fun i => .sp s.cur (ea.toNat + 128 * (n + i))))) ∧
  (∀ (s : State) (ls : List LineAt),
     ((∀ c o, LineAt.sp c o ∈ ls → (s.core c).spm.badIn o 128 = false) → ∃ bs bad, s.readLines ls = .ok (bs, bad) ∧
       bs.length = 128 * ls.length ∧
       (∀ i j c o, ls[i]? = some (.sp c o) → j < 128 → bs[128 * i + j]? = some ((s.core c).spm.mem.read (o + j))) ∧
       (∀ i j pa va, ls[i]? = some (.glob pa va) → j < 128 → bs[128 * i + j]? = some (s.mem.read (pa + j))) ∧
       ((∀ pa va, LineAt.glob pa va ∈ ls → s.poisoned pa = false) → bad = none) ∧
       (∀ (i pa : Nat) (va : Word), ls[i]? = some (.glob pa va) → s.poisoned pa = true →
         (∀ (n pb : Nat) (vb : Word), n < i → ls[n]? = some (.glob pb vb) → s.poisoned pb = false) → bad = some (lineVa va))) ∧
     (∀ c o, LineAt.sp c o ∈ ls → (s.core c).spm.badIn o 128 = true → s.readLines ls = .error spPoison)) ∧
  (∀ (s s1 s2 : State) (q : BitVec 2) (a b : Reg) (e : Bool) (x desc : Word) (t : Elem) (c : CoreId) (o : Nat)
     (cols : List Byte),
     s.here.a.handoff ≠ some (q, s.here.a.pc) → (s.here.lq q).length < max s.here.ctl.slipd.toNat 1 →
     s.clear [a, b] [] = true → s.Reads a x s1 → s1.Reads b desc s2 →
     bits desc 63 34 = 0 → desc.getLsbD 5 = true → Elem.ofCode (desc.setWidth 4) = some t →
     s2.decSource a x (16 * elemWidth t) = .ok (c, o) → (s2.core c).spm.badIn o (16 * elemWidth t) = false →
     s2.here.spm.badIn (128 * bits desc 33 22) 128 = false → s2.here.ctl.slipd ≠ 0#3 →
     cols = (if desc.getLsbD 4 then s2.here.spm.mem.readN (128 * bits desc 33 22) 128 else List.replicate 128 127#8) →
     ∃ fl : Flags, exec (.vldDec q a b e) s = .next (s.pastA ((s2.raise fl).modHere fun k => k.setLq q (k.lq q ++ [LqEnt.mk
       (packV 32 ((decLanes t (desc.getLsbD 4) desc ((s2.core c).spm.mem.readN o (16 * elemWidth t)) cols).map (·.1)))
       none none])) 4)) ∧
  ((∀ (t : Elem) (sc : Bool) (d : Word) (src cols : List Byte) (i c : Nat) (ec : Byte), i < 128 → cols[i]? = some ec →
     c = leNat src / 2 ^ (elemWidth t * i) % 2 ^ elemWidth t →
     (decLanes t sc d src cols)[i]? = some (convert .fp32 false .rne 0
       (if sc then scaledValue t c (d.extractLsb' 6 16) ec else codeValue t c))) ∧
   (∀ (t : Elem) (c : Nat) (r : BitVec 16) (ec : Byte),
     ((r.toNat % 256 = 255 ∨ ec = 255#8) → scaledValue t c r ec = .nan) ∧
     (r.toNat % 256 ≠ 255 → ec ≠ 255#8 →
       ((t ≠ .e2m1x ∨ c ≠ 8) → scaledValue t c r ec =
         (codeValue t c).scale ((r.toNat % 256 : Nat) + (ec.toNat : Int) - 254)) ∧
       scaledValue .e2m1x 8 r ec = (codeValue .e4m3 (r.toNat / 256)).scale ((r.toNat % 256 : Nat) + (ec.toNat : Int) - 254))) ∧
   (decLanes .int8 false 0 [0xFF#8] [0#8])[0]? = some (0xBF800000, 0#6) ∧
   (decLanes .e2m1 true (128#64 <<< 6) [3#8] [128#8])[0]? = some (0x40C00000, 0#6) ∧
   (decLanes .e2m1x true (0x387F#64 <<< 6) [8#8] [127#8])[0]? = some (0x3F800000, 0#6) ∧
   (decLanes .e4m3 true (254#64 <<< 6) [0x38#8] [254#8])[0]? = some (0x7F800000, flOF ||| flNX) ∧
   (decLanes .e4m3 true (127#64 <<< 6) [0x38#8] [255#8])[0]? = some (0x7FC00000, 0#6))

/-- R154, R156: a vector store pops its store queue and writes the enabled bytes of the entry at its lines; VSTF does so once
they are empty and leaves them so.

R116, R154: writing lines writes exactly the enabled bytes, byte j of line i from element 128 x i + j of the list: each
reads back where no later line writes it too, every other byte of memory and of a scratchpad, every full bit and every other
part of a core keeps its value, and a poisoned line stays so unless one of them is it and enables all its bytes. -/
def Obligations.VectorStoresWriteEnabledBytes : Prop :=
  (∀ (s s1 s2 : State) (q : Sq) (a b : Reg) (e : Bool) (x y : Word) (ls : List LineAt) (z : SqEnt) (rest : List SqEnt)
     (i : Instr), s.clear [a, b] [] = true → s.Reads a x s1 → s1.Reads b y s2 → s2.here.sq q = z :: rest →
     s2.badLines ls (entBytes z) = none →
     (i = .vst q a b e ∧ s2.vecLines .write a (x + y) false = .ok ls ∨
       i = .vstg q a b e ∧ a ≠ 63#6 ∧ s2.globLines .write [x + y, x + y + 128, x + y + 256, x + y + 384] = .ok ls ∨
       (∃ o, i = .vstf q a b e ∧ s2.fullLines .write a (x + y) = .ok o ∧ ls = ownLines s2 o ∧
         ∀ n, n < 4 → s2.here.spm.full.getLsbD (o / 128 + n) = false)) →
     exec i s = .next (s.pastA ((s2.modHere fun k => k.setSq q rest).writeLines ls (entBytes z)) 4)) ∧
  (∀ (s t : State) (ls : List LineAt) (bs : List (Byte × Bool)), bs.length = 128 * ls.length → t = s.writeLines ls bs →
     (∀ i j pa va b, ls[i]? = some (.glob pa va) → j < 128 → bs[128 * i + j]? = some (b, true) → s.mem.wf = true →
       (∀ n pb vb, i < n → ls[n]? = some (.glob pb vb) → pa + j < pb ∨ pb + 128 ≤ pa + j) → t.mem.read (pa + j) = b) ∧
     (∀ i j c o b, ls[i]? = some (.sp c o) → j < 128 → bs[128 * i + j]? = some (b, true) → (s.core c).spm.mem.wf = true →
       (∀ n p, i < n → ls[n]? = some (.sp c p) → o + j < p ∨ p + 128 ≤ o + j) → (t.core c).spm.mem.read (o + j) = b) ∧
     (∀ k, (∀ i j pa va b, ls[i]? = some (.glob pa va) → j < 128 → pa + j = k → bs[128 * i + j]? ≠ some (b, true)) →
       t.mem.read k = s.mem.read k) ∧
     (∀ c k, (∀ i j o b, ls[i]? = some (.sp c o) → j < 128 → o + j = k → bs[128 * i + j]? ≠ some (b, true)) →
       (t.core c).spm.mem.read k = (s.core c).spm.mem.read k) ∧
     (∀ c, ∃ m, t.core c = { s.core c with spm := m } ∧ m.full = (s.core c).spm.full) ∧
     (∀ n, n ∈ t.poison ↔ n ∈ s.poison ∧ ¬∃ i va, ls[i]? = some (.glob (128 * n) va) ∧
       ∀ j, j < 128 → ∃ b, bs[128 * i + j]? = some (b, true)) ∧
     (∀ (z : SqEnt) (i : Nat), i < 512 → (entBytes z)[i]? = some (z.data.extractLsb' (8 * i) 8, z.en.getLsbD i)))

/-- R157, R48: a gather or scatter whose bitmap is free pops its indices, reserves the tail entry of LQN or pops the head of
SQN, its inactive lanes are complete at once, and the strand goes on, a VGTH at SLIPD 0 too: log 124 (DESIGN CHOICE).

R157: a lane of a gather under way reads mem32[s[a] + zext(idx[i]) x 4] into lane i of its entry, or 0 where the mask is
clear, keeps its other lanes, and sets bit i of its bitmap; the last lane clears the bitmap, makes the entry poppable and adds 1 to f(56 + M). A
scatter's lane writes the enabled bytes of its data there; lanes that reach the same bytes perform in ascending order: a
lane waits while a lower active lane that has not performed translates to the same physical word, which is the model's
reading: log 88 (DEDUCED). -/
def Obligations.GathersAndScatters : Prop :=
  (∀ (s s1 : State) (a : Reg) (m : BitVec 3) (e : Bool) (x : Word) (n : IqEnt) (rest : List IqEnt), a ≠ 63#6 →
     s.clear [a] [] = true → s.Reads a x s1 → x.toNat % 4 = 0 → Tbl.find? s1.here.eng.gs m.toNat = none →
     s1.here.q.iq = n :: rest →
     (∀ q : BitVec 2, (s1.here.lq q).length < max s1.here.ctl.slipd.toNat 1 →
       ∃ k : Core, exec (.vgth q a m e) s = .next (s.pastA (s1.setCore s1.cur
           (k.lanesDone m.toNat (Gs.mk x false q .sq0 n ⟨0, 0⟩ s.here.a.pc) (~~~n.mask))) 4) ∧ k.q.iq = rest ∧
         k.eng.cb = s1.here.eng.cb ∧ k.lq q = s1.here.lq q ++ [{ data := 0, gather := some m }] ∧
         Tbl.find? k.eng.gs m.toNat = some (Gs.mk x false q .sq0 n ⟨0, 0⟩ s.here.a.pc) ∧ k.a = s1.here.a ∧ k.x = s1.here.x ∧ k.ctl = s1.here.ctl ∧
         k.spm = s1.here.spm) ∧
     (∀ (q : Sq) (z : SqEnt) (r : List SqEnt), s1.here.sq q = z :: r →
       ∃ k : Core, exec (.vsct q a m e) s = .next (s.pastA (s1.setCore s1.cur
           (k.lanesDone m.toNat (Gs.mk x true 0#2 q n z s.here.a.pc) (~~~n.mask))) 4) ∧ k.q.iq = rest ∧ k.sq q = r ∧
         k.eng.cb = s1.here.eng.cb ∧
         Tbl.find? k.eng.gs m.toNat = some (Gs.mk x true 0#2 q n z s.here.a.pc) ∧ k.a = s1.here.a ∧ k.x = s1.here.x ∧ k.ctl = s1.here.ctl ∧ k.spm = s1.here.spm)) ∧
  ((∀ (k : Core) (m i : Nat) (g : Gs) (b : BitVec 128), m < 8 → k.laneDone m g i = k.lanesDone m g (1#128 <<< i) ∧
     (k.cbOf m ||| b ≠ BitVec.allOnes 128 → k.lanesDone m g b = k.setCb m (k.cbOf m ||| b)) ∧
     (k.cbOf m ||| b = BitVec.allOnes 128 → (k.lanesDone m g b).cbOf m = 0 ∧
       (k.lanesDone m g b).flag (.ofNat 6 (56 + m)) = .ofNat 32 (min ((k.flag (.ofNat 6 (56 + m))).toNat + 1) (2 ^ 32 - 1)) ∧
       Tbl.find? (k.lanesDone m g b).eng.gs m = none ∧ (g.scatter = false →
         ∀ x ∈ (k.lanesDone m g b).lq g.lq, x.gather ≠ some (.ofNat 3 m)))) ∧
   (∀ (k : Core) (m i x n : Nat) (g : Gs) (p : Option Word) (y : LqEnt), m < 8 → i < 128 → x < 2 ^ 32 →
     (k.laneIn m g i x p).eng = k.eng ∧ (k.laneIn m g i x p).a = k.a ∧ (k.laneIn m g i x p).x = k.x ∧
     (k.laneIn m g i x p).ctl = k.ctl ∧ (k.laneIn m g i x p).spm = k.spm ∧
     (∀ q, q ≠ g.lq → (k.laneIn m g i x p).lq q = k.lq q) ∧
     ((k.lq g.lq)[n]? = some y →
       (y.gather ≠ some (.ofNat 3 m) → ((k.laneIn m g i x p).lq g.lq)[n]? = some y) ∧
       (y.gather = some (.ofNat 3 m) → ∃ z, ((k.laneIn m g i x p).lq g.lq)[n]? = some z ∧ lane 32 z.data i = x ∧
         (∀ j, j < 128 → j ≠ i → lane 32 z.data j = lane 32 y.data j) ∧ z.gather = y.gather ∧ z.bad = y.bad.or p))) ∧
   ∀ (s : State) (c : CoreId) (m i : Nat) (g : Gs) (va : Word) (l : Xl), s.ev.core = c → s.ev.n.toNat % 8 = m →
     s.ev.lane.toNat = i → Tbl.find? (s.core c).eng.gs m = some g → s.engineOn c = true → (s.core c).hold = none →
     ((s.core c).cbOf m).getLsbD i = false → va = g.base + .ofNat 64 (lane 32 g.iq.idx i * 4) →
     (g.scatter = false → g.iq.mask.getLsbD i = true → s.xlate c (s.core c).ctx .read va 4 = .ok l → s.poisoned l.pa = false →
       exec .gatherScatterLane s =
         .next (s.modCore c fun k => (k.laneIn m g i (s.mem.get l.pa 4) none).laneDone m g i)) ∧
     (g.scatter = false → g.iq.mask.getLsbD i = false →
       exec .gatherScatterLane s = .next (s.modCore c fun k => (k.laneIn m g i 0 none).laneDone m g i)) ∧
     (g.scatter = true → g.iq.mask.getLsbD i = true → s.xlate c (s.core c).ctx .write va 4 = .ok l →
       s.linkDown l.pa 4 = false →
       ((∀ j z, j < i → ((s.core c).cbOf m).getLsbD j = false → g.iq.mask.getLsbD j = true →
           s.xlate c (s.core c).ctx .write (g.base + .ofNat 64 (lane 32 g.iq.idx j * 4)) 4 = .ok z → z.pa ≠ l.pa) →
         exec .gatherScatterLane s = .next ((s.physWriteEn l.pa ((List.range 4).map fun b =>
           (g.data.data.extractLsb' (32 * i + 8 * b) 8, g.data.en.getLsbD (4 * i + b)))).modCore c (·.laneDone m g i))) ∧
       ((∃ j z, j < i ∧ ((s.core c).cbOf m).getLsbD j = false ∧ g.iq.mask.getLsbD j = true ∧
           s.xlate c (s.core c).ctx .write (g.base + .ofNat 64 (lane 32 g.iq.idx j * 4)) 4 = .ok z ∧ z.pa = l.pa) →
         exec .gatherScatterLane s = .next s)))

/-! ### Queue ports, launch records, groups, flags and tokens (R159-R170) -/

/-- R159, R161, R162: QBIND binds port 48-54 to a descriptor whose checks pass and QUNBIND frees it, QSTAT reports a port (0
where it is unbound) with the number of accesses that can complete, and QWAIT ends once its port can complete one. A
task that serves no stage may pop every committed item and push to every free slot. A descriptor that leads to no queue of the
context's, which QBIND never binds, reaches none: QSTAT counts 0 through it (DEDUCED, log 111). A port pushes
to the free slots of its queue, a stage task to those reserved for it too, and pops the committed items that no task holds,
of a Rill the run of consecutive numbers from the cursor on, a stage task its reserved input too (DEDUCED, log 42).

R159: QBIND on a queue that is not open to the context in that direction, and a port number outside 48-54 of QBIND or
QUNBIND, 48-55 of QSTAT or QWAIT, fault and bind nothing. -/
def Obligations.QueuePorts : Prop :=
  (∀ (s s1 t : State) (d a : Reg) (e : Bool) (x : Word),
     (48 ≤ d.toNat → d.toNat ≤ 54 →
       (s.clear [a] [] = true → s.Reads a x s1 → s1.bindCheck x = none →
         exec (.qbind d a e) s = .next (s.pastA (s1.modHere fun k =>
           { k with a := { k.a with ports := Tbl.set k.a.ports (d.toNat - 48) x } }) 4)) ∧
       exec (.qunbind d e) s = .next (s.pastA (s.modHere fun k =>
         { k with a := { k.a with ports := Tbl.erase k.a.ports (d.toNat - 48) } }) 4)) ∧
     (48 ≤ a.toNat → a.toNat ≤ 55 → s.clear [] [d] = true → s.Writes d (s.portStat (portNo a)) t →
       exec (.qstat d a e) s = .next (s.pastA t 4) ∧
       (∀ desc q, a.toNat ≠ 55 → Tbl.find? s.here.a.ports (a.toNat - 48) = some desc → s.myPart.queue (descQid desc) = some q →
         q.openTo s.here.ctx (descPush desc) = true → (descBuf desc = true → descBaddr desc + q.esize ≤ 0x80000) →
         s.portStat (portNo a) = .ofNat 64
           ((if descPush desc then s.pushCount q else s.popCount q) % 8192 + 8192 + (descPush desc).toNat * 16384) ∧
         (s.portReady (portNo a) = true ↔ 0 < if descPush desc then s.pushCount q else s.popCount q)) ∧
       (a.toNat = 55 → s.portStat (portNo a) = .ofNat 64 (s.here.q.xq.length + 8192) ∧
         (s.portReady (portNo a) = true ↔ s.here.q.xq ≠ [])) ∧
       (∀ desc, a.toNat ≠ 55 → Tbl.find? s.here.a.ports (a.toNat - 48) = some desc →
         (∀ q, s.myPart.queue (descQid desc) = some q → q.openTo s.here.ctx (descPush desc) = false) →
         s.portStat (portNo a) = .ofNat 64 (8192 + (descPush desc).toNat * 16384) ∧ s.portReady (portNo a) = false) ∧
       (∀ q, s.here.info.stage = none → s.pushCount q = q.room s.holder? ∧ s.popCount q = q.avail s.holder?) ∧
       (a.toNat ≠ 55 → Tbl.find? s.here.a.ports (a.toNat - 48) = none →
         s.portStat (portNo a) = 0 ∧ s.portReady (portNo a) = false)) ∧
     (∀ (q : Queue) (h : Nat), q.room none = q.depth - q.items.length ∧
       q.room (some h) = q.depth - q.items.length + q.items.countP (·.st == .resvOut h) ∧
       (q.kind ≠ .rill → q.avail none = q.items.countP (·.st == .ready) ∧ q.avail (some h) = q.avail none) ∧
       (q.kind = .rill → q.avail (some h) = q.avail none + q.items.countP (·.st == .resvIn h) ∧
         (∀ n, n < q.avail none → ∃ i ∈ q.items, i.num = q.cursor + n ∧ i.st = .ready) ∧
         (q.avail none < q.items.length → ∀ i ∈ q.items, i.num = q.cursor + q.avail none → i.st ≠ .ready))) ∧
     (48 ≤ d.toNat → d.toNat ≤ 55 → s.clear [a] [] = true → s.Reads a x s1 → s.portReady (portNo d) = true →
       exec (.qwait d a e) s = .next (s.pastA s1 4))) ∧
  (∀ (s s1 : State) (d a : Reg) (e : Bool) (x : Word),
     (¬(48 ≤ d.toNat ∧ d.toNat ≤ 54) →
       exec (.qbind d a e) s = .next (s.takeFault s.cur .a { code := .illegal }) ∧
       exec (.qunbind d e) s = .next (s.takeFault s.cur .a { code := .illegal })) ∧
     (¬(48 ≤ a.toNat ∧ a.toNat ≤ 55) → exec (.qstat d a e) s = .next (s.takeFault s.cur .a { code := .illegal })) ∧
     (¬(48 ≤ d.toNat ∧ d.toNat ≤ 55) → exec (.qwait d a e) s = .next (s.takeFault s.cur .a { code := .illegal })) ∧
     (48 ≤ d.toNat → d.toNat ≤ 54 → s.clear [a] [] = true → s.Reads a x s1 → bits x 63 37 = 0 →
       (s1.myPart.queue (descQid x) = none ∨
         ∃ q, s1.myPart.queue (descQid x) = some q ∧ q.openTo s1.here.ctx (descPush x) = false) →
       exec (.qbind d a e) s = .next (s.takeFault s.cur .a protOpen)))

/-- R28, R163, R164, Table 01.3: on an IDLE record of its own context a task holds what it patches or arms, its patches,
arms and decrements stay provisional in its slot, and LRSTAT reads word 0; TSELF reads the record of the task. A record of
another context and an index above 4095 fault PROT, a record in another state (R27, R308) LR_STATE with its index and its
word 0, and a field above 9 ILLEGAL. LRPATCH faults an UNBUILT record before it tests its field or limit, an order of
checks that is the model's: log 97 (DESIGN CHOICE).

R28, R285: the supervisor's patch, arm and decrement act at once: LRPATCH changes the field of an IDLE record and of its
image in the pool, LRARM arms an IDLE record and releases it where its JOIN is 0, JDEC counts down an ARMED one.

R26, R28, R29, Tables 01.3, 01.4: what the supervisor's events do. A patch changes the named field of the record, of its
image in the pool that field alone beside the STAT word, and no other record. An arm sets JOIN to the initial join count
and, where that is 0, releases the record: QUEUED, its entry at the tail of the ready queue of its priority. A decrement
takes 1 from JOIN, and releases the record where that leaves 0. -/
def Obligations.LaunchRecords : Prop :=
  (∀ (s s1 s2 s3 t : State) (d a b : Reg) (e : Bool) (x f v : Word) (i : BitVec 12) (r : LRec) (h : Nat),
     s.Reads a x s1 →
     (s.clear [a, b, d] [] = true → s1.Reads b f s2 → s2.Reads d v s3 → x = i.setWidth 64 → s3.myPart.lrec i = r →
       s3.here.isSup = false → s3.here.holder = h → r.ctx = s3.here.ctx →
       (f.toNat < 8 ∨ f = 8 ∧ v.toNat < 2 ^ 56 ∨ f = 9 ∧ v.toNat ≤ r.pceil.toNat) →
       (r.st = .idle ∨ r.st = .held h ∧ r.armed = false) →
       exec (.lrpatch d a b e) s = .next (s.pastA
         ((s3.putRec (s3.partOf s3.cur) i { r with st := .held h }).addEff (.patch i (f.setWidth 4) v)) 4)) ∧
     (s.clear [a, b, d] [] = true → s1.Reads b f s2 → s2.Reads d v s3 → x = i.setWidth 64 →
       (s3.myPart.lrec i).st = .unbuilt → exec (.lrpatch d a b e) s = .next (s.takeFault s.cur .a (s3.lrFault i))) ∧
     (s.clear [a] [] = true → x = i.setWidth 64 → s1.myPart.lrec i = r → s1.here.isSup = false → s1.here.holder = h →
       r.ctx = s1.here.ctx →
       ((r.st = .idle ∨ r.st = .held h ∧ r.armed = false) →
         exec (.lrarm a e) s = .next (s.pastA (s1.putRec (s1.partOf s1.cur) i { r with st := .held h, armed := true }) 4)) ∧
       ((r.st = .armed ∨ r.st = .held h) → exec (.jdec a e) s = .next (s.pastA (s1.addEff (.dec i)) 4))) ∧
     (s.clear [a] [] = true →
       (4096 ≤ x.toNat ∨ x = i.setWidth 64 ∧ s1.here.isSup = false ∧ (s1.myPart.lrec i).st ≠ .unbuilt ∧
         (s1.myPart.lrec i).ctx ≠ s1.here.ctx) →
       exec (.lrarm a e) s = .next (s.takeFault s.cur .a protOpen) ∧
       exec (.jdec a e) s = .next (s.takeFault s.cur .a protOpen)) ∧
     (s.clear [a, b, d] [] = true → s1.Reads b f s2 → s2.Reads d v s3 →
       (4096 ≤ x.toNat ∨ x = i.setWidth 64 ∧ s3.here.isSup = false ∧ (s3.myPart.lrec i).st ≠ .unbuilt ∧
         (s3.myPart.lrec i).ctx ≠ s3.here.ctx) →
       exec (.lrpatch d a b e) s = .next (s.takeFault s.cur .a protOpen)) ∧
     (s.clear [a, b] [d] = true → s1.Reads b f s2 →
       (4096 ≤ x.toNat ∨ x = i.setWidth 64 ∧ s2.here.isSup = false ∧ (s2.myPart.lrec i).st ≠ .unbuilt ∧
         (s2.myPart.lrec i).ctx ≠ s2.here.ctx) →
       exec (.lrstat d a b e) s = .next (s.takeFault s.cur .a protOpen)) ∧
     (s.clear [a] [] = true → x = i.setWidth 64 → s1.myPart.lrec i = r →
       (s1.here.isSup = true ∨ r.st = .unbuilt ∨ r.ctx = s1.here.ctx) →
       ((if s1.here.isSup then r.st ≠ .idle else r.st ≠ .idle ∧ (r.st = .held s1.here.holder → r.armed = true)) →
         exec (.lrarm a e) s = .next (s.takeFault s.cur .a (s1.lrFault i))) ∧
       (r.st ≠ .armed → (s1.here.isSup = false → r.st ≠ .held s1.here.holder) →
         exec (.jdec a e) s = .next (s.takeFault s.cur .a (s1.lrFault i)))) ∧
     (s.clear [a, b, d] [] = true → s1.Reads b f s2 → s2.Reads d v s3 → x = i.setWidth 64 → s3.myPart.lrec i = r →
       (s3.here.isSup = true ∨ r.ctx = s3.here.ctx) → r.st ≠ .unbuilt →
       (10 ≤ f.toNat → exec (.lrpatch d a b e) s = .next (s.takeFault s.cur .a { code := .illegal })) ∧
       ((f.toNat < 8 ∨ f = 8 ∧ v.toNat < 2 ^ 56 ∨ f = 9 ∧ v.toNat ≤ r.pceil.toNat) →
         (if s3.here.isSup then r.st ≠ .idle else r.st ≠ .idle ∧ (r.st = .held s3.here.holder → r.armed = true)) →
         exec (.lrpatch d a b e) s = .next (s.takeFault s.cur .a (s3.lrFault i)))) ∧
     (s.lrFault i).code = .lrState ∧ (s.lrFault i).i0 = i.setWidth 64 ∧
     (s.lrFault i).i1 = .ofNat 64 ((s.myPart.lrec i).st.code s.holder? + 8 * (s.myPart.lrec i).ovf.toNat +
       16 * (s.myPart.lrec i).kind.toNat + (s.myPart.lrec i).join.toNat * 2 ^ 32) ∧
     (s.clear [a, b] [d] = true → s1.Reads b 0 s2 → x = i.setWidth 64 → s2.myPart.lrec i = r →
       (r.st = .unbuilt ∨ r.ctx = s2.here.ctx ∨ s2.here.isSup = true) →
       s2.Writes d (.ofNat 64 (r.st.code s2.holder? + 8 * r.ovf.toNat + 16 * r.kind.toNat + r.join.toNat * 2 ^ 32)) t →
       exec (.lrstat d a b e) s = .next (s.pastA t 4)) ∧
     (s.clear [a, b] [d] = true → s1.Reads b f s2 → 1 ≤ f.toNat → f.toNat ≤ 4 → x = i.setWidth 64 → s2.myPart.lrec i = r →
       r.st ≠ .unbuilt → r.kind ≠ 2#2 → (r.ctx = s2.here.ctx ∨ s2.here.isSup = true) →
       s2.Writes d (.ofNat 64 (r.cont.image / 2 ^ (64 * (f.toNat - 1)))) t → exec (.lrstat d a b e) s = .next (s.pastA t 4)) ∧
     (s.clear [] [d] = true → s.Writes d (s.here.info.lrec.setWidth 64) t → exec (.tself d e) s = .next (s.pastA t 4))) ∧
  (∀ (s s1 s2 s3 : State) (d a b : Reg) (e : Bool) (x f v : Word) (i : BitVec 12),
     s.Reads a x s1 → x = i.setWidth 64 →
     (s.clear [a, b, d] [] = true → s1.Reads b f s2 → s2.Reads d v s3 → s3.here.isSup = true → (s3.myPart.lrec i).st = .idle →
       (f.toNat < 8 ∨ f = 8 ∧ v.toNat < 2 ^ 56 ∨ f = 9 ∧ v.toNat ≤ (s3.myPart.lrec i).pceil.toNat) →
       exec (.lrpatch d a b e) s = .next (s.pastA (s3.patchRec (s3.partOf s3.cur) i (f.setWidth 4) v) 4)) ∧
     (s.clear [a] [] = true → s1.here.isSup = true →
       ((s1.myPart.lrec i).st = .idle →
         exec (.lrarm a e) s = .next (s.pastA ((s1.armRec (s1.partOf s1.cur) i).releaseIfZero (s1.partOf s1.cur) i) 4)) ∧
       ((s1.myPart.lrec i).st = .armed →
         exec (.jdec a e) s = .next (s.pastA (s1.decRec (s1.partOf s1.cur) i 1) 4)))) ∧
  (∀ (s t : State) (p : PartId) (i : BitVec 12) (r : LRec), (s.part p).lrec i = r →
     (∀ (f : BitVec 4) (v : Word) (a lo n : Nat), t = s.patchRec p i f v → a = (s.part p).recAddr i →
       (∀ j, j ≠ i → (t.part p).lrec j = (s.part p).lrec j) ∧ t.cores = s.cores ∧
       (f.toNat < 8 → ∃ A, (t.part p).lrec i = { r with args := A } ∧ A.getD f.toNat 0 = v ∧
         ∀ j, j ≠ f.toNat → A.getD j 0 = r.args.getD j 0) ∧
       (f = 8#4 → (t.part p).lrec i = { r with argp := v }) ∧
       (f = 9#4 → (t.part p).lrec i = { r with prio := v.setWidth 2 }) ∧
       (f.toNat < 10 → (lo, n) = (if f.toNat < 8 then (a + 24 + 8 * f.toNat, 8) else if f = 8#4 then (a + 16, 8) else (a + 95, 1)) →
         (∀ k, (k < lo ∨ lo + n ≤ k) → (k < a + 120 ∨ a + 128 ≤ k) → t.mem.read k = s.mem.read k) ∧
         (s.mem.wf = true → (∀ k, k < 128 → (s.part p).ownsHbm (a + k) = true) →
           t.mem.get lo n = (if f = 9#4 then v.toNat % 4 + 4 * r.pceil.toNat else v.toNat) ∧
           t.mem.get (a + 120) 8 = (r.word0 none).toNat))) ∧
     (t = (s.armRec p i).releaseIfZero p i → r.st = .idle →
       (∀ j, j ≠ i → (t.part p).lrec j = (s.part p).lrec j) ∧
       (r.jinit ≠ 0#32 → (t.part p).lrec i = { r with st := .armed, join := r.jinit, armed := false } ∧
         ∀ k, (t.part p).ready k = (s.part p).ready k) ∧
       (r.jinit = 0#32 → (t.part p).lrec i = { r with st := .queued, join := 0, armed := false, left := r.size } ∧
         (t.part p).ready r.prio = (s.part p).ready r.prio ++ [r.entry i] ∧
         ∀ k, k ≠ r.prio → (t.part p).ready k = (s.part p).ready k)) ∧
     (t = s.decRec p i 1 → r.st = .armed →
       (∀ j, j ≠ i → (t.part p).lrec j = (s.part p).lrec j) ∧
       (1 < r.join.toNat → (t.part p).lrec i = { r with join := r.join - 1 } ∧ ∀ k, (t.part p).ready k = (s.part p).ready k) ∧
       (r.join = 1#32 → (t.part p).lrec i = { r with st := .queued, join := 0, left := r.size } ∧
         (t.part p).ready r.prio = (s.part p).ready r.prio ++ [r.entry i] ∧
         ∀ k, k ≠ r.prio → (t.part p).ready k = (s.part p).ready k)))

/-- R166: an arrival through slot g counts in its BARRIER row, whose phase completes with the last member's; GWAIT ends once
the phase of the task's last arrival is complete, and GBAR is an arrival and its wait. GPEER (R58) chooses a member of a
PEER group.

R47, R165, R167: FINC adds s[a][31:0] to a flag, held at 0xFFFF_FFFF; FWAIT subtracts its threshold once the flag has
reached it; FRD reads and FCLR clears.

R46, R168: TWAIT ends on an IDLE or DONE token and faults ENGINE on a FAULTED one; TTEST reads a token's state and
sub-code; a token number outside 1-31 faults ILLEGAL. -/
def Obligations.BarriersFlagsAndTokens : Prop :=
  (∀ (s s1 : State) (d a : Reg) (e : Bool) (x : Word) (i : BitVec 8) (G : Group), d.toNat < 4 →
     s.Reads a x s1 →
     (s.slotGroup (d.setWidth 2) 1#2 = some (i, G) → s.here.phaseOf (d.setWidth 2) ≤ G.phase →
       exec (.garr d e) s = .next (s.pastA (s.arrive (d.setWidth 2) i G) 4)) ∧
     (s.clear [a] [] = true → s1.slotGroup (d.setWidth 2) 1#2 = some (i, G) →
       s1.here.phaseOf (d.setWidth 2) ≤ G.phase →
       exec (.gwait d a e) s = .next (s.pastA s1 4) ∧
       (s.here.a.gbar = none → G.arrivals + 1 = G.size →
         exec (.gbar d a e) s = .next (s.pastA (s1.arrive (d.setWidth 2) i G) 4)) ∧
       (s.here.a.gbar = some s.here.a.pc → exec (.gbar d a e) s = .next (s.pastA (s1.setGbar none) 4))) ∧
     (s.clear [a] [] = true → s1.slotGroup (d.setWidth 2) 2#2 = some (i, G) → G.mask.getLsbD (x.toNat % 256) = true →
       exec (.gpeer d a e) s = .next (s.pastA (s1.modHere fun k =>
         { k with a := { k.a with peer := some (x.setWidth 8), peerGroup := i } }) 4)) ∧
     (∀ H : Group, (H.arrivals + 1 = H.size → H.arrive = { H with arrivals := 0, phase := H.phase + 1 }) ∧
       (H.arrivals + 1 ≠ H.size → H.arrive = { H with arrivals := H.arrivals + 1 }))) ∧
  (∀ (s s1 s2 t : State) (d a b : Reg) (e : Bool) (x y : Word),
     (s.clear [a] [] = true → s.Reads a x s1 → exec (.finc d a e) s = .next (s.pastA (s1.modHere (·.setFlag d
       (.ofNat 32 (min ((s1.here.flag d).toNat + x.toNat % 2 ^ 32) 0xFFFFFFFF)))) 4)) ∧
     (s.clear [a, b] [] = true → s.Reads a x s1 → s1.Reads b y s2 → x.toNat % 2 ^ 32 ≤ (s2.here.flag d).toNat →
       exec (.fwait d a b e) s = .next (s.pastA (s2.modHere (·.setFlag d
         (.ofNat 32 ((s2.here.flag d).toNat - x.toNat % 2 ^ 32)))) 4)) ∧
     (s.clear [] [d] = true → s.Writes d ((s.here.flag a).setWidth 64) t → exec (.frd d a e) s = .next (s.pastA t 4)) ∧
     exec (.fclr d e) s = .next (s.pastA (s.modHere (·.setFlag d 0)) 4) ∧
     (∀ (k : Core) (f g : BitVec 6) (v : W32), (k.setFlag f v).flag f = v ∧ (g ≠ f → (k.setFlag f v).flag g = k.flag g))) ∧
  (∀ (s s1 t : State) (d a : Reg) (e : Bool) (x : Word),
     (1 ≤ d.toNat → d.toNat ≤ 31 → s.clear [a] [] = true → s.Reads a x s1 →
       ((s1.here.tok d.toNat).st = .idle ∨ (s1.here.tok d.toNat).st = .done →
         exec (.twait d a e) s = .next (s.pastA s1 4)) ∧
       ((s1.here.tok d.toNat).st = .faulted → exec (.twait d a e) s = .next (s.takeFault s.cur .a
         { code := .engine, i0 := d.setWidth 64, sub := (s1.here.tok d.toNat).sub }))) ∧
     (1 ≤ a.toNat → a.toNat ≤ 31 → s.clear [] [d] = true →
       s.Writes d (.ofNat 64 ((s.here.tok a.toNat).sub.toNat * 256 + (match (s.here.tok a.toNat).st with
         | .idle => 0 | .pending => 1 | .done => 2 | .faulted => 3))) t →
       exec (.ttest d a e) s = .next (s.pastA t 4)) ∧
     ((d.toNat = 0 ∨ 31 < d.toNat) → exec (.twait d a e) s = .next (s.takeFault s.cur .a { code := .illegal })) ∧
     ((a.toNat = 0 ∨ 31 < a.toNat) → exec (.ttest d a e) s = .next (s.takeFault s.cur .a { code := .illegal })))

/-- R162, R166-R168, R170: a limited wait (FWAIT, TWAIT, GWAIT, GBAR, QWAIT) whose condition does not hold traps once L clk
have passed in it, with the TINFO values of its trap, and otherwise goes on waiting. GBAR waits for its turn to arrive as
GARR does, arrives once, and then is its GWAIT step; that the mark of its arrival stands through GWAIT_TIMEOUT, so that the
retry of R170 does not arrive again, is the model's reading: log 35 (DEDUCED). QTIMEOUT names the queue, the number of its next pop and that of its
next push, for which the model takes the head and tail indices: log 18 (DEDUCED). -/
def Obligations.LimitedWaits : Prop :=
  ∀ (s s1 s2 : State) (d a b : Reg) (e : Bool) (x y : Word),
    (s.clear [a, b] [] = true → s.Reads a x s1 → s1.Reads b y s2 → (s2.here.flag d).toNat < x.toNat % 2 ^ 32 →
      exec (.fwait d a b e) s = .next (if y.toNat ≤ s2.here.elapsed (.fwait d (x.setWidth 32) y) then
          s.takeTrap s.cur { code := 0x04#8, t0 := d.setWidth 64, t1 := (s2.here.flag d).setWidth 64, t2 := .ofNat 64 (x.toNat % 2 ^ 32) }
        else s.modHere (·.stallA (.fwait d (x.setWidth 32) y)))) ∧
    (s.clear [a] [] = true → s.Reads a x s1 →
      (1 ≤ d.toNat → d.toNat ≤ 31 → (s1.here.tok d.toNat).st = .pending →
        exec (.twait d a e) s = .next (if x.toNat ≤ s1.here.elapsed (.twait (d.setWidth 5) x) then
            s.takeTrap s.cur { code := 0x05#8, t0 := d.setWidth 64 }
          else s.modHere (·.stallA (.twait (d.setWidth 5) x)))) ∧
      (∀ i G, d.toNat < 4 → s1.slotGroup (d.setWidth 2) 1#2 = some (i, G) → G.phase < s1.here.phaseOf (d.setWidth 2) →
        exec (.gwait d a e) s = .next (if x.toNat ≤ s1.here.elapsed (.gwait (d.setWidth 2) x) then
            s.takeTrap s.cur { code := 0x0A#8, t0 := d.setWidth 64, t1 := i.setWidth 64, t2 := .ofNat 64 G.arrivals }
          else s.modHere (·.stallA (.gwait (d.setWidth 2) x)))) ∧
      (∀ i G, d.toNat < 4 → s1.slotGroup (d.setWidth 2) 1#2 = some (i, G) →
        (s.here.a.gbar = some s.here.a.pc → G.phase < s1.here.phaseOf (d.setWidth 2) →
          exec (.gbar d a e) s = .next (if x.toNat ≤ s1.here.elapsed (.gwait (d.setWidth 2) x) then
              s.takeTrap s.cur { code := 0x0A#8, t0 := d.setWidth 64, t1 := i.setWidth 64, t2 := .ofNat 64 G.arrivals }
            else s.modHere (·.stallA (.gwait (d.setWidth 2) x)))) ∧
        (s.here.a.gbar ≠ some s.here.a.pc → G.phase < s1.here.phaseOf (d.setWidth 2) →
          exec (.gbar d a e) s = .next (s.modHere (·.stallA (.garr (d.setWidth 2))))) ∧
        (s.here.a.gbar ≠ some s.here.a.pc → s1.here.phaseOf (d.setWidth 2) = G.phase → G.arrivals + 1 ≠ G.size →
          exec (.gbar d a e) s = .next (((s.arrive (d.setWidth 2) i G).setGbar (some s.here.a.pc)).modHere
            (·.stallA (.gwait (d.setWidth 2) x))))) ∧
      (48 ≤ d.toNat → d.toNat ≤ 55 → (d.toNat ≠ 55 → (Tbl.find? s.here.a.ports (d.toNat - 48)).isSome = true) →
        s.portReady (portNo d) = false →
        exec (.qwait d a e) s = .next (if x.toNat ≤ s.here.elapsed (.qwait (portNo d) x) then
            s.takeTrap s.cur (s.qtimeoutTrap (portNo d)) else s.modHere (·.stallA (.qwait (portNo d) x))))) ∧
    (48 ≤ d.toNat → d.toNat ≤ 55 →
      (d.toNat = 55 → s.qtimeoutTrap (portNo d) = { code := 0x03#8, t0 := 0xFFFF, t2 := .ofNat 64 s.here.q.xq.length }) ∧
      (∀ desc q, d.toNat ≠ 55 → Tbl.find? s.here.a.ports (d.toNat - 48) = some desc →
        s.myPart.queue (descQid desc) = some q → q.openTo s.here.ctx (descPush desc) = true →
        (descBuf desc = true → descBaddr desc + q.esize ≤ 0x80000) → s.qtimeoutTrap (portNo d) =
          { code := 0x03#8, t0 := .ofNat 64 (bits desc 15 0), t1 := .ofNat 64 q.headIx, t2 := .ofNat 64 q.tailIx }) ∧
      (s.portReady 7#3 = !s.here.q.xq.isEmpty))

/-- R17, R41, R165, R169, R319: FORK starts the X-strand at s[a] with VRB, PRB and LC 0, faults ALIGN at an address that is
no multiple of 4, and waits while it runs; RDV ends once it is idle; SLIP sets SLIPD; FRAME sets FLEN and clears FC. A FORK
while the X-strand is held on a trap (R178) starts it anew: log 82 (DEDUCED).

R242, R324: SPERMIT grants a DET task min(n, DETGRANT - h), and another task min(n, what the pool still holds), up to
16 held in all; an operand above 16 faults ILLEGAL. The pool is PPOOL, 0 at a cap level above 0 (R323); that a DETGRANT
above 16 acts as 16, that 16 bounds the grant, and that only a task that is not DET draws on the pool is log 81 (DEDUCED).
SPRET returns at most what the task holds. -/
def Obligations.StrandControlAndPermits : Prop :=
  (∀ (s s1 : State) (a : Reg) (e : Bool) (n : BitVec 12) (x : Word),
     (s.clear [a] [] = true → s.Reads a x s1 →
       (x.toNat % 4 = 0 → (s1.here.x.run = .idle ∨ s1.here.x.trap ≠ none) →
         exec (.fork a e) s = .next (s.pastA (s1.modHere fun k => { k with x := { k.x with run := .running, pc := x, vrb := 0, prb := 0, lc := 0, wait := none, dog := 0, trap := none, taken := false } }) 4)) ∧
       (x.toNat % 4 ≠ 0 → exec (.fork a e) s = .next (s.takeFault s.cur .a (addrFlt .align x .fetch false))) ∧
       (x.toNat % 4 = 0 → s1.here.x.run = .running → s1.here.x.trap = none →
         exec (.fork a e) s = .next (s.modHere (·.stallA .rdv))) ∧
       exec (.frame a e) s = .next (s.pastA (s1.modHere fun k =>
         { k with ctl := { k.ctl with flen := .ofNat 12 x.toNat, fc := 0, fcSub := 0 } }) 4)) ∧
     (s.here.x.run = .idle → exec .rdv s = .next (s.pastA s 4)) ∧
     (s.here.x.run ≠ .idle → exec .rdv s = .next (s.modHere (·.stallA .rdv))) ∧
     (n.toNat ≤ 4 → exec (.slip n e) s = .next (s.pastA (s.modHere fun k =>
       { k with ctl := { k.ctl with slipd := .ofNat 3 n.toNat } }) 4)) ∧
     (4 < n.toNat → exec (.slip n e) s = .next (s.takeFault s.cur .a { code := .illegal }))) ∧
  (∀ (s s1 t : State) (d a : Reg) (e : Bool) (x : Word) (g : Nat), s.Reads a x s1 →
     (s.clear [a] [d] = true → x.toNat ≤ 16 → g = s1.grant x.toNat → (s1.addPermits g).Writes d (.ofNat 64 g) t →
       exec (.spermit d a e) s = .next (s.pastA t 4)) ∧
     (s.clear [a] [d] = true → 16 < x.toNat → exec (.spermit d a e) s = .next (s.takeFault s.cur .a { code := .illegal })) ∧
     (s1.here.detm = true → s1.grant g = min g (min (bits s1.myPart.schcfg 13 9) 16 - s1.here.a.permits.toNat)) ∧
     (s1.here.detm = false → s1.grant g = min (min g
       ((if s1.power.cap = 0#2 then bits s1.myPart.schcfg 31 20 else 0) - s1.myPart.permits)) (16 - s1.here.a.permits.toNat)) ∧
     (∀ n, n ≤ 16 → s1.here.a.permits.toNat + n ≤ 16 →
       (s1.addPermits n).here.a.permits.toNat = s1.here.a.permits.toNat + n) ∧
     (∀ n, n ≤ s1.here.a.permits.toNat → (s1.dropPermits n).here.a.permits.toNat = s1.here.a.permits.toNat - n) ∧
     (s.clear [a] [] = true → g = min x.toNat s1.here.a.permits.toNat →
       exec (.spret a e) s = .next (s.pastA (s1.dropPermits g) 4)) ∧
     ((s1.addPermits g).myPart.permits = if s1.here.detm then s1.myPart.permits else s1.myPart.permits + g) ∧
     ((s1.dropPermits g).myPart.permits = if s1.here.detm then s1.myPart.permits else s1.myPart.permits - g))

/-- R240: the grammar stack holds eight entries: GPUSH pushes s[a][15:0] or traps GSTK_OVF, GPOP and GTOP, whose
destination can be written, deliver the top or trap GSTK_UNF (with a full queue at the port of the destination too: log 97,
DESIGN CHOICE), GDEPTH reads the depth, GCLR empties it.

R241: MASKF copies the 64 bytes of slice key[25:16] of state key[15:0] of the mask table at s[a] into the own scratchpad
at s[d]. -/
def Obligations.GrammarStackAndMasks : Prop :=
  (∀ (s s1 t : State) (d a : Reg) (e : Bool) (x : Word) (top : BitVec 16) (l : List (BitVec 16)),
     (s.clear [a] [] = true → s.Reads a x s1 →
       (s1.here.eng.gstk.length < 8 → exec (.gpush a e) s = .next (s.pastA (s1.modHere fun k =>
         { k with eng := { k.eng with gstk := x.setWidth 16 :: k.eng.gstk } }) 4)) ∧
       (8 ≤ s1.here.eng.gstk.length → exec (.gpush a e) s = .next (s.takeTrap s.cur
         { code := 0x01#8, t0 := .ofNat 64 (x.toNat % 65536), t1 := 8 }))) ∧
     (s.clear [] [d] = true →
       (s.here.eng.gstk = top :: l →
         (State.Writes (s.modHere fun k => { k with eng := { k.eng with gstk := l } }) d (top.setWidth 64) t →
           exec (.gpop d e) s = .next (s.pastA t 4)) ∧
         (s.Writes d (top.setWidth 64) t → exec (.gtop d e) s = .next (s.pastA t 4))) ∧
       (s.Writes d (.ofNat 64 s.here.eng.gstk.length) t → exec (.gdepth d e) s = .next (s.pastA t 4))) ∧
     (s.here.eng.gstk = [] → s.clear [] [d] = true → exec (.gpop d e) s = .next (s.takeTrap s.cur { code := 0x02#8 }) ∧
       exec (.gtop d e) s = .next (s.takeTrap s.cur { code := 0x02#8 })) ∧
     exec .gclr s = .next (s.pastA (s.modHere fun k => { k with eng := { k.eng with gstk := [] } }) 4)) ∧
  (∀ (s s1 s2 s3 : State) (d a b : Reg) (e : Bool) (base key dst va : Word) (l : Xl),
     s.clear [a, b, d] [] = true → s.Reads a base s1 → s1.Reads b key s2 → s2.Reads d dst s3 →
     bits key 31 26 = 0 → bits key 63 42 = 0 → 0 < bits key 41 32 → bits key 41 32 ≤ 512 → bits key 25 16 < bits key 41 32 →
     bits base 63 56 = 0 → base.toNat % 64 = 0 → (d = 63#6 → s3.here.spco.toNat ≤ dst.toNat) →
     dst.toNat + 64 ≤ 0x80000 → dst.toNat % 64 = 0 →
     va = base + .ofNat 64 ((bits key 15 0 * bits key 41 32 + bits key 25 16) * 64) →
     s3.xlate s3.cur s3.here.ctx .read va 64 = .ok l → s3.poisoned l.pa = false → s3.here.spm.badIn dst.toNat 64 = false →
     exec (.maskf d a b e) s = .next (s.pastA (s3.modSpm s3.cur (·.write dst.toNat (s3.mem.readN l.pa 64))) 4))

/-! ### The matrix engine (R43, R44, R203-R218) -/

/-- R203, R206, R215: MXW writes shadow register 0-7 within its field mask and MXR reads it, or MXST as number 8; OCLAIM turns
FREE slots CLAIMED, one or an even pair, ORELS frees a slot that no accepted nest names and defers the release of one that is
named to the end of the nests accepted by then, with its pair as one (DEDUCED, log 30), and OSTAT reads the slots. Other
numbers fault ILLEGAL, other slot states, and an odd slot as a pair's even one, SLOT_STATE. An ORELS of a slot whose release is
already deferred replaces the nests it waits for: the model's choice (DESIGN CHOICE, log 110).

R44, R206, R215: OSTAT's word gives each slot's state, whether it is a pair's even half and whether its release is
deferred; MXST's gives the commands held, whether a nest is in flight, whether it waits for a Breeze token alone (a step is
due and its cluster holds none or must pass it) and the steps it has made. A release empties the slot, or both of a pair, and
nothing else. -/
def Obligations.MatrixRegistersAndSlots : Prop :=
  (∀ (s s1 t : State) (d : Reg) (i : BitVec 12) (n : BitVec 3) (e : Bool) (x : Word),
     (i.toNat < 8 →
       (s.clear [d] [] = true → s.Reads d x s1 → exec (.mxw d i e) s = .next (s.pastA (s1.modHere (·.modMe fun m =>
         { m with shadow := Tbl.set m.shadow i.toNat (x &&& mxMask i.toNat) })) 4)) ∧
       (s.clear [] [d] = true → s.Writes d (Tbl.get 0 s.here.eng.me.shadow i.toNat) t →
         exec (.mxr d i e) s = .next (s.pastA t 4))) ∧
     (i.toNat = 8 → s.clear [] [d] = true → s.Writes d s.mxst t → exec (.mxr d i e) s = .next (s.pastA t 4)) ∧
     (8 ≤ i.toNat → exec (.mxw d i e) s = .next (s.takeFault s.cur .a { code := .illegal })) ∧
     (9 ≤ i.toNat → exec (.mxr d i e) s = .next (s.takeFault s.cur .a { code := .illegal })) ∧
     ((s.here.slot n).st = .free →
       exec (.oclaim false n e) s = .next (s.pastA (s.modHere (·.setSlot n { st := .claimed })) 4) ∧
       (n.toNat % 2 = 0 → (s.here.slot (n + 1)).st = .free →
         exec (.oclaim true n e) s = .next (s.pastA (s.modHere fun k =>
           (k.setSlot n { st := .claimed, pairEven := true }).setSlot (n + 1) { st := .claimed, pairOdd := true }) 4))) ∧
     (n.toNat % 2 = 1 ∨ (s.here.slot n).st ≠ .free ∨ (s.here.slot (n + 1)).st ≠ .free →
       exec (.oclaim true n e) s = .next (s.takeFault s.cur .a { code := .slotState, i0 := s.here.ostat, i1 := n.setWidth 64 })) ∧
     ((s.here.slot n).st ≠ .free →
       exec (.oclaim false n e) s = .next (s.takeFault s.cur .a { code := .slotState, i0 := s.here.ostat, i1 := n.setWidth 64 })) ∧
     ((s.here.slot n).st = .full ∨ (s.here.slot n).st = .inUse →
       ((∀ m ∈ s.here.slotGroup n, s.here.slotNamed m = false) →
         exec (.orels n e) s = .next (s.pastA (s.modHere (·.freeSlot n)) 4)) ∧
       ((∃ m ∈ s.here.slotGroup n, s.here.slotNamed m = true) → ∃ k, exec (.orels n e) s = .next (s.pastA (s.modHere fun _ => k) 4) ∧
         ∀ m ∈ s.here.slotGroup n, (k.slot m).defer = true ∧ (k.slot m).after = s.here.nestsOn (s.here.slotGroup n) ∧
           (k.slot m).st = (s.here.slot m).st)) ∧
     ((s.here.slot n).st = .free ∨ (s.here.slot n).st = .claimed →
       exec (.orels n e) s = .next (s.takeFault s.cur .a { code := .slotState, i0 := s.here.ostat, i1 := n.setWidth 64 })) ∧
     (s.clear [] [d] = true → s.Writes d s.here.ostat t → exec (.ostat d e) s = .next (s.pastA t 4))) ∧
  ((∀ (k : Core) (n : BitVec 3), (∀ j, 32 ≤ j → k.ostat.getLsbD j = false) ∧
     bits k.ostat (2 * n.toNat + 1) (2 * n.toNat) = (match (k.slot n).st with
       | .free => 0 | .claimed => 1 | .full => 2 | .inUse => 3) ∧
     k.ostat.getLsbD (16 + n.toNat) = (k.slot n).pairEven ∧ k.ostat.getLsbD (24 + n.toNat) = (k.slot n).defer ∧
     (∀ m, m ∈ k.slotGroup n → (k.freeSlot n).slot m = {}) ∧
     (∀ m, m ∉ k.slotGroup n → (k.freeSlot n).slot m = k.slot m) ∧
     (∃ S, k.freeSlot n = { k with eng := { k.eng with slot := S } }) ∧
     ((k.slot n).pairOdd = false → (k.slot n).pairEven = false → k.slotGroup n = [n]) ∧
     ((k.slot n).pairOdd = false → (k.slot n).pairEven = true → k.slotGroup n = [n, n + 1]) ∧
     ((k.slot n).pairOdd = true → (k.slot (n - 1)).pairEven = true → k.slotGroup n = [n - 1, n])) ∧
   ∀ (s : State), s.here.eng.me.cmds.length ≤ 2 →
     bits s.mxst 1 0 = s.here.eng.me.cmds.length ∧ s.mxst.getLsbD 2 = s.here.eng.me.run.isSome ∧
     s.mxst.getLsbD 3 = (s.here.stepDue && !s.mayStep s.cur) ∧
     bits s.mxst 35 4 = (match s.here.eng.me.run with
       | none => 0
       | some n => n.steps.toNat) ∧ bits s.mxst 63 36 = 0 ∧
     (∀ cmd l r no n, s.here.eng.me.cmds = cmd :: l → cmd.op = .go r no → s.here.eng.me.run = some n →
       (s.here.stepDue = true ↔ n.exits = 0 ∧ n.walked = false ∧ (s.here.splitMode r = .off ∨ n.claimed ≠ none) ∧
         (s.here.slot (stepAt r n.ix).sa).ready = true ∧ (s.here.slot (stepAt r n.ix).sb).ready = true)))

/-- R211-R213, R122, R46: an ME command is accepted while fewer than two are held: it joins the held ones with its operands,
its produce token turns PENDING and the strand goes on past its two words; ME.GO latches the shadow registers and counts.

R110, R210, R211, R214: the oldest command starts once no consumed token is PENDING: ME.MODE sets the rounding mode and
seed and ME.MSK loads the mask block, each leaving the queue with its token DONE; a nest starts at index 0 of every level; a
FAULTED consumed token ends the command FAULTED with the same sub-code, and a shared SPLIT nest's part in its counter with
it (R216).

R216: a member of a gang claims the next index of level SPLV of a SPLIT nest from the gang's counter, and starts that
iteration at index 0 of every other level; once no index is left nothing is claimed and its nest has no step to make:
log 38 (DEDUCED). A member whose nest of this counter has ended, while another's has not, waits for the counter's reset:
log 103 (DESIGN CHOICE). The counter resets as the last member's nest on it ends. Under DET (R315) the member of rank r
takes the indices r, r + N, r + 2N and so on in turn, and no counter; with none left its nest ends likewise, at once where it
has run no step and drains nothing. -/
def Obligations.MatrixCommands : Prop :=
  (∀ (s s1 s2 : State) (a b : Reg) (e : Bool) (x : Ext) (v w : Word),
     (s.here.eng.me.cmds.length < 2 → x = Ext.ofWord s.here.a.ext → s.accepts x = true →
       s.here.goCheck s.here.shadowAll = none →
       exec .meGo s = .next (s.pastA ((s.modHere (·.acceptNow x)).modHere (·.modMe fun m =>
         { m with goes := m.goes + 1, splits := m.splits + (cfgSplit s.here.shadowAll).toNat, cmds := m.cmds ++
           [MeCmd.mk (.go s.here.shadowAll s.here.eng.me.goes) (s.here.toks x) m.splits] })) 8)) ∧
     (s.clear [a, b] [] = true → s.Reads a v s1 → s1.Reads b w s2 → s2.here.eng.me.cmds.length < 2 → s2.accepts x = true →
       ∀ m, v.toNat < 8 → Rmode.ofCode (v.setWidth 3) = some m →
       exec (.meMode a b e x) s = .next (s.pastA ((s2.modHere (·.acceptNow x)).modHere (·.modMe fun M =>
         { M with cmds := M.cmds ++ [MeCmd.mk (.mode m w) (s2.here.toks x) M.splits] })) 8)) ∧
     (s.clear [a] [] = true → s.Reads a v s1 → s1.here.eng.me.cmds.length < 2 → s1.accepts x = true →
       v.toNat + 2048 ≤ 0x80000 → v.toNat % 128 = 0 →
       exec (.meMsk a e x) s = .next (s.pastA ((s1.modHere (·.acceptNow x)).modHere (·.modMe fun M =>
         { M with cmds := M.cmds ++ [MeCmd.mk (.msk (v.setWidth 19)) (s1.here.toks x) M.splits] })) 8)) ∧
     (∀ k : Core, (x.prod ≠ 0#5 → (k.acceptNow x).tok x.prod.toNat = { st := .pending } ∧
         ∀ n, n ≠ x.prod.toNat → (k.acceptNow x).tok n = k.tok n) ∧
       (x.prod = 0#5 → ∀ n, (k.acceptNow x).tok n = k.tok n) ∧
       (k.acceptNow x).eng = { k.eng with tok := (k.acceptNow x).eng.tok } ∧ (k.acceptNow x).x = k.x ∧
       (k.acceptNow x).ctl = k.ctl ∧ (k.acceptNow x).spm = k.spm ∧ (k.acceptNow x).q = k.q ∧
       ∀ g, (k.acceptNow x).reg g = k.reg g)) ∧
  (∀ (s : State) (c : CoreId) (cmd : MeCmd) (l : List MeCmd), s.ev.core = c → s.engineOn c = true →
     (s.core c).eng.me.run = none → (s.core c).hold = none → (s.core c).eng.me.cmds = cmd :: l →
     (∀ m seed, (s.core c).mayStart cmd.tok = .go → cmd.op = .mode m seed →
       ∃ k, exec .meCommandStart s = .next (s.setCore c k) ∧ k.eng.me.mode = m ∧ k.eng.me.seed = seed ∧ k.eng.me.cmds = l ∧
         (cmd.tok.ext.prod ≠ 0#5 → k.tok cmd.tok.ext.prod.toNat = { st := .done })) ∧
     (∀ a, (s.core c).mayStart cmd.tok = .go → cmd.op = .msk a → (s.core c).spm.badIn a.toNat 2048 = false →
       ∃ k, exec .meCommandStart s = .next (s.setCore c k) ∧ k.eng.me.cmds = l ∧
         (∀ i, i < 128 → Tbl.get 0 k.eng.mask i = .ofNat 128 ((s.core c).spm.mem.get (a.toNat + 16 * i) 16)) ∧
         (cmd.tok.ext.prod ≠ 0#5 → k.tok cmd.tok.ext.prod.toNat = { st := .done })) ∧
     (∀ r no, (s.core c).mayStart cmd.tok = .go → cmd.op = .go r no →
       exec .meCommandStart s = .next (s.modCore c (·.modMe fun m => { m with run := some { ix := [0, 0, 0, 0, 0, 0] } }))) ∧
     (∀ sub, (s.core c).mayStart cmd.tok = .fail sub →
       ∃ k, ((∀ r no i, cmd.op = .go r no → (s.core c).splitMode r ≠ .shared i) →
           exec .meCommandStart s = .next (s.setCore c k)) ∧
         (∀ r no i, cmd.op = .go r no → (s.core c).splitMode r = .shared i →
           exec .meCommandStart s = .next ((s.setCore c k).modGroup (s.partOf c) i
             (·.splitDone cmd.split (s.core c).gangSize (s.core c).info.rank))) ∧
         k.eng.me.cmds = l ∧ k.eng.me.run = none ∧ (∀ y i, k.accRow y i = (s.core c).accRow y i) ∧
         (cmd.tok.ext.prod ≠ 0#5 → k.tok cmd.tok.ext.prod.toNat = { st := .faulted, sub := sub }))) ∧
  (∀ (s : State) (c : CoreId) (cmd : MeCmd) (l : List MeCmd) (n : MeRun) (r : List Word) (no : W32) (i : BitVec 8)
     (ctr : SplitCtr), s.ev.core = c → s.engineOn c = true → (s.core c).hold = none →
     (s.core c).eng.me.cmds = cmd :: l → (s.core c).eng.me.run = some n → cmd.op = .go r no →
     n.exits = 0 → n.walked = false → n.claimed = none →
     ctr = ((s.part (s.partOf c)).group i).ctr cmd.split →
     ((s.core c).splitMode r = .shared i → (s.core c).info.rank ∈ ctr.done → exec .meTileStep s = .next s) ∧
     ((s.core c).splitMode r = .shared i → (s.core c).info.rank ∉ ctr.done → ctr.next ≤ nestTrip r (cfgSplv r) → ∃ n', exec .meTileStep s =
         .next ((s.modGroup (s.partOf c) i fun G => G.setCtr cmd.split { ctr with next := ctr.next + 1 }).modCore c
           (·.modMe fun m => { m with run := some n' })) ∧ n'.claimed = some ctr.next ∧
       ∀ v, v < 6 → n'.ix.getD v 0 = if v = cfgSplv r then ctr.next else 0) ∧
     ((s.core c).splitMode r = .shared i → (s.core c).info.rank ∉ ctr.done → nestTrip r (cfgSplv r) < ctr.next → n.last ≠ none →
       cfgSplv r < 6 → exec .meTileStep s = .next (s.modCore c (·.modMe fun m => { m with
         run := some { n with walked := true, exits := 6, exited := cfgSplv r } }))) ∧
     (∀ (rank size v : Nat), (s.core c).splitMode r = .fixed → rank = (s.core c).info.rank.toNat →
       size = (if (s.core c).info.size = 0#8 then 256 else (s.core c).info.size.toNat) →
       v = (if n.last = none then rank else n.ix.getD (cfgSplv r) 0 + size) →
       (v ≤ nestTrip r (cfgSplv r) → ∃ n', exec .meTileStep s = .next (s.modCore c (·.modMe fun m => { m with run := some n' })) ∧
         n'.claimed = some v ∧ ∀ u, u < 6 → n'.ix.getD u 0 = if u = cfgSplv r then v else 0) ∧
       (nestTrip r (cfgSplv r) < v → n.last ≠ none → cfgSplv r < 6 → exec .meTileStep s =
         .next (s.modCore c (·.modMe fun m => { m with
           run := some { n with walked := true, exits := 6, exited := cfgSplv r } }))) ∧
       (nestTrip r (cfgSplv r) < v → n.last = none → drainList r = [] →
         ∃ k, exec .meTileStep s = .next (s.setCore c k) ∧ k.eng.me.cmds = l ∧ k.eng.me.run = none ∧
           (cmd.tok.ext.prod ≠ 0#5 → k.tok cmd.tok.ext.prod.toNat = { st := .done }) ∧
           ∀ y i, k.accRow y i = (s.core c).accRow y i)) ∧
     (∀ (G : Group) (m size : Nat) (rank : BitVec 8),
       ((∃ j, j < size ∧ BitVec.ofNat 8 j ∉ rank :: (G.ctr m).done) →
         G.splitDone m size rank = G.setCtr m { G.ctr m with done := rank :: (G.ctr m).done }) ∧
       ((∀ j, j < size → BitVec.ofNat 8 j ∈ rank :: (G.ctr m).done) → ((G.splitDone m size rank).ctr m).next = 0)))

/-- R207, R208, R213, R217: a step of the nest in flight, its slots filled and its cluster holding a token that it need not pass on (R321), adds its tile
product to rows r0 to r0 + M - 1 of its accumulator and to no other row, whichever way the nest is shared (R315); while its
innermost level has iterations left the walk goes on to the next index of that level, and otherwise the levels at their last
iteration, up to the first that is not, are to exit (below SPLV of a claimed index, which is done where SPLV is 0). Before the first step changes anything every visited pair is checked, and each
step makes its own checks: a check that fails ends the nest with its token FAULTED, and the step changes no accumulator.
When the pairs are checked is log 39 (DEDUCED).

R88-R90, R207: what a step makes of an accumulator row: column c0 + j gains the products of the row and column j of B, or
starts from 0 under ZFIRST, and no other column changes: modulo 2^32 in INT32, and in FP32 chunk by chunk, each chunk summed
exactly and rounded once, then added with one rounding. Worked: 1.5 x 2 + 2 x 4 is 11, and a sum of exactly 0 is +0.

R208, R209, R210: the levels that exit after a step do so one by one, ascending: MSKX writes the masked elements of the
step's accumulator and no other, RELA and RELB free its slots, a FULL one too (DESIGN CHOICE, log 108). After the exit of the last level each granule of the drain is
written to the scratchpad in ascending order, each element of a row converted to DFMT in its place, its full bits set with SETF (a granule over an uncorrectable word ends the nest
POISON: log 17, DEDUCED), and with the last one, or with the last exit of a
nest that drains nothing, the nest leaves the queue, its flags reach RNDM and its token turns DONE. -/
def Obligations.MatrixTileStep : Prop :=
  (∀ (s : State) (c : CoreId) (cmd : MeCmd) (l : List MeCmd) (n : MeRun) (r : List Word) (no : W32) (at_ : StepAt) (A B : Slot),
     s.ev.core = c → s.engineOn c = true → (s.core c).hold = none → (s.core c).eng.me.cmds = cmd :: l →
     (s.core c).eng.me.run = some n → cmd.op = .go r no → ((s.core c).splitMode r = .off ∨ n.claimed ≠ none) →
     n.exits = 0 → n.walked = false → at_ = stepAt r n.ix → A = (s.core c).slot at_.sa → B = (s.core c).slot at_.sb → A.ready = true → B.ready = true →
     s.mayStep c = true →
     (n.checked = false → (s.core c).badPair r ≠ none → (∀ i, (s.core c).splitMode r ≠ .shared i) →
       ∃ k, exec .meTileStep s = .next (s.setCore c k) ∧ k.eng.me.cmds = l ∧ k.eng.me.run = none ∧
         (cmd.tok.ext.prod ≠ 0#5 → k.tok cmd.tok.ext.prod.toNat = { st := .faulted, sub := 0x03#8 }) ∧
         ∀ y i, k.accRow y i = (s.core c).accRow y i) ∧
     (n.checked = true ∨ (s.core c).badPair r = none → A.bad = false → B.bad = false →
       (∀ sub, (s.core c).stepCheck r at_ = some sub → (∀ i, (s.core c).splitMode r ≠ .shared i) →
         ∃ k, exec .meTileStep s = .next (s.setCore c k) ∧ k.eng.me.cmds = l ∧ k.eng.me.run = none ∧
           (cmd.tok.ext.prod ≠ 0#5 → k.tok cmd.tok.ext.prod.toNat = { st := .faulted, sub := sub }) ∧
           ∀ y i, k.accRow y i = (s.core c).accRow y i) ∧
       ((s.core c).stepCheck r at_ = none → n.ix.length = 6 → ∀ p e,
         p = (if (s.core c).splitMode r = .off then 6 else cfgSplv r) → e ≤ p → p ≤ 6 →
         (∀ v, v < e → n.ix.getD v 0 = nestTrip r v) → (e < p → n.ix.getD e 0 ≠ nestTrip r e) →
         ∃ k, exec .meTileStep s = .next (s.setCore c k) ∧
           (∀ m, m < (stepDims r A B).1 → k.accRow at_.x (at_.r0 + m) = (stepRow r (chunkLen A.elem B.elem) (zeroFirst r n.ix)
             at_.c0 ((s.core c).accRow at_.x (at_.r0 + m)) (A.rowVals (cfgSca r) m)
             (if cfgTrb r then B.vals (cfgScb r) else columns (stepDims r A B).2.2.2 (B.vals (cfgScb r)))).1) ∧
           (∀ y i, i < 128 → (y ≠ at_.x ∨ i < at_.r0 ∨ at_.r0 + (stepDims r A B).1 ≤ i) →
             k.accRow y i = (s.core c).accRow y i) ∧
           ∃ n', k.eng.me.run = some n' ∧ n'.steps = n.steps + 1 ∧ n'.checked = true ∧ n'.exits = e ∧ n'.exited = 0 ∧
             n'.walked = false ∧ n'.last = some (at_.sa, at_.sb, at_.x) ∧
             (0 < p → n'.claimed = n.claimed ∧ n'.ix = if e = 0 then n.ix.set 0 (n.ix.getD 0 0 + 1) else n.ix) ∧
             (p = 0 → n'.claimed = none)))) ∧
  ((∀ (r : List Word) (n c0 : Nat) (zero : Bool) (row : VReg) (xs : List Machine.Num) (cols : List (List Machine.Num)) (f : Nat → Nat),
     (∀ j, j < c0 ∨ c0 + cols.length ≤ j → f j = lane 32 row j) →
     (∀ j ys, c0 ≤ j → cols[j - c0]? = some ys → f j =
       if cfgInt r then ((((if zero then 0 else lane 32 row j : Nat) : Int) +
         (xs.zipWith (fun x y => x.toInt * y.toInt) ys).foldl (· + ·) 0) % (2 ^ 32 : Int)).toNat
       else (addChunks n (if zero then 0 else lane 32 row j, 0#6) xs ys).1) →
     (stepRow r n zero c0 row xs cols).1 = ofElems 32 f) ∧
   (∀ (n : Nat) (a : Nat × Flags) (xs ys : List Machine.Num), xs.length = ys.length → 0 < n →
     (xs = [] → addChunks n a xs ys = a) ∧
     (0 < xs.length → xs.length ≤ n → addChunks n a xs ys = ((fpAdd .fp32 .rne 0 a.1 (chunkSum xs ys).1).1,
       a.2 ||| (chunkSum xs ys).2 ||| (fpAdd .fp32 .rne 0 a.1 (chunkSum xs ys).1).2)) ∧
     (n < xs.length → addChunks n a xs ys =
       addChunks n (addChunks n a (xs.take n) (ys.take n)) (xs.drop n) (ys.drop n))) ∧
   chunkSum [.fin false 3 (-1), .fin false 2 0] [.fin false 2 0, .fin false 4 0] = (0x41300000, 0#6) ∧
   chunkSum [.fin false 1 0, .fin true 1 0] [.fin false 5 0, .fin false 5 0] = (0, 0#6)) ∧
  ((∀ (k : Core) (r : List Word) (t : BitVec 3 × BitVec 3 × BitVec 2) (v : Nat),
     (∀ y i j, i < 128 → j < 128 → lane 32 ((k.exitLevel r t v).accRow y i) j =
       if nestBit r v 41 = true ∧ y = t.2.2 ∧ (Tbl.get 0 k.eng.mask i).getLsbD j = true then
         if cfgInt r then 0x80000000 else 0xFF800000
       else lane 32 (k.accRow y i) j) ∧
     (nestBit r v 39 = true → (k.slot t.1).ready = true → (k.slot t.1).pairOdd = false →
       ((k.exitLevel r t v).slot t.1).st = .free) ∧
     (nestBit r v 40 = true → (k.slot t.2.1).ready = true → (k.slot t.2.1).pairOdd = false →
       ((k.exitLevel r t v).slot t.2.1).st = .free)) ∧
   (∀ (r : List Word) (t : Elem) (m : Rmode) (seed : Word) (no : W32) (i : Nat) (row : VReg),
     (drainRow r t m seed no i row).1 = leBytes (16 * elemWidth t) (ofLanes (elemWidth t) ((List.range 128).map fun j =>
       (convert t false m (srHash seed no (.ofNat 32 (i * 128 + j))) (accValue (cfgInt r) (lane 32 row j))).1)) ∧
     (∀ c, c < 2 ^ 32 → accValue true c = ofIntAt (BitVec.ofNat 32 c).toInt 0 ∧ accValue false c = codeValue .fp32 c)) ∧
   ∀ (s : State) (c : CoreId) (cmd : MeCmd) (l : List MeCmd) (n : MeRun) (r : List Word) (no : W32) (K : Core),
     s.ev.core = c → s.engineOn c = true → K = s.core c → K.hold = none → K.eng.me.cmds = cmd :: l →
     K.eng.me.run = some n → cmd.op = .go r no → K.splitMode r = .off →
     (∀ t, n.walked = false → n.last = some t → n.exited < n.exits →
       (n.exited + 1 < n.exits → exec .meTileStep s = .next (s.modCore c fun k =>
         (k.exitLevel r t n.exited).modMe fun m => { m with run := some { n with exited := n.exited + 1 } })) ∧
       (n.exited + 1 = n.exits → n.exits < 6 → exec .meTileStep s = .next (s.modCore c fun k =>
         (k.exitLevel r t n.exited).modMe fun m => { m with
           run := some { n with exits := 0, exited := 0, ix := nextIx n.ix n.exits } })) ∧
       (n.exited + 1 = n.exits → n.exits = 6 → n.drained < (drainList r).length → exec .meTileStep s = .next (s.modCore c fun k =>
         (k.exitLevel r t n.exited).modMe fun m => { m with
           run := some { n with exits := 0, exited := 0, walked := true } })) ∧
       (n.exited + 1 = n.exits → n.exits = 6 → (drainList r).length ≤ n.drained →
         ∃ k, exec .meTileStep s = .next (s.setCore c k) ∧ k.eng.me.cmds = l ∧ k.eng.me.run = none ∧
           k.ctl.flags = K.ctl.flags ||| n.flags ∧
           (cmd.tok.ext.prod ≠ 0#5 → k.tok cmd.tok.ext.prod.toNat = { st := .done }) ∧
           ∀ y i, k.accRow y i = (K.exitLevel r t n.exited).accRow y i)) ∧
     (∀ g, n.walked = true → n.exits = 0 → (drainList r)[n.drained]? = some g →
       K.spm.badIn (dstAddr r + 256 * elemWidth (drainElem r) * n.drained) (256 * elemWidth (drainElem r)) = true →
       ∃ k, exec .meTileStep s = .next (s.setCore c k) ∧ k.eng.me.cmds = l ∧ k.eng.me.run = none ∧
         (cmd.tok.ext.prod ≠ 0#5 → k.tok cmd.tok.ext.prod.toNat = { st := .faulted, sub := 0x04#8 }) ∧
         k.spm = K.spm ∧ ∀ y i, k.accRow y i = K.accRow y i) ∧
     (∀ g p bs, n.walked = true → n.exits = 0 → (drainList r)[n.drained]? = some g →
       p = dstAddr r + 256 * elemWidth (drainElem r) * n.drained → K.spm.badIn p (256 * elemWidth (drainElem r)) = false →
       bs = ((List.range 16).flatMap fun i => (drainRow r (drainElem r) K.eng.me.mode K.eng.me.seed no (16 * g + i)
         (K.accRow (.ofNat 2 (dstAcc r)) (16 * g + i))).1) →
       ∃ k, exec .meTileStep s = .next (s.setCore c k) ∧ (K.spm.mem.wf = true → k.spm.mem.readN p bs.length = bs) ∧
         (∀ o, (o < p ∨ p + bs.length ≤ o) → k.spm.mem.read o = K.spm.mem.read o) ∧
         (dstSetf r = true → ∀ i, p / 128 ≤ i → i < p / 128 + 2 * elemWidth (drainElem r) → i < 4096 →
           k.spm.full.getLsbD i = true) ∧
         (∀ y i, k.accRow y i = K.accRow y i) ∧
         (n.drained + 1 < (drainList r).length → k.eng.me.cmds = K.eng.me.cmds ∧
           ∃ n', k.eng.me.run = some n' ∧ n'.drained = n.drained + 1 ∧ n'.walked = true ∧ n'.exits = 0) ∧
         (n.drained + 1 = (drainList r).length → k.eng.me.cmds = l ∧ k.eng.me.run = none ∧
           (cmd.tok.ext.prod ≠ 0#5 → k.tok cmd.tok.ext.prod.toNat = { st := .done }))))

/-! ### The copy engine, the search engine and filter windows (R219-R239, R243-R245) -/

/-- R226-R228: CE.GO gives channel 0-3 a chain, its address a multiple of 64 below 2^56, and goes on past its two words;
CE.ABORT drops the chains that have not started and ends a running one, at once or as its record in flight ends, and the
tokens of the chains so ended turn FAULTED with sub-code ABORTED (0x18); a channel with no chain is unaffected; CE.STAT
reads the channel: chains held, running, how the last chain ended, and the address of its last record. A channel number of 4-63 faults ILLEGAL. CE.GO tests its address before it tests its token, its room and
its stamp, an order that is the model's: log 26 (DEDUCED). -/
def Obligations.CopyChannels : Prop :=
  ∀ (s s1 t : State) (d a : Reg) (e : Bool) (x : Ext) (v : Word),
    (d.toNat < 4 → s.clear [a] [] = true → s.Reads a v s1 →
      (v.toNat < 2 ^ 56 → v.toNat % 64 = 0 → (s1.here.chan (d.setWidth 2)).held.length < 2 → s1.accepts x = true →
        exec (.ceGo d a e x) s = .next (s.pastA ((s1.modHere (·.acceptNow x)).modHere fun k =>
          k.setChan (d.setWidth 2) { k.chan (d.setWidth 2) with
            held := (k.chan (d.setWidth 2)).held ++ [{ first := v, tok := s1.here.toks x }] }) 8)) ∧
      (2 ^ 56 ≤ v.toNat → exec (.ceGo d a e x) s = .next (s.takeFault s.cur .a (addrFlt .prot v .read false))) ∧
      (v.toNat < 2 ^ 56 → v.toNat % 64 ≠ 0 →
        exec (.ceGo d a e x) s = .next (s.takeFault s.cur .a (addrFlt .align v .read false)))) ∧
    (d.toNat < 4 → ∃ k, exec (.ceAbort d e) s = .next (s.pastA (s.setCore s.cur k) 4) ∧
      ((s.here.chan (d.setWidth 2)).running = false →
        (k.chan (d.setWidth 2)).held = [] ∧ (k.chan (d.setWidth 2)).running = false ∧
        ∀ h ∈ (s.here.chan (d.setWidth 2)).held, h.tok.ext.prod ≠ 0#5 →
          k.tok h.tok.ext.prod.toNat = { st := .faulted, sub := 0x18#8 }) ∧
      ((s.here.chan (d.setWidth 2)).running = false → (s.here.chan (d.setWidth 2)).held = [] →
        k.chan (d.setWidth 2) = s.here.chan (d.setWidth 2) ∧ ∀ n, k.tok n = s.here.tok n) ∧
      ((s.here.chan (d.setWidth 2)).running = true → (s.here.chan (d.setWidth 2)).busy = true →
        (k.chan (d.setWidth 2)).held = (s.here.chan (d.setWidth 2)).held.take 1 ∧ (k.chan (d.setWidth 2)).abort = true ∧
        ∀ h ∈ (s.here.chan (d.setWidth 2)).held.drop 1, h.tok.ext.prod ≠ 0#5 →
          k.tok h.tok.ext.prod.toNat = { st := .faulted, sub := 0x18#8 }) ∧
      ((s.here.chan (d.setWidth 2)).running = true → (s.here.chan (d.setWidth 2)).busy = false →
        (s.here.chan (d.setWidth 2)).held ≠ [] →
        (k.chan (d.setWidth 2)).held = [] ∧ (k.chan (d.setWidth 2)).running = false ∧ (k.chan (d.setWidth 2)).fault = true ∧
        ∀ h ∈ (s.here.chan (d.setWidth 2)).held, h.tok.ext.prod ≠ 0#5 →
          k.tok h.tok.ext.prod.toNat = { st := .faulted, sub := 0x18#8 })) ∧
    (a.toNat < 4 → s.clear [] [d] = true → s.Writes d (s.here.chan (a.setWidth 2)).stat t →
      exec (.ceStat d a e) s = .next (s.pastA t 4)) ∧
    (∀ v : Chan, v.held.length ≤ 2 → bits v.stat 1 0 = v.held.length ∧ v.stat.getLsbD 2 = v.running ∧
      v.stat.getLsbD 3 = v.miss ∧ v.stat.getLsbD 4 = v.fault ∧ v.stat.getLsbD 5 = false ∧
      bits v.stat 63 6 = bits v.last 63 6) ∧
    (4 ≤ d.toNat → exec (.ceGo d a e x) s = .next (s.takeFault s.cur .a { code := .illegal }) ∧
      exec (.ceAbort d e) s = .next (s.takeFault s.cur .a { code := .illegal })) ∧
    (4 ≤ a.toNat → exec (.ceStat d a e) s = .next (s.takeFault s.cur .a { code := .illegal }))

/-- R220, R224, R227: a chain starts at its first record; a record whose OWN is 1 is performed, its STATUS and then its OWN
are written through the translation that the record was read by (DEDUCED, log 29), its flag counts where INC is set, and
the channel goes on to NEXT or its chain ends with its token DONE. A chain whose record lies on a poisoned line ends FAULTED
with POISON (R116, R230).

R223, R224, Table 10.2: a COPY record of one run between two ranges of global memory, each within one page, moves its
LEN0 + 1 bytes where the two do not overlap, and every byte of memory outside its destination keeps its value.

R221, R222, Table 10.2: what a well-formed record moves: for COPY n1 x n2 runs of n0 bytes, dense from DADR; for GATHER
and SCATTER a run for each of its n1 indices; for FILL one run of the bytes of AUX64 in turn; for ROUTE a run for each token
placed, then its counts and the dropped tokens (each as 32 bits: log 105, DESIGN CHOICE); for FILTER-WRITE the rows of its
accumulator, which it waits for. A multicast writes the scratchpads of the member cores whose running task holds the group.

R222, R224: runs whose pages are resident, whose checks pass and whose sources meet no destination end OK: each byte of
each destination takes its byte of the run where no later run writes it too, every other byte of memory and of a scratchpad
keeps its value, and with SETF exactly the lines wholly written turn full. `D` gives for each run its destination and bytes,
`A` what is written after them.

R66, R67, R68, R223: a COPY into a slot that its tile may fill makes it FULL, its pair with it: it holds the format, the
geometry and the codes of the tile, the scale entries of its block for a scaled format, and their zero-skip summary; no other
slot changes. A slot that the tile may not fill ends the record SLOT (0x02), a descriptor that fails its check with the check's
sub-code, and nothing changes. -/
def Obligations.CopyChainsAndRecords : Prop :=
  (∀ (s : State) (c : CoreId) (ch : BitVec 2) (h : Chain) (l : List Chain), s.ev.core = c → s.ev.n.setWidth 2 = ch →
     s.engineOn c = true → (s.core c).hold = none → ((s.core c).chan ch).held = h :: l →
     (((s.core c).chan ch).running = false → (s.core c).mayStart h.tok = .go → h.first ≠ 0 →
       exec .ceChainStart s = .next (s.modCore c fun k =>
         k.setChan ch { k.chan ch with running := true, next := h.first })) ∧
     (∀ (x : Xl) (r : Rec) (t : State) (n elem : Nat), ((s.core c).chan ch).running = true →
       s.xlate c (s.core c).ctx .read ((s.core c).chan ch).next 64 = .ok x → pteTier x.pte = 0 → s.poisoned x.pa = false →
       r = .ofNat 512 (s.mem.get x.pa 64) → rOwn r = true →
       State.perform { s with cur := c } r ((s.core c).chan ch).elem = (.ok t n, elem) →
       ∃ u, exec .ceRecord s = .next u ∧
         (∀ a, (a < x.pa + 8 ∨ x.pa + 8 < a) → (a < x.pa + 56 ∨ x.pa + 64 ≤ a) → u.mem.read a = t.mem.read a) ∧
         (t.mem.wf = true → u.mem.get (x.pa + 56) 8 = 2 ^ 32 * (if rKind r = 4 ∨ rKind r = 6 then n else 0) % 2 ^ 64 ∧
           u.mem.read (x.pa + 8) = t.mem.read (x.pa + 8) &&& 0xFE#8) ∧
         (t.cur = c → rInc r = true → rKind r ≠ 5 →
           (u.core c).flag (rFlg r) = .ofNat 32 (min (((t.core c).flag (rFlg r)).toNat + 1) (2 ^ 32 - 1))) ∧
         (t.cur = c → ((t.here.chan ch).abort = false) → (t.here.chan ch).held ≠ [] →
           (rNext r ≠ 0 → ((u.core c).chan ch).running = (t.here.chan ch).running ∧ ((u.core c).chan ch).next = rNext r) ∧
           (rNext r = 0 → ((u.core c).chan ch).running = false ∧ ((u.core c).chan ch).held = (t.here.chan ch).held.drop 1 ∧
             ∀ g, (t.here.chan ch).held.head? = some g → g.tok.ext.prod ≠ 0#5 →
               (u.core c).tok g.tok.ext.prod.toNat = { st := .done }))) ∧
     (∀ (x : Xl), ((s.core c).chan ch).running = true → ((s.core c).chan ch).abort = false →
       s.xlate c (s.core c).ctx .read ((s.core c).chan ch).next 64 = .ok x → pteTier x.pte = 0 → s.poisoned x.pa = true →
       ∃ u, exec .ceRecord s = .next u ∧ u.mem = s.mem ∧ ((u.core c).chan ch).running = false ∧
         ((u.core c).chan ch).held = l ∧
         (h.tok.ext.prod ≠ 0#5 → (u.core c).tok h.tok.ext.prod.toNat = { st := .faulted, sub := 0x15#8 }))) ∧
  (∀ (s t : State) (r : Rec) (n elem e' : Nat) (src dst : Xl), s.perform r elem = (.ok t n, e') → rKind r = 0 →
     rDkind r = 0 → rSkind r = false → rN1 r = 1 → rN2 r = 1 → (rSadr r).toNat % 65536 + rN0 r ≤ 65536 →
     (rDadr r).toNat % 65536 + rN0 r ≤ 65536 → s.xlate s.cur s.here.ctx .read (rSadr r) 1 = .ok src →
     s.xlate s.cur s.here.ctx .write (rDadr r) 1 = .ok dst →
       (s.mem.wf = true → (src.pa + rN0 r ≤ dst.pa ∨ dst.pa + rN0 r ≤ src.pa) → t.mem.readN dst.pa (rN0 r) = s.mem.readN src.pa (rN0 r)) ∧
       (∀ a, (a < dst.pa ∨ dst.pa + rN0 r ≤ a) → t.mem.read a = s.mem.read a) ∧
       t.cores = s.cores ∧ t.parts = s.parts) ∧
  (∀ (s : State) (r : Rec) (elem o : Nat) (base : Word) (cast : List CoreId) (id cnt : Nat → Nat) (area : List Byte)
     (dropped : List Nat), recordOk r = true →
     (rDkind r ≤ 1 ∧ base = rDadr r ∧ cast = [] ∨
       rDkind r = 3 ∧ bits (rDadr r) 63 34 = 0 ∧ bits (rDadr r) 31 19 = 0 ∧ base = .ofNat 64 (bits (rDadr r) 18 0) ∧
         ∃ i G, s.slotGroup ((rDadr r).extractLsb' 32 2) 3#2 = some (i, G) ∧ cast = allCores.filter fun c =>
           G.mask.getLsbD c.toNat && (s.core c).runsTask && (s.core c).holdsGroup i) →
     (rKind r = 0 → s.perform r elem = (s.doMoves r cast ((List.range (rN2 r)).flatMap fun c2 =>
       (List.range (rN1 r)).map fun c1 => Move.mk
         (.inl (rSadr r + (rStr2 r).signExtend 64 * .ofNat 64 c2 + (rStr1 r).signExtend 64 * .ofNat 64 c1))
         (base + .ofNat 64 ((c2 * rN1 r + c1) * rN0 r)) (rN0 r)) 0 none [], elem)) ∧
     (rKind r = 3 → s.perform r elem = (s.doMoves r cast [Move.mk (.inr ((List.range (rN0 r * rN1 r * rN2 r)).map fun j =>
       (rAux64 r).extractLsb' (8 * (j % 8)) 8)) base (rN0 r * rN1 r * rN2 r)] 0 none [], elem)) ∧
     ((rAux64 r).toNat % 4 = 0 → (rAux64 r).toNat + 4 * rN1 r ≤ 0x80000 →
       s.here.spm.badIn (rAux64 r).toNat (4 * rN1 r) = false →
       (∀ i, id i = s.here.spm.mem.get ((rAux64 r).toNat + 4 * i) 4) →
       (rKind r = 1 → s.perform r elem = (s.doMoves r cast ((List.range (rN1 r)).map fun i => Move.mk
         (.inl (rSadr r + (rStr1 r).signExtend 64 * .ofNat 64 (id i))) (base + .ofNat 64 (i * rN0 r)) (rN0 r)) 0 none [], elem)) ∧
       (rKind r = 2 → s.perform r elem = (s.doMoves r cast ((List.range (rN1 r)).map fun i => Move.mk
         (.inl (rSadr r + .ofNat 64 (i * rN0 r))) (base + (rStr1 r).signExtend 64 * .ofNat 64 (id i)) (rN0 r)) 0 none [],
           elem))) ∧
     (rKind r = 6 → bits (rAux64 r) 18 0 + 2 * rN1 r ≤ 0x80000 →
       s.here.spm.badIn (bits (rAux64 r) 18 0) (2 * rN1 r) = false →
       (∀ t, id t = s.here.spm.mem.get (bits (rAux64 r) 18 0 + 2 * t) 2) → (∀ t, t < rN1 r → id t = 0xFFFF ∨ id t < rN2 r) →
       (∀ t, cnt t = (List.range t).countP fun u => id u == id t) →
       dropped = (List.range (rN1 r)).filter (fun t => id t != 0xFFFF && decide ((rAux16 r).toNat ≤ cnt t)) →
       area = (List.range (rN2 r)).flatMap (fun e =>
         leBytes 4 (min ((List.range (rN1 r)).countP fun t => id t == e) (rAux16 r).toNat)) ++ dropped.flatMap (leBytes 4 ·) →
       o = bits (rAux64 r) 50 32 → o + area.length ≤ 0x80000 →
       s.perform r elem = (s.doMoves r [] ((List.range (rN1 r)).filterMap fun t =>
         if id t = 0xFFFF ∨ (rAux16 r).toNat ≤ cnt t then none else some (Move.mk
           (.inl (rSadr r + (rStr1 r).signExtend 64 * .ofNat 64 t))
           (rDadr r + (rStr2 r).signExtend 64 * .ofNat 64 (id t) + .ofNat 64 (cnt t * rN0 r)) (rN0 r)))
         dropped.length none (putsOn [.spm s.cur o area.length] area), elem)) ∧
     (rKind r = 7 → (s.here.accInUse ((rSadr r).setWidth 2) = true → s.perform r elem = (.wait s, elem)) ∧
       (s.here.accInUse ((rSadr r).setWidth 2) = false →
         (∀ i, i < rN1 r → s.here.inWindow (rDadr r + (rStr1 r).signExtend 64 * .ofNat 64 i) = true) →
         s.perform r elem = (s.doMoves r [] ((List.range (rN1 r)).map fun i => Move.mk
           (.inr (leBytes 512 (s.here.accRow ((rSadr r).setWidth 2) (bits (rSadr r) 8 2 + i)).toNat))
           (rDadr r + (rStr1 r).signExtend 64 * .ofNat 64 i) 512) 0 none [], elem)))) ∧
  (∀ (s : State) (r : Rec) (cast : List CoreId) (ms : List Move) (count : Nat) (D A E : List (Placed × List Byte)),
     (∀ m ∈ ms, s.moveMiss r m = false) →
     ms.length = D.length → (∀ (i : Nat) m d, ms[i]? = some m → D[i]? = some d → ∃ a, s.place r cast m = .ok (a, d.1) ∧
       s.moveData m a = .ok d.2 ∧ ∀ p ∈ a.places, ∀ e ∈ D, ∀ q ∈ e.1.places, p.meets q = false) →
     E = D ++ A → (∀ d ∈ E, ∀ p ∈ putsOn d.1.places d.2, s.putBad p = false) →
     (∀ d ∈ E, (∀ p ∈ d.1.places, ∃ pa n, p = .mem pa n) ∨ ∀ p ∈ d.1.places, ∃ c a n, p = .spm c a n) →
     ∃ t, s.doMoves r cast ms count none (A.flatMap fun d => putsOn d.1.places d.2) = .ok t count ∧ t.parts = s.parts ∧
       (∀ c, ∃ m, t.core c = { s.core c with spm := m }) ∧
       (∀ k, (∀ d ∈ E, ∀ pa n, Place.mem pa n ∈ d.1.places → k < pa ∨ pa + n ≤ k) → t.mem.read k = s.mem.read k) ∧
       (∀ c k, (∀ d ∈ E, ∀ a n, Place.spm c a n ∈ d.1.places → k < a ∨ a + d.2.length ≤ k) →
         (t.core c).spm.mem.read k = (s.core c).spm.mem.read k) ∧
       (∀ (E1 E2 : List (Placed × List Byte)) (d : Placed × List Byte) (l1 l2 : List Place) (pa n j : Nat) (b : Byte),
         E = E1 ++ d :: E2 → d.1.places = l1 ++ .mem pa n :: l2 → j < n →
         d.2[(l1.map fun p => match p with
           | .mem _ n => n
           | .spm _ _ _ => 0).sum + j]? = some b →
         (∀ pb n', Place.mem pb n' ∈ l2 ++ E2.flatMap (·.1.places) → pa + j < pb ∨ pb + n' ≤ pa + j) → s.mem.wf = true →
         t.mem.read (pa + j) = b) ∧
       (∀ (E1 E2 : List (Placed × List Byte)) (d : Placed × List Byte) (c : CoreId) (a n j : Nat) (b : Byte),
         E = E1 ++ d :: E2 → .spm c a n ∈ d.1.places → (∀ a' n', Place.spm c a' n' ∈ d.1.places → a' = a) → d.2[j]? = some b →
         (∀ e ∈ E2, ∀ a' n', Place.spm c a' n' ∈ e.1.places → a + j < a' ∨ a' + e.2.length ≤ a + j) →
         (s.core c).spm.mem.wf = true → (t.core c).spm.mem.read (a + j) = b) ∧
       (∀ c l, l < 4096 → (t.core c).spm.full.getLsbD l = ((s.core c).spm.full.getLsbD l || (rSetf r &&
         (List.range 128).all fun b => E.any fun d => d.1.places.any fun p => match p with
           | .mem _ _ => false
           | .spm c' a n => c' == c && decide (a ≤ 128 * l + b) && decide (128 * l + b < a + min n d.2.length))))) ∧
  (∀ (s : State) (r : Rec) (elem : Nat) (x y : Xl) (n : BitVec 3) (d : BitVec 24) (tb blk rr cc : Nat), recordOk r = true →
     rKind r = 0 → rDkind r = 2 → s.globMiss (rSadr r) 1 = false → s.xlate s.cur s.here.ctx .read (rSadr r) 1 = .ok x →
     n = (rDadr r).setWidth 3 → d = (if (rOvr r).getLsbD 5 then rOvr r else pteFmtd x.pte) →
     (∀ e, descCheck d (rSadr r) = some e → s.perform r elem = (.bad s e 0, elem)) ∧
     (descCheck d (rSadr r) = none → s.here.slotTakes n ((rDadr r).getLsbD 3) d = false →
       s.perform r elem = (.bad s 0x02#8 0, elem)) ∧
     (descCheck d (rSadr r) = none → s.here.slotTakes n ((rDadr r).getLsbD 3) d = true → tb = tileBytes d →
       rr = 2 ^ (d.extractLsb' 6 3).toNat → cc = 2 ^ (d.extractLsb' 9 3).toNat →
       s.poisonedIn x.pa tb = false → (d.getLsbD 4 = true →
         s.xlate s.cur s.here.ctx .read ((rSadr r &&& ~~~0xFFFF#64) +
           .ofNat 64 ((d.extractLsb' 12 8).toNat * 256 + 256 * (bits (rSadr r) 15 0 / tb))) 1 = .ok y ∧ y.pa = blk ∧
         s.poisonedIn blk (2 * rr + cc) = false) →
       ∃ k v, s.perform r elem = (.ok (s.setCore s.cur k) 0, elem) ∧ k.slot n = v ∧ v.st = .full ∧ v.fmt = d.setWidth 5 ∧
         v.rows = rr ∧ v.cols = cc ∧ v.codes = s.mem.readN x.pa tb ∧ v.sums = v.summary ∧
         v.pairEven = (s.here.slot n).pairEven ∧
         (d.getLsbD 4 = true → v.rowSc = (List.range rr).map (fun i => .ofNat 16 (s.mem.get (blk + 2 * i) 2)) ∧
           v.colSc = s.mem.readN (blk + 2 * rr) cc) ∧
         ((s.here.slot n).pairEven = true → (k.slot (n + 1)).st = .full) ∧
         (∀ m, m ≠ n → ((s.here.slot n).pairEven = true → m ≠ n + 1) → k.slot m = s.here.slot m) ∧
         (∃ S, k = { s.here with eng := { s.here.eng with slot := S } })))

/-- R234, R235, R140: an SE command is accepted while fewer than four are held, with its scratchpad operand checked at
issue; SE.CNT empties d until it has run, and SE.QUOTA sets SEQUOTA and d to at most the context's grant.

R110, R235: the oldest SE command runs once its consumed tokens allow; SE.DEL removes its rows, SE.CNT writes the number
of the tag's rows and fills its register, and each leaves the queue. R233: SE.INS enters or replaces the row of its key,
with the 32 bytes at its address as signature, and leaves every other row, or past SIGCAP or the tag's limit ends FAULTED
with CAPACITY; SE.AGE sets the age of the tag's listed pages to 0 and counts the others up to 15; SE.QUOTA leaves at most
SEQUOTA rows in the array. R236-R238: SE.SEL writes the list of the tag's rows: the sink and the recent pages, then the rest ranked by score. Places apart, rows stay as they
are. -/
def Obligations.SearchCommands : Prop :=
  (∀ (s s1 s2 t : State) (d a b : Reg) (e : Bool) (x : Ext) (v key : Word),
     (s.clear [a, b] [] = true → s.Reads a v s1 → s1.Reads b key s2 → bits key 62 42 = 0 → key.getLsbD 63 = false →
       s2.here.eng.se.length < 4 →
       (v.toNat + 32 ≤ 0x80000 → v.toNat % 32 = 0 → s2.accepts x = true →
         exec (.seIns a b e x) s = .next (s.pastA ((s2.modHere (·.acceptNow x)).modHere fun k =>
           k.seAdd (.ins (v.setWidth 19) (key.extractLsb' 32 10) (key.setWidth 32)) (s2.here.toks x)) 8)) ∧
       (v.toNat + 1024 ≤ 0x80000 → v.toNat % 8 = 0 →
         exec (.seAge a b e) s = .next (s.pastA (s2.modHere fun k =>
           k.seAdd (.age (v.setWidth 19) (key.extractLsb' 32 10)) noToks) 4))) ∧
     (s.clear [a] [] = true → s.Reads a v s1 → s1.here.eng.se.length < 4 →
       (bits v 62 42 = 0 → exec (.seDel a e) s = .next (s.pastA (s1.modHere fun k =>
         k.seAdd (.del (v.extractLsb' 32 10) (v.setWidth 32) (v.getLsbD 63)) noToks) 4)) ∧
       (v.toNat + 64 ≤ 0x80000 → v.toNat % 64 = 0 → s1.accepts x = true →
         exec (.seSel a e x) s = .next (s.pastA ((s1.modHere (·.acceptNow x)).modHere fun k =>
           k.seAdd (.sel (v.setWidth 19)) (s1.here.toks x)) 8))) ∧
     (s.clear [a] [d] = true → s.Reads a v s1 → s1.here.eng.se.length < 4 →
       (isPort d = false → bits v 62 42 = 0 → v.getLsbD 63 = false →
         ∃ k, exec (.seCnt d a e) s = .next (s.pastA (s1.setCore s1.cur k) 4) ∧
           k.eng.se = s1.here.eng.se ++ [SeCmd.mk (.cnt d (v.extractLsb' 32 10) s1.here.a.pc) noToks] ∧
           (d ≠ 0#6 → k.isEmpty d = true) ∧ k.a.s = s1.here.a.s) ∧
       (v.toNat < 2 ^ 13 → State.Writes (s1.modHere fun k => ({ k with ctl := { k.ctl with
             sequota := .ofNat 13 (min v.toNat (s1.myPart.ctx s1.here.ctx).siggrant.toNat) } } : Core).seAdd .quota noToks) d
           (.ofNat 64 (min v.toNat (s1.myPart.ctx s1.here.ctx).siggrant.toNat)) t →
         exec (.seQuota d a e) s = .next (s.pastA t 4)))) ∧
  (∀ (s : State) (c : CoreId) (cmd : SeCmd) (l : List SeCmd) (ctx : BitVec 16), s.ev.core = c → s.engineOn c = true →
     (s.core c).eng.se = cmd :: l → (s.core c).mayStart cmd.tok = .go → (s.core c).ctx = ctx →
     (∀ tag page all, cmd.op = .del tag page all → ∃ t, exec .seCommandRun s = .next t ∧ (t.core c).eng.se = l ∧
       (∀ r ∈ (t.part (s.partOf c)).rows, r.ctx = ctx → r.tag = tag → all = false ∧ r.page ≠ page) ∧
       ((s.part (s.partOf c)).rows.countP (fun r => !(r.ctx == ctx && r.tag == tag && (all || r.page == page))) =
         (t.part (s.partOf c)).rows.length) ∧ t.mem = s.mem) ∧
     (∀ d tag pc, cmd.op = .cnt d tag pc → d ≠ 0#6 → isPort d = false → ∃ t, exec .seCommandRun s = .next t ∧
       (t.core c).eng.se = l ∧ (t.core c).isEmpty d = false ∧
       (t.core c).reg d = .ofNat 64 ((s.part (s.partOf c)).rows.countP fun r => r.ctx == ctx && r.tag == tag)) ∧
     (∀ a tag page, cmd.op = .ins a tag page → (s.core c).spm.badIn a.toNat 32 = false →
       ((s.part (s.partOf c)).rows.any (·.hasKey ctx tag page) = true ∨
           (s.part (s.partOf c)).rows.countP (·.ctx == ctx) < ((s.part (s.partOf c)).ctx ctx).sigcap.toNat ∧
             (s.part (s.partOf c)).rows.countP (·.of ctx tag) < 262144 →
         ∃ t, exec .seCommandRun s = .next t ∧ (t.core c).eng.se = l ∧
           (cmd.tok.ext.prod ≠ 0#5 → (t.core c).tok cmd.tok.ext.prod.toNat = { st := .done }) ∧
           (∃ r ∈ (t.part (s.partOf c)).rows, r.hasKey ctx tag page = true) ∧
           (∀ r ∈ (t.part (s.partOf c)).rows, r.hasKey ctx tag page = true →
             r.sig = .ofNat 256 ((s.core c).spm.mem.get a.toNat 32)) ∧
           ∀ cx tg pg, (cx ≠ ctx ∨ tg ≠ tag ∨ pg ≠ page) →
             ((t.part (s.partOf c)).rows.filter (·.hasKey cx tg pg)).map (fun r => (r.sig, r.age, r.bad)) =
               ((s.part (s.partOf c)).rows.filter (·.hasKey cx tg pg)).map (fun r => (r.sig, r.age, r.bad))) ∧
       ((s.part (s.partOf c)).rows.any (·.hasKey ctx tag page) = false →
         (((s.part (s.partOf c)).ctx ctx).sigcap.toNat ≤ (s.part (s.partOf c)).rows.countP (·.ctx == ctx) ∨
           262144 ≤ (s.part (s.partOf c)).rows.countP (·.of ctx tag)) →
         ∃ t, exec .seCommandRun s = .next t ∧ (t.core c).eng.se = l ∧ t.parts = s.parts ∧
           (cmd.tok.ext.prod ≠ 0#5 → (t.core c).tok cmd.tok.ext.prod.toNat = { st := .faulted, sub := 0x20#8 }))) ∧
     (∀ a tag n, cmd.op = .age a tag → n = (s.core c).spm.mem.get a.toNat 1 % 128 →
       (s.core c).spm.badIn a.toNat (8 + 8 * n) = false → ∃ t, exec .seCommandRun s = .next t ∧ (t.core c).eng.se = l ∧
         (t.part (s.partOf c)).rows.map (fun r => (r.ctx, r.tag, r.page, r.sig, r.bad, r.age)) =
           (s.part (s.partOf c)).rows.map (fun r => (r.ctx, r.tag, r.page, r.sig, r.bad,
             if r.of ctx tag then
               if (List.range n).any (fun i => (s.core c).spm.mem.get (a.toNat + 8 + 8 * i) 4 == r.page.toNat) then 0
               else .ofNat 4 (min 15 (r.age.toNat + 1))
             else r.age))) ∧
     (cmd.op = .quota → ∃ t, exec .seCommandRun s = .next t ∧ (t.core c).eng.se = l ∧
       arrayCount c (t.part (s.partOf c)).rows ≤ (s.core c).ctl.sequota.toNat ∧
       (t.part (s.partOf c)).rows.map (fun r => (r.ctx, r.tag, r.page, r.sig, r.bad, r.age)) =
         (s.part (s.partOf c)).rows.map (fun r => (r.ctx, r.tag, r.page, r.sig, r.bad, r.age))) ∧
     (∀ a desc tag bs, cmd.op = .sel a → (s.core c).spm.badIn a.toNat 64 = false → (s.core c).spm.mem.wf = true →
       desc = .ofNat 512 ((s.core c).spm.mem.get a.toNat 64) → selOk desc = true → tag = .ofNat 10 (selField desc 36 2) →
       (∀ r ∈ (s.part (s.partOf c)).rows, r.of ctx tag = true → r.bad = false) →
       bs = selBytes desc ((s.part (s.partOf c)).rows.filter (·.of ctx tag)) →
       (s.core c).spm.badIn (selField desc 56 4) bs.length = false →
       ∃ t, exec .seCommandRun s = .next t ∧ (t.core c).eng.se = l ∧
         (t.core c).spm.mem.readN (selField desc 56 4) bs.length = bs ∧
         (cmd.tok.ext.prod ≠ 0#5 → (t.core c).tok cmd.tok.ext.prod.toNat = { st := .done })) ∧
     (∀ (d : BitVec 512) (rows : List SigRow) (last sink rb : Nat), last = selField d 32 4 → sink = min (selField d 38 1) (last + 1) →
       rb = max sink (last + 1 - selField d 39 1) →
       ∃ (es ranked : List (Nat × Nat)), selBytes d rows = leBytes 8 (es.length + 256 * sink + 65536 * (last + 1 - rb)) ++
           es.flatMap (fun q => leBytes 8 (q.1 + 2 ^ 32 * q.2)) ∧
         es = ((List.range sink) ++ (List.range (last + 1 - rb)).map (rb + ·)).map (fun p => (p, 0x1FF)) ++
           ranked.take (selField d 40 1) ∧
         ranked.Perm ((rows.filter fun w => decide (sink ≤ w.page.toNat) && decide (w.page.toNat < rb)).map fun w =>
           (w.page.toNat, 256 - (List.range 256).countP fun i => w.sig.getLsbD i != d.getLsbD i)) ∧
         ranked.Pairwise fun u v => v.2 < u.2 ∨ u.2 = v.2 ∧ u.1 ≤ v.1))

/-- R243, R244, R110: FLTARM opens window 0-3 with the descriptor that passes its checks, its token DONE; FLTCLOSE first
lets the results be written and, once every row's is, closes the window; a row's result is written once FLTCLOSE has begun,
the mask and the result block translated as they stand then (DEDUCED, logs 31, 32 and 35; its checks, log 33). A trap, an event, a RESUME or a pre-emption leaves an FLTCLOSE that waits not begun: its window is open again and no row of it
is done (R178, R332). -/
def Obligations.FilterWindows : Prop :=
  ∀ (s s1 : State) (d a : Reg) (e : Bool) (x : Ext) (v : Word) (w : Window), d.toNat < 4 →
    (s.clear [a] [] = true → s.Reads a v s1 → s1.armCheck (d.setWidth 2) v = .ok w → s1.accepts x = true →
      s1.here.mayStart (s1.here.toks x) = .go →
      exec (.fltarm d a e x) s = .next (s.pastA ((s1.modHere (·.acceptNow x)).modHere fun k =>
        (k.setWindow (d.setWidth 2) w).endTok (s1.here.toks x) none) 8)) ∧
    (Tbl.find? s.here.eng.win (d.setWidth 2 : BitVec 2).toNat = none →
      exec (.fltclose d e) s = .next (s.takeFault s.cur .a { code := .illegal })) ∧
    (Tbl.find? s.here.eng.win (d.setWidth 2 : BitVec 2).toNat = some w →
      (w.closing = true → w.allDone = true →
        exec (.fltclose d e) s = .next (s.pastA (s.modHere (·.dropWindow (d.setWidth 2))) 4)) ∧
      (w.closing = false → exec (.fltclose d e) s = .next
        ((s.modHere (·.setWindow (d.setWidth 2) { w with closing := true })).modHere (·.stallA (.filter (d.setWidth 2)))))) ∧
    (∀ (c : CoreId) (q : Nat) (ms : List Bool) (xs : List Nat) (t : State), s.ev.core = c → s.ev.n.setWidth 2 = d.setWidth 2 →
      s.ev.lane.toNat = q → (s.core c).window? (d.setWidth 2) = some w → s.engineOn c = true → w.closing = true →
      q < winRows w.desc → w.done.getLsbD q = false → s.winMaskBits c w.desc = some ms → s.winRow w q = some xs →
      s.putBlock c (winRbase w.desc + q * winBlock w.desc) (winResult w.desc xs ms) = some t →
      exec .filterResult s = .next (State.modCore { t with freeCtr := t.freeCtr + 1 } c fun k => k.setWindow (d.setWidth 2) { w with done := w.done ||| 1#64 <<< q })) ∧
    (∀ k : Core, (∃ W, k.reopen = { k with eng := { k.eng with win := W } }) ∧
      (∀ n, k.reopen.window? n = (k.window? n).map fun u => { u with closing := false, done := 0 }) ∧
      ∀ t, (k.enterTrap t).eng = k.reopen.eng)

/-! ### System instructions, control registers and exceptions (R50, R51, R171-R174, R284-R306) -/

/-- R119, R171, R174, R21: NOP and ISYNC only go on; IFLUSH goes on for an address below 2^56 and faults PROT above; END
reaches its end once the X-strand is idle and every engine and token has settled, and waits until then; of a stage task it
faults ILLEGAL while a pop or a push that it owes is not made (R252). ISYNC and IFLUSH change only the PC, because every
access, a fetch too, performs in the step that issues it: log 4 (DEDUCED).

R105: FENCE reads and writes no register; in this model, whose accesses perform in program order (log 4), it only
completes. -/
def Obligations.PlainSystemInstructions : Prop :=
  (∀ (s s1 s2 : State) (a b : Reg) (e : Bool) (x y : Word),
     exec .nop s = .next (s.pastA s 4) ∧ exec .isync s = .next (s.pastA s 4) ∧
     (s.clear [a, b] [] = true → s.Reads a x s1 → s1.Reads b y s2 →
       (x.toNat < 2 ^ 56 → exec (.iflush a b e) s = .next (s.pastA s2 4)) ∧
       (2 ^ 56 ≤ x.toNat → exec (.iflush a b e) s = .next (s.takeFault s.cur .a (addrFlt .prot x .read false)))) ∧
     (s.here.isSup = true → exec .endTask s = .next (s.takeFault s.cur .a { code := .illegal })) ∧
     (s.here.isSup = false → s.here.info.stage ≠ none →
       ((s.myPart.slotOf s.here.info).popped = false ∨ ∃ kv ∈ s.myPart.queues, ∃ i ∈ kv.2.items, i.st = .resvOut s.here.info.key) →
       exec .endTask s = .next (s.takeFault s.cur .a { code := .illegal })) ∧
     (∀ k : Core, k.quiet = true ↔ k.x.run = .idle ∧ k.eng.me.cmds = [] ∧ k.eng.se = [] ∧ (∀ kv ∈ k.eng.ce, kv.2.held = []) ∧
       k.eng.gs = [] ∧ ∀ kv ∈ k.eng.tok, kv.2.st ≠ .pending) ∧
     (s.here.isSup = false → (s.here.info.stage = none ∨ (s.myPart.slotOf s.here.info).popped = true ∧
         ∀ kv ∈ s.myPart.queues, ∀ i ∈ kv.2.items, i.st ≠ .resvOut s.here.info.key) →
       (s.here.quiet = true → exec .endTask s = .next ((s.modHere fun k => { k with atEnd := true }).modHere
         (·.stallA (if s.here.info.inGang = true then .gang else .endTask)))) ∧
       (s.here.quiet = false → exec .endTask s = .next (s.modHere (·.stallA .endTask))))) ∧
  (∀ (s : State) (m : BitVec 16) (sc : Scope), exec (.fence m sc) s = .next (s.pastA s 4) ∧ (s.pastA s 4).mem = s.mem ∧
     ∀ r, (s.pastA s 4).here.reg r = s.here.reg r)

/-- R171, R172, R304: TRAP n with TVEC set and no trap in progress saves the next PC in TPC, code 7 in TCAUSE and n in
TINFO0 and goes to TVEC with the in-trap bit set; with TVEC 0 or inside a handler it escalates and the task is held.
TRET goes to TPC with the bit clear, and faults ILLEGAL outside a handler.

R173, R302, R305: SCALL queues one CALL record with its number and s8 and s9 for the ring and waits for the supervisor; a
call already made waits on. Of s8 to s15, which it delivers, an empty one makes it wait first, or trap REG_EMPTY with E = 1
(R36): log 36 (DEDUCED). In a handler that the X-strand's trap entered during that wait another SCALL waits too: log 109
(DESIGN CHOICE). -/
def Obligations.UserTrapsAndCalls : Prop :=
  (∀ (s : State) (i : BitVec 12) (e : Bool),
     (s.here.a.inTrap = false → s.here.ctl.tvec ≠ 0 → ∃ k, exec (.trap i e) s = .next (s.setCore s.cur k) ∧
       k.ctl.tpc = s.here.a.pc + 4 ∧ k.ctl.tcause = 0x07#8 ∧ k.ctl.tinfo0 = i.setWidth 64 ∧ k.ctl.tinfo1 = 0 ∧
       k.ctl.tinfo2 = 0 ∧ k.ctl.tinfo3 = 0 ∧ k.a.inTrap = true ∧ k.a.pc = s.here.ctl.tvec ∧ k.a.s = s.here.a.s ∧
       k.x = s.here.x ∧ k.ctl.mode = s.here.ctl.mode ∧ k.ctl.flags = s.here.ctl.flags ∧ k.ctl.tvec = s.here.ctl.tvec) ∧
     (s.here.a.inTrap = true ∨ s.here.ctl.tvec = 0 → s.here.isSup = false → s.here.hold = none → ∃ t, exec (.trap i e) s = .next t ∧
       (t.core s.cur).hold = some { kind := .escalated, code := 0x07#8, strand := .a } ∧ (t.core s.cur).a.pc = s.here.a.pc ∧
       t.mem = s.mem) ∧
     (s.here.a.inTrap = true → ∃ t, exec .tret s = .next t ∧ t.here.a.pc = s.here.ctl.tpc ∧ t.here.a.inTrap = false ∧
       t.here.a.s = s.here.a.s ∧ t.here.ctl.tpc = s.here.ctl.tpc ∧
       (s.here.x.taken = true → t.here.x.trap = none) ∧ t.mem = s.mem) ∧
     (s.here.a.inTrap = false → exec .tret s = .next (s.takeFault s.cur .a { code := .illegal }))) ∧
  (∀ (s : State) (i : BitVec 12) (e : Bool),
     (s.here.a.scall = none → s.clear [8#6, 9#6, 10#6, 11#6, 12#6, 13#6, 14#6, 15#6] [8#6, 9#6] = true →
       ∃ t, exec (.scall i e) s = .next t ∧
       (t.part (s.partOf s.cur)).sup.ring = s.myPart.sup.ring ++ [s.callRec i] ∧ (s.callRec i).kind = 2#8 ∧
       (s.callRec i).body.extractLsb' 256 64 = i.setWidth 64 ∧ (s.callRec i).body.extractLsb' 320 64 = s.here.reg 8#6 ∧
       (s.callRec i).body.extractLsb' 384 64 = s.here.reg 9#6 ∧
       (s.callRec i).body.extractLsb' 128 64 = s.here.a.pc ∧ t.here.a.wait = some .scall ∧ t.here.a.scall = some s.here.a.pc ∧
       t.here.a.pc = s.here.a.pc ∧ t.here.a.s = s.here.a.s ∧ t.mem = s.mem) ∧
     (∀ r, s.here.a.scall = none → s.here.a.bad = [] → e = false →
       [8#6, 9#6, 10#6, 11#6, 12#6, 13#6, 14#6, 15#6].find? s.here.isEmpty = some r →
       exec (.scall i e) s = .next (s.modHere (·.stallA (.reg r)))) ∧
     (∀ r, s.here.a.scall = none → s.here.a.bad = [] → e = true →
       [8#6, 9#6, 10#6, 11#6, 12#6, 13#6, 14#6, 15#6].find? s.here.isEmpty = some r →
       exec (.scall i e) s = .next (s.takeTrap s.cur { code := 0x06#8, t0 := r.setWidth 64 })) ∧
     (s.here.a.scall ≠ none → exec (.scall i e) s = .next (s.modHere (·.stallA .scall))))

/-- R50, R51, R52, Tables 02.4 to 02.7: RDCTL writes the register's value to d and WRCTL changes it; a number outside the table
faults ILLEGAL, a reserved rounding mode faults ILLEGAL, an SPOVF that is no multiple of 8 or not below 2^56 ALIGN or PROT (PROT when both
fail), and a write of a read-only register changes nothing. -/
def Obligations.UserControlRegisters : Prop :=
  ∀ (s s1 t : State) (d : Reg) (i : BitVec 12) (e : Bool) (v x : Word),
    (s.readCtl i = some v → s.clear [] [d] = true → s.Writes d v t → exec (.rdctl d i e) s = .next (s.pastA t 4)) ∧
    (0x15 ≤ i.toNat → exec (.rdctl d i e) s = .next (s.takeFault s.cur .a { code := .illegal }) ∧
      exec (.wrctl d i e) s = .next (s.takeFault s.cur .a { code := .illegal })) ∧
    (∀ (k : Core) (f : Flags) n, (k.raise f).ctl.flags = k.ctl.flags ||| f ∧ (k.raise f).ctl.recent = k.ctl.recent ||| f ∧
      (k.ctl.passClk (n + 1)).recent = 0 ∧ (k.ctl.passClk (n + 1)).flags = k.ctl.flags) ∧
    (s.readCtl 0x02#12 = some (s.cur.setWidth 64) ∧ s.readCtl 0x03#12 = some (s.here.ctl.fc.setWidth 64) ∧
      s.readCtl 0x05#12 = some (if s.here.detm = true then 1 else 0) ∧ s.readCtl 0x08#12 = some s.here.ctl.tvec ∧
      s.readCtl 0x09#12 = some (s.here.ctl.tcause.setWidth 64) ∧ s.readCtl 0x0A#12 = some s.here.ctl.tinfo0 ∧
      s.readCtl 0x0B#12 = some s.here.ctl.tinfo1 ∧ s.readCtl 0x0C#12 = some s.here.ctl.tinfo2 ∧
      s.readCtl 0x0D#12 = some s.here.ctl.tinfo3 ∧ s.readCtl 0x04#12 = some (s.here.ctl.flen.setWidth 64) ∧
      s.readCtl 0x06#12 = some s.here.ctl.spovf ∧ s.readCtl 0x10#12 = some (s.here.ctl.slipd.setWidth 64) ∧
      s.readCtl 0x12#12 = some (s.here.ctl.sequota.setWidth 64) ∧
      s.readCtl 0x07#12 = some (.ofNat 64 (0x80000 - s.here.info.cont.spill.toNat * 1024)) ∧
      s.readCtl 0x00#12 = some (.ofNat 64 ((match s.here.ctl.mode with
        | .rne => 0 | .rz => 1 | .ru => 2 | .rd => 3 | .rna => 4 | .sr => 5) + s.here.ctl.flags.toNat * 256)) ∧
      s.readCtl 0x01#12 = some (.ofNat 64 (s.here.info.lrec.toNat + s.here.ctx.toNat * 2 ^ 16 + s.here.info.rank.toNat * 2 ^ 32 +
        (s.here.info.stage.getD 0).toNat * 2 ^ 40)) ∧
      s.readCtl 0x11#12 = some (.ofNat 64 (s.here.info.cont.gids.toNat + s.here.info.cont.gvalid.toNat * 2 ^ 32)) ∧
      s.readCtl 0x0E#12 = some s.here.ctl.tpc ∧ s.readCtl 0x0F#12 = some s.here.ctl.rngseed ∧
      s.readCtl 0x13#12 = some s.here.ctl.cycle ∧ s.readCtl 0x14#12 = some s.here.ctl.retired) ∧
    (s.clear [d] [] = true → s.Reads d x s1 →
      (i.toNat = 0 → ∀ m, Rmode.ofCode (x.setWidth 3) = some m → exec (.wrctl d i e) s =
        .next (s.pastA (s1.modCtl fun c => { c with mode := m, flags := x.extractLsb' 8 6 ||| c.recent }) 4)) ∧
      (i.toNat = 0 → Rmode.ofCode (x.setWidth 3) = none →
        exec (.wrctl d i e) s = .next (s.takeFault s.cur .a { code := .illegal })) ∧
      (i.toNat = 4 → exec (.wrctl d i e) s = .next (s.pastA (s1.modCtl fun c => { c with flen := x.setWidth 12 }) 4)) ∧
      (i.toNat = 6 → x.toNat < 2 ^ 56 → x.toNat % 8 = 0 →
        exec (.wrctl d i e) s = .next (s.pastA (s1.modCtl fun c => { c with spovf := x }) 4)) ∧
      (i.toNat = 6 → 2 ^ 56 ≤ x.toNat → exec (.wrctl d i e) s = .next (s.takeFault s.cur .a (addrFlt .prot x .read false))) ∧
      (i.toNat = 6 → x.toNat < 2 ^ 56 → x.toNat % 8 ≠ 0 →
        exec (.wrctl d i e) s = .next (s.takeFault s.cur .a (addrFlt .align x .read false))) ∧
      (i.toNat = 9 → exec (.wrctl d i e) s = .next (s.pastA (s1.modCtl fun c => { c with tcause := x.setWidth 8 }) 4)) ∧
      (i.toNat = 10 → exec (.wrctl d i e) s = .next (s.pastA (s1.modCtl fun c => { c with tinfo0 := x }) 4)) ∧
      (i.toNat = 11 → exec (.wrctl d i e) s = .next (s.pastA (s1.modCtl fun c => { c with tinfo1 := x }) 4)) ∧
      (i.toNat = 12 → exec (.wrctl d i e) s = .next (s.pastA (s1.modCtl fun c => { c with tinfo2 := x }) 4)) ∧
      (i.toNat = 13 → exec (.wrctl d i e) s = .next (s.pastA (s1.modCtl fun c => { c with tinfo3 := x }) 4)) ∧
      (i.toNat = 8 → exec (.wrctl d i e) s = .next (s.pastA (s1.modCtl fun c => { c with tvec := x &&& 0x00FFFFFFFFFFFFFC#64 }) 4)) ∧
      (i.toNat = 14 → exec (.wrctl d i e) s = .next (s.pastA (s1.modCtl fun c => { c with tpc := x &&& ~~~3#64 }) 4)) ∧
      (i.toNat = 15 → exec (.wrctl d i e) s = .next (s.pastA (s1.modCtl fun c => { c with rngseed := x }) 4)) ∧
      (i.toNat = 1 ∨ i.toNat = 2 ∨ i.toNat = 3 ∨ i.toNat = 5 ∨ i.toNat = 7 ∨ (16 ≤ i.toNat ∧ i.toNat ≤ 0x14) →
        exec (.wrctl d i e) s = .next (s.pastA s1 4)))

/-- R299, R306, R295: a fault of a task holds it with its record queued and every register and byte as before, its PC at the
instruction; where the A-strand and the X-strand fault in one clk, the A-strand's is recorded. A fault of the supervisor core
outside a handler saves the PC of the faulting instruction in SEPC and the code in SCAUSE, sets INEV and goes to SVEC;
inside a handler it stops the partition. It is taken whatever EE is: log 102 (DESIGN CHOICE). The fault of an X-strand there,
or of a lane of a gather or scatter, waits while the A-strand stands within an atomic (DEDUCED, log 16). -/
def Obligations.FaultsAreTaken : Prop :=
  ∀ (s : State) (c : CoreId) (st : Strand) (f : Flt),
    ((s.core c).isSup = false → (s.core c).hold = none →
      (∃ h, ((s.takeFault c st f).core c).hold = some h ∧ h.kind = .fault ∧ h.code = faultNum f.code ∧ h.strand = st) ∧
      ((s.takeFault c st f).core c).a = (if st = .a ∧ f.site = none ∧ f.code ≠ .taskTimeout
        then { (s.core c).a with wait := none, waitClk := 0 } else (s.core c).a) ∧ ((s.takeFault c st f).core c).x = (s.core c).x ∧
      ((s.takeFault c st f).core c).ctl = (s.core c).ctl ∧
      ∃ r l, ((s.takeFault c st f).part (s.partOf c)).sup.ring = (s.part (s.partOf c)).sup.ring ++ r :: l ∧
        r.kind = 0#8 ∧ r.code = faultNum f.code) ∧
    (∀ h, (s.core c).isSup = false → (s.core c).hold = some h → h.kind = .fault → h.strand = .x → h.clk = s.clk →
      s.faultWaits c = true → st = .a →
      ∃ g, ((s.takeFault c st f).core c).hold = some g ∧ g.kind = .fault ∧ g.code = faultNum f.code ∧ g.strand = .a) ∧
    ((s.core c).isSup = true → (st = .x ∨ f.site ≠ none) → (s.core c).a.begun ≠ [] → s.takeFault c st f = s) ∧
    ((s.core c).isSup = true → (st = .a ∧ f.site = none ∨ (s.core c).a.begun = []) → (s.part (s.partOf c)).sup.inev = false →
      (s.part (s.partOf c)).score = c →
      (f.site = none → ((s.takeFault c st f).part (s.partOf c)).sup.sepc = (s.core c).pcOf st) ∧
      (∀ pc w, f.site = some (pc, w) → ((s.takeFault c st f).part (s.partOf c)).sup.sepc = pc) ∧
      ((s.takeFault c st f).part (s.partOf c)).sup.scause = faultNum f.code ∧
      ((s.takeFault c st f).part (s.partOf c)).sup.inev = true ∧
      ((s.takeFault c st f).core c).a.pc = (s.part (s.partOf c)).sup.svec ∧
      ((s.takeFault c st f).core c).a.s = (s.core c).a.s) ∧
    ((s.core c).isSup = true → (st = .a ∧ f.site = none ∨ (s.core c).a.begun = []) → (s.part (s.partOf c)).sup.inev = true →
      ((s.takeFault c st f).part (s.partOf c)).stopped = true ∧ (s.takeFault c st f).cores = s.cores) ∧
    (s.takeFault c st f).mem = s.mem

/-- R284, R287-R292: the supervisor's own instructions. SRET goes to SEPC, clears INEV and, with PEND set, takes the event
again; SRDCTL and SWRCTL reach every register of the core and the partition; TLBINV, SESPALL, SNAPT and CORESTOP act on the
operands that are in range and fault ILLEGAL, or PROT for a core outside the partition, on the others (DEDUCED, log 66).
CORESTOP of a core that runs a task takes it out of service and out of its reservation, asks for the save of its task, with
its gang, and waits. TLBINV removes from every TLB of the partition the entries of the context that map a byte of the range,
and no other. SNAPT makes a capture with the next id, or counts a miss and delivers 0 while one is held.

R289, R291, R292, R380: what TLBINV, SNAPT and CORESTOP do to the TLBs, the snapshot fabric and the core. A SNAPT in the
clk of the held capture joins it.

R284: the seven privileged functions of major 0x24, decoded for a task, raise PRIV; every word that decodes for a task
decodes for the supervisor to the same instruction. -/
def Obligations.SupervisorInstructions : Prop :=
  (∀ (s s1 s2 t : State) (d a b : Reg) (i : BitVec 12) (e : Bool) (v w x : Word),
     (s.myPart.sup.inev = true → s.myPart.score = s.cur → ∃ t, exec .sret s = .next t ∧
       (s.myPart.sup.pend = false → t.here.a.pc = s.myPart.sup.sepc ∧ t.myPart.sup.inev = false ∧ t.myPart.sup.pend = false) ∧
       (s.myPart.sup.pend = true → t.here.a.pc = s.myPart.sup.svec ∧ t.myPart.sup.inev = true ∧
         t.myPart.sup.sepc = s.myPart.sup.sepc ∧ t.myPart.sup.scause = 0#8 ∧ t.myPart.sup.pend = false) ∧
       t.here.a.s = s.here.a.s ∧ t.mem = s.mem) ∧
     (s.myPart.sup.inev = false → exec .sret s = .next (s.takeFault s.cur .a { code := .illegal })) ∧
     (s.supRead i = some v → s.clear [] [d] = true → s.Writes d v t → exec (.srdctl d i e) s = .next (s.pastA t 4)) ∧
     (s.supRead i = none → exec (.srdctl d i e) s = .next (s.takeFault s.cur .a { code := .illegal }) ∧
       exec (.swrctl d i e) s = .next (s.takeFault s.cur .a { code := .illegal })) ∧
     ((s.supRead i).isSome = true → s.clear [d] [] = true → s.Reads d x s1 → 0x100 ≤ i.toNat →
       exec (.swrctl d i e) s = .next (s.pastA (s1.regWrite (s1.partOf s1.cur) .sup i x) 4)) ∧
     (i.toNat ≤ 0x14 → s.clear [d] [] = true → s.Reads d x s1 →
       (∀ t, s1.writeCtl i x = .ok t → exec (.swrctl d i e) s = .next (s.pastA t 4)) ∧
       (∀ f, s1.writeCtl i x = .error f → exec (.swrctl d i e) s = .next (s.takeFault s.cur .a f))) ∧
     (s.clear [a, b] [] = true → s.Reads a v s1 → s1.Reads b w s2 →
       (w.toNat < 2 ^ 34 → exec (.tlbinv a b e) s = .next (s.pastA (s2.tlbDrop (s2.partOf s2.cur) (tlbPick v w)) 4)) ∧
       (2 ^ 34 ≤ w.toNat → exec (.tlbinv a b e) s = .next (s.takeFault s.cur .a { code := .illegal }))) ∧
     (s.clear [a] [] = true → s.Reads a v s1 →
       (v.toNat < 2 ^ 16 → exec (.sespall a e) s = .next (s.pastA (s1.modMyPart fun P => { P with
         rows := P.rows.map fun r => if r.ctx.toNat = v.toNat then { r with loc := none } else r }) 4)) ∧
       (2 ^ 16 ≤ v.toNat → exec (.sespall a e) s = .next (s.takeFault s.cur .a { code := .illegal }))) ∧
     (s.clear [a] [d] = true → s.Reads a v s1 →
       (v.toNat < 2 ^ 16 → (s1.snapt (v.setWidth 16)).2.Writes d (s1.snapt (v.setWidth 16)).1 t →
         exec (.snapt d a e) s = .next (s.pastA t 4)) ∧
       (2 ^ 16 ≤ v.toNat → exec (.snapt d a e) s = .next (s.takeFault s.cur .a { code := .illegal })) ∧
       (2 ^ 9 ≤ v.toNat → exec (.corestop d a e) s = .next (s.takeFault s.cur .a { code := .illegal })) ∧
       (2 ^ 8 ≤ v.toNat → v.toNat < 2 ^ 9 → s1.myPart.isTaskCore (v.setWidth 8) = true →
         (s1.core (v.setWidth 8)).occ = .task →
         exec (.corestop d a e) s = .next ((s.stopCore (v.setWidth 8)).modHere (·.stallA (.core (v.setWidth 8))))) ∧
       (v.toNat < 2 ^ 8 → s1.myPart.isTaskCore (v.setWidth 8) = true →
         (s1.coreDone (v.setWidth 8) false).Writes d (if (s1.core (v.setWidth 8)).wasIn = true then 1 else 0) t →
         exec (.corestop d a e) s = .next (s.pastA t 4) ∧ (s1.coreDone (v.setWidth 8) false).core (v.setWidth 8) =
           { s1.core (v.setWidth 8) with out := false, stopping := false }) ∧
       (2 ^ 8 ≤ v.toNat → v.toNat < 2 ^ 9 → s1.myPart.isTaskCore (v.setWidth 8) = true →
         (s1.core (v.setWidth 8)).occ ≠ .task →
         ((s1.modPart (s1.partOf (v.setWidth 8)) (·.unreserve (v.setWidth 8))).coreDone (v.setWidth 8) true).Writes d
           (if (s1.core (v.setWidth 8)).wasIn = true then 1 else 0) t →
         exec (.corestop d a e) s = .next (s.pastA t 4)) ∧
       (v.toNat < 2 ^ 9 → s1.myPart.isTaskCore (v.setWidth 8) = false →
         exec (.corestop d a e) s = .next (s.takeFault s.cur .a protOpen)))) ∧
  (∀ (s t : State) (p : PartId) (v w : Word) (c : CoreId) (tag : BitVec 16),
     (t = s.tlbDrop p (tlbPick v w) → ∀ (m : TlbEnt → Bool),
       (∀ e, m e = true ↔ (w.getLsbD 33 = true ∨ e.ctx = w.setWidth 16) ∧ (w.getLsbD 32 = true ∨
         (if e.big then e.vpn * 8192 else e.vpn) < bits v 55 16 + bits w 31 16 + 1 ∧
           bits v 55 16 < (if e.big then e.vpn * 8192 + 8192 else e.vpn + 1))) →
       (s.partOf c = p → t.core c = { s.core c with tlb := (s.core c).tlb.filter fun e => !m e }) ∧
       (s.partOf c ≠ p → t.core c = s.core c) ∧
       (∀ d : BitVec 2, Tbl.get [] t.dieTlb d.toNat = if (s.part p).hasDie d = true
         then (Tbl.get [] s.dieTlb d.toNat).filter fun e => !m e else Tbl.get [] s.dieTlb d.toNat) ∧
       t = { s with cores := t.cores, dieTlb := t.dieTlb }) ∧
     (t = (s.snapt tag).2 → s.io.snap.instr = true →
       t = { s with io := { s.io with snap := t.io.snap }, freeCtr := t.freeCtr } ∧
       (s.io.snap.lock = false → (s.snapt tag).1 = s.io.snap.id + 1 ∧ t.io.snap.id = s.io.snap.id + 1 ∧
         t.io.snap.lock = true ∧ t.io.snap.miss = s.io.snap.miss ∧ t.io.snap.cause = .ofNat 64 (4 + tag.toNat * 2 ^ 32) ∧
         t.io.snap.atClk = s.clk) ∧
       (s.io.snap.lock = true → s.io.snap.atClk ≠ s.clk → (s.snapt tag).1 = 0 ∧
         t.io.snap = { s.io.snap with miss := s.io.snap.miss + 1 }) ∧
       (s.io.snap.lock = true → s.io.snap.atClk = s.clk → (s.snapt tag).1 = s.io.snap.id ∧ t.io.snap.id = s.io.snap.id ∧
         t.io.snap.lock = true ∧ t.io.snap.miss = s.io.snap.miss ∧
         t.io.snap.cause = (s.io.snap.cause ||| .ofNat 64 (4 + tag.toNat * 2 ^ 32)))) ∧
     (t = s.stopCore c → (s.core c).occ = .task →
       ((s.core c).wasIn = true ↔ (s.core c).out = false ∨ (s.core c).stopping = true) ∧
       (∀ r ∈ (t.part (s.partOf c)).resv, c ∉ r.cores) ∧ t.mem = s.mem ∧
       ((s.core c).info.inGang = false → t.core c = { s.core c with
           out := true, stopping := (s.core c).wasIn, save := if (s.core c).save = .none then .asked else (s.core c).save } ∧
         ∀ d, d ≠ c → t.core d = s.core d) ∧
       ((s.core c).info.inGang = true → (t.core c).out = true ∧ (t.core c).stopping = (s.core c).wasIn ∧
         ∀ d, d ∈ s.gangOn (s.partOf c) (s.core c).info →
           (t.core d).save = if (s.core d).save = .none then .asked else (s.core d).save))) ∧
  (∀ (w x : W32),
     (w.toNat / 2 ^ 26 = 0x24 → 8 ≤ w.toNat / 4 % 64 → w.toNat / 4 % 64 ≤ 14 → decode .a false w x = .error .priv) ∧
     (∀ i, decode .a false w x = .ok i → decode .a true w x = .ok i))

/-! ### The X-strand (R39-R43, R73-R98, R176-R202) -/

/-- R182-R184, R176, R42: on integer lanes the result of each active element is the stated function of its sources; inactive
bytes keep the destination, no flag is raised but SAT by the saturating forms, and the strand goes on. -/
def Obligations.VectorIntegerLanes : Prop :=
  ∀ (s s1 s2 t : State) (d a b : VNo) (p : PNo) (e : Bool) (x y : VReg) (i : Instr) (w : Nat) (f : Nat → Nat) (fl : Flags),
    s.ReadsV a x s1 → s1.ReadsV b y s2 → (s2.raise fl).WritesV d w (s.here.preg p) (ofElems w f) t →
    (w = 32 ∧ fl = 0#6 ∧
        ((i = .vaddI32 d a b p e ∧ ∀ k, k < 128 → f k = (lane 32 x k + lane 32 y k) % 2 ^ 32) ∨
         (i = .vsubI32 d a b p e ∧ ∀ k, k < 128 → f k = (lane 32 x k + 2 ^ 32 - lane 32 y k) % 2 ^ 32) ∨
         (i = .vmulI32 d a b p e ∧ ∀ k, k < 128 → f k = lane 32 x k * lane 32 y k % 2 ^ 32) ∨
         (i = .vmulhI32 d a b p e ∧ ∀ k, k < 128 →
            (f k : Int) = sgn 32 (lane 32 x k) * sgn 32 (lane 32 y k) / 2 ^ 32 % 2 ^ 32) ∨
         (i = .vminI32 d a b p e ∧ ∀ k, k < 128 →
            f k = if sgn 32 (lane 32 y k) < sgn 32 (lane 32 x k) then lane 32 y k else lane 32 x k) ∨
         (i = .vmaxI32 d a b p e ∧ ∀ k, k < 128 →
            f k = if sgn 32 (lane 32 x k) < sgn 32 (lane 32 y k) then lane 32 y k else lane 32 x k) ∨
         (i = .vminUI32 d a b p e ∧ ∀ k, k < 128 → f k = min (lane 32 x k) (lane 32 y k)) ∨
         (i = .vmaxUI32 d a b p e ∧ ∀ k, k < 128 → f k = max (lane 32 x k) (lane 32 y k)) ∨
         (i = .vshl d a b p e ∧ ∀ k, k < 128 →
            f k = if lane 32 y k < 32 then lane 32 x k * 2 ^ lane 32 y k % 2 ^ 32 else 0) ∨
         (i = .vshr d a b p e ∧ ∀ k, k < 128 → f k = if lane 32 y k < 32 then lane 32 x k / 2 ^ lane 32 y k else 0) ∨
         (i = .vsar d a b p e ∧ ∀ k, k < 128 →
            (f k : Int) = sgn 32 (lane 32 x k) / 2 ^ min (lane 32 y k) 32 % 2 ^ 32)) ∨
      (fl = 0#6 ∧
        ((w = 16 ∧ i = .vaddI16 d a b p e ∧ ∀ k, k < 256 → f k = (lane 16 x k + lane 16 y k) % 2 ^ 16) ∨
         (w = 16 ∧ i = .vsubI16 d a b p e ∧ ∀ k, k < 256 → f k = (lane 16 x k + 2 ^ 16 - lane 16 y k) % 2 ^ 16) ∨
         (w = 8 ∧ i = .vaddI8 d a b p e ∧ ∀ k, k < 512 → f k = (lane 8 x k + lane 8 y k) % 2 ^ 8) ∨
         (w = 8 ∧ i = .vsubI8 d a b p e ∧ ∀ k, k < 512 → f k = (lane 8 x k + 2 ^ 8 - lane 8 y k) % 2 ^ 8))) ∨
      (∃ z : Nat → Int,
        ((w = 16 ∧ i = .vaddsI16 d a b p e ∧ ∀ k, z k = sgn 16 (lane 16 x k) + sgn 16 (lane 16 y k)) ∨
         (w = 16 ∧ i = .vsubsI16 d a b p e ∧ ∀ k, z k = sgn 16 (lane 16 x k) - sgn 16 (lane 16 y k)) ∨
         (w = 8 ∧ i = .vaddsI8 d a b p e ∧ ∀ k, z k = sgn 8 (lane 8 x k) + sgn 8 (lane 8 y k)) ∨
         (w = 8 ∧ i = .vsubsI8 d a b p e ∧ ∀ k, z k = sgn 8 (lane 8 x k) - sgn 8 (lane 8 y k))) ∧
        (∀ k, k < 4096 / w → (f k : Int) = max (-2 ^ (w - 1)) (min (z k) (2 ^ (w - 1) - 1)) % 2 ^ w) ∧
        ((fl = flSAT ∧ ∃ k, k < 4096 / w ∧ active (s.here.preg p) w k = true ∧ (z k < -2 ^ (w - 1) ∨ 2 ^ (w - 1) ≤ z k)) ∨
         (fl = 0#6 ∧ ∀ k, k < 4096 / w → active (s.here.preg p) w k = true → -2 ^ (w - 1) ≤ z k ∧ z k < 2 ^ (w - 1))))) →
    exec i s = .next (s.pastX t)

/-- R95, R96, R181, R185, R195: the FP32, FP16 and BF16 forms apply their function to each element with the mode of RNDM and the element's
hash, raise the flags of the active elements only, and go on; the third source of the fused forms is vd.

R95, R96, Table 04.8: the FP32 codes that the functions give for infinities, zeros, NaN and negative operands, with
their flags. MIN and MAX take the other operand of a NaN. -/
def Obligations.VectorFloatLanes : Prop :=
  (∀ (s s1 s2 s3 t : State) (d a b : VNo) (p : PNo) (e : Bool) (x y z : VReg) (i : Instr) (w : Nat) (ty : Elem)
     (r : Nat → Nat × Flags),
     s.ReadsV a x s1 → (w = 32 ∧ ty = .fp32 ∨ w = 16 ∧ (ty = .fp16 ∨ ty = .bf16)) →
     ((s1.ReadsV b y s2 →
       (s2.raise (laneFlags w (s.here.preg p) ((List.range (4096 / w)).map r))).WritesV d w (s.here.preg p)
         (ofElems w fun k => (r k).1) t →
       ((ty = .fp32 ∧ i = .vaddF32 d a b p e ∨ ty = .fp16 ∧ i = .vaddF16 d a b p e ∨ ty = .bf16 ∧ i = .vaddBF16 d a b p e) ∧
           (∀ k, r k = fpAdd ty s.here.mode (s.here.srh k) (lane w x k) (lane w y k)) ∨
        (ty = .fp32 ∧ i = .vsubF32 d a b p e ∨ ty = .fp16 ∧ i = .vsubF16 d a b p e ∨ ty = .bf16 ∧ i = .vsubBF16 d a b p e) ∧
           (∀ k, r k = fpSub ty s.here.mode (s.here.srh k) (lane w x k) (lane w y k)) ∨
        (ty = .fp32 ∧ i = .vmulF32 d a b p e ∨ ty = .fp16 ∧ i = .vmulF16 d a b p e ∨ ty = .bf16 ∧ i = .vmulBF16 d a b p e) ∧
           (∀ k, r k = fpMul ty s.here.mode (s.here.srh k) (lane w x k) (lane w y k)) ∨
        (ty = .fp32 ∧ i = .vminF32 d a b p e ∨ ty = .fp16 ∧ i = .vminF16 d a b p e ∨ ty = .bf16 ∧ i = .vminBF16 d a b p e) ∧
           (∀ k, r k = (fpMin ty (lane w x k) (lane w y k), 0#6)) ∨
        (ty = .fp32 ∧ i = .vmaxF32 d a b p e ∨ ty = .fp16 ∧ i = .vmaxF16 d a b p e ∨ ty = .bf16 ∧ i = .vmaxBF16 d a b p e) ∧
           (∀ k, r k = (fpMax ty (lane w x k) (lane w y k), 0#6)) ∨
        (ty = .fp32 ∧ i = .vcpsgnF32 d a b p e ∨ ty = .fp16 ∧ i = .vcpsgnF16 d a b p e ∨
           ty = .bf16 ∧ i = .vcpsgnBF16 d a b p e) ∧
           (∀ k, r k = (lane w x k % 2 ^ (w - 1) + lane w y k / 2 ^ (w - 1) * 2 ^ (w - 1), 0#6)) ∨
        ty = .fp32 ∧ i = .vdiv d a b p e ∧ (∀ k, r k = fpDiv s.here.mode (s.here.srh k) (lane w x k) (lane w y k))) →
       exec i s = .next (s.pastX t)) ∧
     (s1.ReadsV b y s2 → s2.ReadsV d z s3 →
       (s3.raise (laneFlags w (s.here.preg p) ((List.range (4096 / w)).map r))).WritesV d w (s.here.preg p)
         (ofElems w fun k => (r k).1) t →
       ∀ neg, (neg = false ∧ (ty = .fp32 ∧ i = .vfmaF32 d a b p e ∨ ty = .fp16 ∧ i = .vfmaF16 d a b p e ∨
           ty = .bf16 ∧ i = .vfmaBF16 d a b p e) ∨
         neg = true ∧ (ty = .fp32 ∧ i = .vfnmaF32 d a b p e ∨ ty = .fp16 ∧ i = .vfnmaF16 d a b p e ∨
           ty = .bf16 ∧ i = .vfnmaBF16 d a b p e)) →
       (∀ k, r k = fpFma ty neg s.here.mode (s.here.srh k) (lane w x k) (lane w y k) (lane w z k)) →
       exec i s = .next (s.pastX t)) ∧
     ((s1.raise (laneFlags 32 (s.here.preg p) ((List.range 128).map r))).WritesV d 32 (s.here.preg p)
         (ofElems 32 fun k => (r k).1) t →
       ∀ f, (i = .vexp2 d a p e ∧ f = fpExp2 ∨ i = .vlog2 d a p e ∧ f = fpLog2 ∨ i = .vrcp d a p e ∧ f = fpRcp ∨
         i = .vrsq d a p e ∧ f = fpRsqrt ∨ i = .vsqrt d a p e ∧ f = fpSqrt) →
       (∀ k, r k = f s.here.mode (s.here.srh k) (lane 32 x k)) → exec i s = .next (s.pastX t)))) ∧
  (∀ (m : Rmode) (h x y : Nat),
     (fpExp2 m h 0x7F800000 = (0x7F800000, 0#6) ∧ fpExp2 m h 0xFF800000 = (0, 0#6) ∧ fpExp2 m h 0 = (0x3F800000, 0#6) ∧
       fpLog2 m h 0x7F800000 = (0x7F800000, 0#6) ∧ fpLog2 m h 0 = (0xFF800000, flDZ) ∧
       fpLog2 m h 0xFF800000 = (0x7FC00000, flNV) ∧
       fpRcp m h 0 = (0x7F800000, flDZ) ∧ fpRcp m h 0x80000000 = (0xFF800000, flDZ) ∧ fpRcp m h 0xFF800000 = (0x80000000, 0#6) ∧
       fpRsqrt m h 0 = (0x7F800000, flDZ) ∧ fpRsqrt m h 0x80000000 = (0xFF800000, flDZ) ∧
       fpRsqrt m h 0x7F800000 = (0, 0#6) ∧ fpRsqrt m h 0xFF800000 = (0x7FC00000, flNV) ∧
       fpSqrt m h 0x80000000 = (0x80000000, 0#6) ∧ fpSqrt m h 0x7F800000 = (0x7F800000, 0#6) ∧
       fpSqrt m h 0xFF800000 = (0x7FC00000, flNV) ∧ fpDiv m h 0 0x80000000 = (0x7FC00000, flNV) ∧
       fpDiv m h 0x7F800000 0xFF800000 = (0x7FC00000, flNV)) ∧
     (codeValue .fp32 x = .nan → fpExp2 m h x = (0x7FC00000, 0#6) ∧ fpLog2 m h x = (0x7FC00000, 0#6) ∧
       fpRcp m h x = (0x7FC00000, 0#6) ∧ fpRsqrt m h x = (0x7FC00000, 0#6) ∧ fpSqrt m h x = (0x7FC00000, 0#6) ∧
       fpDiv m h x y = (0x7FC00000, 0#6) ∧ fpDiv m h y x = (0x7FC00000, 0#6) ∧
       fpAdd .fp32 m h x y = (0x7FC00000, 0#6) ∧ fpAdd .fp32 m h y x = (0x7FC00000, 0#6) ∧
       fpMul .fp32 m h x y = (0x7FC00000, 0#6) ∧
       (codeValue .fp32 y ≠ .nan → fpMin .fp32 x y = y ∧ fpMin .fp32 y x = y ∧ fpMax .fp32 x y = y ∧ fpMax .fp32 y x = y) ∧
       (codeValue .fp32 y = .nan → fpMin .fp32 x y = 0x7FC00000 ∧ fpMax .fp32 x y = 0x7FC00000)) ∧
     (∀ sg n e, codeValue .fp32 x = .fin sg n e → n ≠ 0 →
       (sg = true → fpLog2 m h x = (0x7FC00000, flNV) ∧ fpSqrt m h x = (0x7FC00000, flNV) ∧ fpRsqrt m h x = (0x7FC00000, flNV)) ∧
       fpDiv m h x 0 = (if sg = true then 0xFF800000 else 0x7F800000, flDZ) ∧
       fpDiv m h x 0x7F800000 = (if sg = true then 0x80000000 else 0, 0#6)))

/-- R184, R186-R188: the bitwise forms act on the bytes that the predicate enables, VSEL takes each byte from one source and
writes all of them, VMOV copies, the permutes move lanes with zero where no source lane exists, VRAND gives each lane its
hash, and VTOA adds lanes 0 and 1 to XQ while it holds fewer than 8.

R185, R197, R40: a compare sets the four bits of each active lane of its predicate to the condition and keeps the
others; the predicate forms combine whole predicates, p0 staying all ones; PPOPC and PFFS count and find set lanes, and VFROMP
spreads the bits over bytes. That those that pop no port take E = 1 and ignore it is the model's choice (DESIGN CHOICE, log 116). -/
def Obligations.VectorMovesAndPredicates : Prop :=
  (∀ (s s1 s2 t : State) (d a b : VNo) (p : PNo) (e : Bool) (x y : VReg), s.ReadsV a x s1 →
     (s1.ReadsV b y s2 →
       (s2.WritesV d 8 (s.here.preg p) (x &&& y) t → exec (.vand d a b p e) s = .next (s.pastX t)) ∧
       (s2.WritesV d 8 (s.here.preg p) (x ||| y) t → exec (.vor d a b p e) s = .next (s.pastX t)) ∧
       (s2.WritesV d 8 (s.here.preg p) (x ^^^ y) t → exec (.vxor d a b p e) s = .next (s.pastX t)) ∧
       (s2.WritesV d 8 (s.here.preg p) (x &&& ~~~y) t → exec (.vandn d a b p e) s = .next (s.pastX t)) ∧
       (s2.WritesV d 8 allOn ((x &&& byteMask (s.here.preg p)) ||| (y &&& ~~~byteMask (s.here.preg p))) t →
         exec (.vsel d a b p e) s = .next (s.pastX t)) ∧
       (s2.WritesV d 32 (s.here.preg p) (ofElems 32 fun _ => lane 32 x (lane 32 y 0 % 128)) t →
         exec (.vbcl d a b p e) s = .next (s.pastX t)) ∧
       (s2.WritesV d 32 (s.here.preg p) (ofElems 32 fun k => if lane 32 y k < 128 then lane 32 x (lane 32 y k) else 0) t →
         exec (.vperm d a b p e) s = .next (s.pastX t)) ∧
       (s2.WritesV d 32 (s.here.preg p) (ofElems 32 fun k => if lane 32 y 0 ≤ k then lane 32 x (k - lane 32 y 0) else 0) t →
         exec (.vslup d a b p e) s = .next (s.pastX t)) ∧
       (s2.WritesV d 32 (s.here.preg p)
           (ofElems 32 fun k => if k + lane 32 y 0 ≤ 127 then lane 32 x (k + lane 32 y 0) else 0) t →
         exec (.vsldn d a b p e) s = .next (s.pastX t))) ∧
     (s1.WritesV d 8 (s.here.preg p) x t → exec (.vmov d a p e) s = .next (s.pastX t)) ∧
     (s1.WritesV d 8 (s.here.preg p) (~~~x) t → exec (.vnot d a p e) s = .next (s.pastX t)) ∧
     (s1.WritesV d 32 (s.here.preg p) (ofElems 32 fun k => bits (mix64 (s.here.ctl.rngseed ^^^ 0x5851F42D4C957F2D#64 ^^^
         mix64 ((x.setWidth 32 : W32) ++ BitVec.ofNat 32 k))) 63 32) t → exec (.vrand d a p e) s = .next (s.pastX t)) ∧
     (s1.here.q.xq.length < 8 → exec (.vtoa a e) s =
       .next (s.pastX (s1.modHere fun k => { k with q := { k.q with xq := k.q.xq ++ [x.setWidth 64] } }))) ∧
     (8 ≤ s1.here.q.xq.length → exec (.vtoa a e) s = .next (s.modHere (·.stallX .xpush)))) ∧
  (∀ (s s1 s2 t : State) (d q r p : PNo) (a b v : VNo) (e : Bool) (x y : VReg),
     (∀ (i : Instr) (f : Nat → Nat → Bool) (w : PReg), s.ReadsV a x s1 → s1.ReadsV b y s2 →
       (i = .veqF32 d a b p e ∧ f = (fun u v => numEq (codeValue .fp32 u) (codeValue .fp32 v)) ∨
        i = .vltF32 d a b p e ∧ f = (fun u v => numLt (codeValue .fp32 u) (codeValue .fp32 v)) ∨
        i = .vleF32 d a b p e ∧ f = (fun u v => numLt (codeValue .fp32 u) (codeValue .fp32 v) ||
          numEq (codeValue .fp32 u) (codeValue .fp32 v)) ∨
        i = .vunF32 d a b p e ∧ f = (fun u v => codeValue .fp32 u == .nan || codeValue .fp32 v == .nan) ∨
        i = .veqI32 d a b p e ∧ f = (fun u v => decide (u = v)) ∨ i = .vneI32 d a b p e ∧ f = (fun u v => decide (u ≠ v)) ∨
        i = .vltI32 d a b p e ∧ f = (fun u v => decide (sgn 32 u < sgn 32 v)) ∨
        i = .vltUI32 d a b p e ∧ f = (fun u v => decide (u < v))) →
       (∀ j, j < 512 → w.getLsbD j = if active (s.here.preg p) 32 (j / 4) = true then f (lane 32 x (j / 4)) (lane 32 y (j / 4))
         else (s2.here.preg d).getLsbD j) →
       exec i s = .next (s.pastX (s2.modHere (·.setP d w)))) ∧
     exec (.pand d q r e) s = .next (s.pastX (s.modHere (·.setP d (s.here.preg q &&& s.here.preg r)))) ∧
     exec (.por d q r e) s = .next (s.pastX (s.modHere (·.setP d (s.here.preg q ||| s.here.preg r)))) ∧
     exec (.pxor d q r e) s = .next (s.pastX (s.modHere (·.setP d (s.here.preg q ^^^ s.here.preg r)))) ∧
     exec (.pnot d q e) s = .next (s.pastX (s.modHere (·.setP d (~~~s.here.preg q)))) ∧
     exec (.pmov d q e) s = .next (s.pastX (s.modHere (·.setP d (s.here.preg q)))) ∧
     (s.WritesV v 8 allOn (.ofNat 4096 ((List.range 128).countP fun i => (s.here.preg q).getLsbD (4 * i))) t →
       exec (.ppopc v q e) s = .next (s.pastX t)) ∧
     (∀ n, ((∀ i, i < 128 → (s.here.preg q).getLsbD (4 * i) = false) ∧ n = 0xFFFFFFFF ∨ n < 128 ∧
         (s.here.preg q).getLsbD (4 * n) = true ∧ ∀ i, i < n → (s.here.preg q).getLsbD (4 * i) = false) →
       s.WritesV v 8 allOn (.ofNat 4096 n) t → exec (.pffs v q e) s = .next (s.pastX t)) ∧
     (s.WritesV v 8 allOn (byteMask (s.here.preg q)) t → exec (.vfromp v q e) s = .next (s.pastX t)) ∧
     (∀ k : Core, k.preg 0#4 = BitVec.allOnes 512 ∧ (∀ u, k.setP 0#4 u = k) ∧ ∀ u, d ≠ 0#4 → (k.setP d u).preg d = u))

/-- R189-R194, R196, R97, R98: conversions and packing act on 128 elements, lowest first, at the widths of their formats; VQNT
also writes its partner's row entry and VDQNT reads it; VSGN and VHAM read vd; a reduction writes the
whole of vd; VRMAX and VRMIN give the greatest or least active lane that is no NaN, the lowest of equal ones, a quiet NaN where
all are NaN and the far infinity where none is active. -/
def Obligations.VectorConversionsAndReductions : Prop :=
  ∀ (s s1 s2 t : State) (d a : VNo) (p : PNo) (e sat : Bool) (f g : Elem) (m : Rmode) (x z : VReg), s.ReadsV a x s1 →
    (∀ r : Nat → Nat × Flags, (∀ k, r k = convert f sat m (s.here.srh k) (codeValue g (lane (elemWidth g) x k))) →
      (s1.raise (((List.range 128).map r).foldl (fun u q => u ||| q.2) 0#6)).WritesV d 8 allOn
        (packV (elemWidth f) ((List.range 128).map fun k => (r k).1)) t →
      exec (.vcvt d a sat f g m e) s = .next (s.pastX t)) ∧
    (∀ cs en fl, d.toNat < 55 → (cs, en, fl) = quantise f m s.here.srh ((List.range 128).map fun k =>
        colScaled (lane 32 x k) (.ofNat 8 (lane 8 (s.here.vreg (d + 1)) (128 + k)))) →
      (s1.raise fl).WritesV d 8 allOn (packV (elemWidth f) cs) t →
      exec (.vqnt d a f m e) s = .next (s.pastX (t.modHere fun k =>
        k.setV (d + 1) ((s.here.vreg (d + 1) &&& ~~~0xFFFFFFFF#4096) ||| en.setWidth 4096)))) ∧
    (∀ r : Nat → Nat × Flags, a.toNat < 55 → (∀ k, r k = convert .fp32 false .rne 0 (scaledValue f (lane (elemWidth f) x k)
        ((s.here.vreg (a + 1)).setWidth 16) (.ofNat 8 (lane 8 (s.here.vreg (a + 1)) (128 + k))))) →
      (s1.raise (((List.range 128).map r).foldl (fun u q => u ||| q.2) 0#6)).WritesV d 8 allOn (ofElems 32 fun k => (r k).1) t →
      exec (.vdqnt d a f e) s = .next (s.pastX t)) ∧
    ((s1.raise 0#6).WritesV d 8 allOn (packV (elemWidth f) ((List.range 128).map fun k => lane 32 x k % 2 ^ elemWidth f)) t →
      exec (.vpack d a f e) s = .next (s.pastX t)) ∧
    ((s1.raise 0#6).WritesV d 8 allOn (ofElems 32 fun k => lane (elemWidth f) x k) t →
      exec (.vunpk d a f e) s = .next (s.pastX t)) ∧
    (s1.ReadsV d z s2 →
      (s2.WritesV d 8 allOn (ofElems 32 fun k => if k < 16 then
          256 - (List.range 256).countP fun j => x.getLsbD (256 * k + j) != z.getLsbD j else 0) t →
        exec (.vham d a e) s = .next (s.pastX t)) ∧
      (∀ fl, ((∃ k, k < 128 ∧ codeValue .fp32 (lane 32 x k) = .nan) ∧ fl = flNV ∨
          (∀ k, k < 128 → codeValue .fp32 (lane 32 x k) ≠ .nan) ∧ fl = 0#6) →
        (s2.raise fl).WritesV d 8 allOn (.ofNat 4096 (z.toNat / 2 ^ 128 % 2 ^ 128 + 2 ^ 128 *
          ofLanes 1 ((List.range 128).map fun k => (ltF32 (lane 32 x k) 0).toNat))) t →
        exec (.vsgn d a e) s = .next (s.pastX t))) ∧
    ((s1.raise (rsumF32 (s.here.preg p) x).2).WritesV d 8 allOn (packV 32 [(rsumF32 (s.here.preg p) x).1]) t →
      exec (.vrsumF32 d a p e) s = .next (s.pastX t)) ∧
    (∀ (mx : Bool) (v n : Nat), (v, n) = redF32 mx (s.here.preg p) x →
      ((s1.raise 0#6).WritesV d 8 allOn (packV 32 [v]) t →
        exec (if mx = true then .vrmaxF32 d a p e else .vrminF32 d a p e) s = .next (s.pastX t)) ∧
      ((s1.raise 0#6).WritesV d 8 allOn (packV 32 [v, n]) t →
        exec (if mx = true then .vrmaxiF32 d a p e else .vrminiF32 d a p e) s = .next (s.pastX t)) ∧
      ((∀ k, k < 128 → active (s.here.preg p) 32 k = false) → v = (if mx = true then 0xFF800000 else 0x7F800000) ∧ n = 0xFFFFFFFF) ∧
      ((∃ k, k < 128 ∧ active (s.here.preg p) 32 k = true) →
        (∀ k, k < 128 → active (s.here.preg p) 32 k = true → codeValue .fp32 (lane 32 x k) = .nan) →
        v = 0x7FC00000 ∧ n = 0xFFFFFFFF) ∧
      (∀ k, k < 128 → active (s.here.preg p) 32 k = true → codeValue .fp32 (lane 32 x k) ≠ .nan → n < 128 ∧
        v = lane 32 x n ∧ active (s.here.preg p) 32 n = true ∧ codeValue .fp32 v ≠ .nan ∧
        (mx = true → numLt (codeValue .fp32 v) (codeValue .fp32 (lane 32 x k)) = false ∧
          (k < n → numLt (codeValue .fp32 (lane 32 x k)) (codeValue .fp32 v) = true)) ∧
        (mx = false → numLt (codeValue .fp32 (lane 32 x k)) (codeValue .fp32 v) = false ∧
          (k < n → numLt (codeValue .fp32 v) (codeValue .fp32 (lane 32 x k)) = true)))) ∧
    ((s1.raise 0#6).WritesV d 8 allOn (packV 32 [((List.range 128).map fun k =>
        if active (s.here.preg p) 32 k = true then lane 32 x k else 0).sum % 2 ^ 32]) t →
      exec (.vrsumI32 d a p e) s = .next (s.pastX t)) ∧
    (∀ v n, (v, n) = redI32 (s.here.preg p) x →
      ((s1.raise 0#6).WritesV d 8 allOn (packV 32 [v]) t → exec (.vrmaxI32 d a p e) s = .next (s.pastX t)) ∧
      ((s1.raise 0#6).WritesV d 8 allOn (packV 32 [v, n]) t → exec (.vrmaxiI32 d a p e) s = .next (s.pastX t)) ∧
      ((∀ k, k < 128 → active (s.here.preg p) 32 k = false) → v = 0x80000000 ∧ n = 0xFFFFFFFF) ∧
      (∀ k, k < 128 → active (s.here.preg p) 32 k = true → n < 128 ∧ v = lane 32 x n ∧ active (s.here.preg p) 32 n = true ∧
        sgn 32 (lane 32 x k) ≤ sgn 32 v ∧ (k < n → sgn 32 (lane 32 x k) < sgn 32 v)))

/-- Rounding and what is built on it. R78, R81, R83: a value that a code of the format has is delivered as that code with no flag; a finite
result that does not overflow is a neighbour of the value, the one the mode names, with NX where it differs and UF where it
is an inexact subnormal. R82: at twice the largest magnitude and beyond Table 04.4 holds. R95: sums, differences, products
and fused forms deliver the exact result so rounded. R97: VRSUM.F32 adds neighbours level by level and raises what every addition
raises. R85: a row's exponent is the smallest that brings every element within the format, kept within 0 to 254, and each
element is rounded at it; the row of R87 gives the codes printed there. -/
def Obligations.RoundedResults : Prop :=
  (∀ (t : Elem) (m : Rmode) (h c : Nat) (z : Machine.Num), h < 65536 → c < 2 ^ elemWidth t → (t = .e2m1x → c ≠ 8) →
    numEq z (codeValue t c) = true → z.isNeg = (codeValue t c).isNeg → convert t false m h z = (c, 0#6)) ∧
  (∀ (t : Elem) (m : Rmode) (h n : Nat) (s : Bool) (e : Int), t ≠ .bin1 → h < 65536 →
    (convert t false m h (.fin s n e)).2 &&& (flOF ||| flSAT) = 0#6 →
    ∃ a b f, codeValue t (convert t false m h (.fin s n e)).1 = .fin a b f ∧
      (∀ k, fpFmt t = some k → ((convert t false m h (.fin s n e)).2 &&& flUF ≠ 0#6 ↔ b ≠ 0 ∧
        (convert t false m h (.fin s n e)).1 / 2 ^ k.m % 2 ^ k.x = 0 ∧
        (convert t false m h (.fin s n e)).2 &&& flNX ≠ 0#6)) ∧
      ∀ c a' b' f' lo, c < 2 ^ elemWidth t → codeValue t c = .fin a' b' f' → lo ≤ e → lo ≤ f → lo ≤ f' →
        ∀ V R C : Int, V = toIntAt s n e lo → R = toIntAt a b f lo → C = toIntAt a' b' f' lo →
          ((convert t false m h (.fin s n e)).2 &&& flNX = 0#6 ↔ R = V) ∧
          (C ≤ V → C ≤ R) ∧ (V ≤ C → R ≤ C) ∧
          (m = .rne ∨ m = .rna → (R - V).natAbs ≤ (C - V).natAbs) ∧
          (m = .rne → (R - V).natAbs = (C - V).natAbs → C ≠ R → (convert t false m h (.fin s n e)).1 % 2 = 0) ∧
          (m = .rna → (R - V).natAbs = (C - V).natAbs → C ≠ R → V.natAbs < R.natAbs) ∧
          (m = .rz → R.natAbs ≤ V.natAbs) ∧ (m = .ru → V ≤ R) ∧ (m = .rd → R ≤ V)) ∧
  (∀ (t : Elem) (k : FpFmt) (m : Rmode) (h n : Nat) (s sat : Bool) (e : Int), fpFmt t = some k →
    magGt n e (2 * k.maxM) k.maxE = true →
    codeValue t (convert t sat m h (.fin s n e)).1 =
        (if sat = false ∧ k.hasInf = true ∧ (m = .rne ∨ m = .rna ∨ m = .sr ∨ m = .ru ∧ s = false ∨ m = .rd ∧ s = true) then .inf s
          else .fin s k.maxM k.maxE) ∧
      (convert t sat m h (.fin s n e)).2 = (if sat = false ∧ k.hasInf = true then flOF else flSAT) ||| flNX) ∧
  (∀ (t : Elem) (m : Rmode) (h x y z n : Nat) (s u q w : Bool) (a b c : Nat) (e f k g lo : Int), (t = .fp32 ∨ t = .fp16 ∨ t = .bf16) →
    codeValue t x = .fin s a e → codeValue t y = .fin u b f → codeValue t z = .fin q c k →
    lo ≤ e → lo ≤ f → lo ≤ g → lo ≤ k → lo ≤ e + f → h < 65536 →
    (n ≠ 0 → toIntAt w n g lo = toIntAt s a e lo + toIntAt u b f lo → fpAdd t m h x y = convert t false m h (.fin w n g)) ∧
    (n ≠ 0 → toIntAt w n g lo = toIntAt s a e lo - toIntAt u b f lo → fpSub t m h x y = convert t false m h (.fin w n g)) ∧
    (toIntAt s a e lo + toIntAt u b f lo = 0 → fpAdd t m h x y =
      convert t false m h (.fin (if a = 0 ∧ s = u then s else decide (m = .rd)) 0 0)) ∧
    fpMul t m h x y = convert t false m h (.fin (s != u) (a * b) (e + f)) ∧
    (∀ neg, n ≠ 0 → toIntAt w n g lo = toIntAt q c k lo + toIntAt (neg != (s != u)) (a * b) (e + f) lo →
      fpFma t neg m h x y z = convert t false m h (.fin w n g))) ∧
  (∀ (t : Elem) (m : Rmode) (h x y z : Nat) (s : Bool), (t = .fp32 ∨ t = .fp16 ∨ t = .bf16) → codeValue t x = .inf s →
    (codeValue t y = .inf (!s) → fpAdd t m h x y = (nanCode t, flNV)) ∧
    (codeValue t y = .inf s → fpSub t m h x y = (nanCode t, flNV)) ∧
    ((codeValue t y).isZero = true → fpMul t m h x y = (nanCode t, flNV) ∧ fpFma t false m h y x z = (nanCode t, flNV)) ∧
    (∀ u n e, x < 2 ^ elemWidth t → codeValue t y = .fin u n e → fpAdd t m h x y = (x, 0#6) ∧ fpAdd t m h y x = (x, 0#6))) ∧
  (∀ (p : PReg) (x : VReg), ∃ lv : Nat → Nat → Nat,
    (∀ i, i < 128 → lv 0 i = if active p 32 i = true then lane 32 x i else 0) ∧
    (∀ l i, l < 7 → i < 64 / 2 ^ l → lv (l + 1) i = (fpAdd .fp32 .rne 0 (lv l (2 * i)) (lv l (2 * i + 1))).1) ∧
    (rsumF32 p x).1 = lv 7 0 ∧
    ∀ b, (rsumF32 p x).2.getLsbD b = true ↔ ∃ l i, l < 7 ∧ i < 64 / 2 ^ l ∧
      (fpAdd .fp32 .rne 0 (lv l (2 * i)) (lv l (2 * i + 1))).2.getLsbD b = true) ∧
  (∀ (t : Elem) (m : Rmode) (h : Nat → Nat) (ys : List Machine.Num) (k : FpFmt), t ≠ .e2m1x → fpFmt t = some k →
    (quantise t m h ys).1.length = ys.length ∧
    ((∀ y, y ∈ ys → y = .nan ∨ y.isZero = true) → (quantise t m h ys).2.1 = 0x007F#16 ∧
      ∀ i, i < ys.length → (ys.getD i .nan).isZero = true → (quantise t m h ys).1.getD i 1 = 0) ∧
    ((∃ y, y ∈ ys ∧ y ≠ .nan ∧ y.isZero = false) → ∃ er, er ≤ 254 ∧ (quantise t m h ys).2.1 = .ofNat 16 er ∧
      (er < 254 → ∀ s n e, .fin s n e ∈ ys → magGt n (e + 127 - er) k.maxM k.maxE = false) ∧
      (0 < er → ∃ y, y ∈ ys ∧ ((∃ s, y = .inf s) ∨ ∃ s n e, y = .fin s n e ∧ magGt n (e + 128 - er) k.maxM k.maxE = true)) ∧
      ∀ i, i < ys.length →
        (∀ s n e, ys.getD i .nan = .fin s n e →
          (quantise t m h ys).1.getD i 0 = (convert t true m (h i) (.fin s n (e + 127 - er))).1) ∧
        (∀ s, ys.getD i .nan = .inf s → codeValue t ((quantise t m h ys).1.getD i 0) = .fin s k.maxM k.maxE))) ∧
  (∀ h, quantise .e2m1x .rne h
      [.fin false 3 (-2), .fin true 3 (-1), .fin false 3 0, .fin false 0 0, .fin false 5 0, .fin true 1 0, .fin false 20 0, .fin false 5 (-1)] =
    ([0x2, 0xB, 0x5, 0x0, 0x6, 0xA, 0x8, 0x4], 0x5A7F#16, flNX))

/-- R200, R201, R43, R198: XLOOP counts LC down, rotating the register windows and branching while it is not zero; XBR branches
on a non-zero predicate, XJ always, XRDV ends the strand's run, XSETLC loads LC; ACCRD and ACCWR move one row of an
accumulator that no accepted nest uses and ACCZ zeroes the granules of its mask, and all three wait while it is in use. That an ACCWR
with E = 1 and an empty source waits for the granule first is the model's choice (DESIGN CHOICE, log 99; R177 has it trap), and that XLOOP, XBR, XJ, ACCRD and ACCZ
take E = 1 and ignore it is the model's (DESIGN CHOICE, log 116). -/
def Obligations.StrandLoopsAndAccumulators : Prop :=
  ∀ (s s1 t : State) (o : BitVec 18) (p : PNo) (d a : VNo) (e : Bool) (c : BitVec 2) (r : BitVec 7) (m : BitVec 8) (x : VReg),
    (s.here.x.lc ≠ 1 → ∃ k, exec (.xloop o e) s = .next (s.setCore s.cur k) ∧ k.x.lc = s.here.x.lc - 1 ∧
      k.x.vrb = s.here.x.vrb - 1 ∧ k.x.prb = s.here.x.prb - 1 ∧ k.x.pc = s.here.x.pc + o.signExtend 64 * 4 ∧ k.x.v = s.here.x.v ∧
      k.x.p = s.here.x.p ∧ k.a = s.here.a) ∧
    (s.here.x.lc = 1 → ∃ k, exec (.xloop o e) s = .next (s.setCore s.cur k) ∧ k.x.lc = 0 ∧ k.x.vrb = s.here.x.vrb ∧
      k.x.prb = s.here.x.prb ∧ k.x.pc = s.here.x.pc + 4 ∧ k.a = s.here.a) ∧
    exec (.xbr o p e) s = .next (if s.here.preg p = 0 then s.pastX s
      else s.modHere (·.retireX (s.here.x.pc + o.signExtend 64 * 4))) ∧
    exec (.xj o e) s = .next (s.modHere (·.retireX (s.here.x.pc + o.signExtend 64 * 4))) ∧
    exec .xrdv s = .next (s.pastX (s.modHere fun k => { k with x := { k.x with run := .idle } })) ∧
    (s.ReadsV a x s1 → exec (.xsetlc a e) s =
      .next (s.pastX (s1.modHere fun k => { k with x := { k.x with lc := x.setWidth 32 } }))) ∧
    (s.here.accInUse c = true →
      exec (.accrd d c r p e) s = .next (s.modHere (·.stallX (.acc (.ofNat 5 (8 * c.toNat + r.toNat / 16))))) ∧
      exec (.accwr a c r p e) s = .next (s.modHere (·.stallX (.acc (.ofNat 5 (8 * c.toNat + r.toNat / 16))))) ∧
      (m ≠ 0#8 → exec (.accz m c e) s = .next (s.modHere (·.stallX (.acc (.ofNat 5 (8 * c.toNat))))))) ∧
    (s.here.accInUse c = false →
      (s.WritesV d 32 (s.here.preg p) (s.here.accRow c r.toNat) t → exec (.accrd d c r p e) s = .next (s.pastX t)) ∧
      (s.ReadsV a x s1 → ∃ u, exec (.accwr a c r p e) s = .next (s.pastX u) ∧
        u.here.accRow c r.toNat = ((x &&& byteMask (widen 32 (s.here.preg p))) |||
          (s1.here.accRow c r.toNat &&& ~~~byteMask (widen 32 (s.here.preg p)))) ∧
        (∀ y i, i < 128 → (y ≠ c ∨ i ≠ r.toNat) → u.here.accRow y i = s1.here.accRow y i) ∧
        (widen 32 (s.here.preg p) = 0#512 → u = s1)) ∧
      ∃ u, exec (.accz m c e) s = .next (s.pastX u) ∧
        ∀ y i, i < 128 → u.here.accRow y i = if y = c ∧ m.getLsbD (i / 16) = true then 0 else s.here.accRow y i)

/-- R17, R42, R176: no X-strand word, whatever it does, changes a byte of memory, a scalar register of any core or a
counting flag. -/
def Obligations.VectorFrame : Prop :=
  ∀ (s t : State) (w x : W32) (sup : Bool) (i : Instr), decode .x sup w x = .ok i → exec i s = .next t →
    t.mem = s.mem ∧ t.poison = s.poison ∧ ∀ c, (t.core c).a.s = (s.core c).a.s ∧ ∀ f, (t.core c).flag f = (s.core c).flag f

/-! ### Tasks: start, end, stop, save and restore (R13-R33, R313-R342) -/

/-- R15, Table 01.2: a task starts at its code address with FRAME, ARGP, its rank, the gang size, its arguments and the stack pointer in
s1-s4, s8-s15 and s63, every other scalar, vector and predicate register 0 but p0, which reads all ones, every register full, its
ports unbound, no load on its way, no flag counted, no token out, every queue empty, barrier phases and permits 0, no peer
chosen, no fault, wait or error of an earlier task left, and its X-strand idle.

R313, R314, R316, R252: a free core starts the first ready entry that it may, in the lowest free save slot, and the entry leaves
its queue; a gang's members all start at once, rank r on the r-th of the reserved cores; a stage core starts a stage
task once its input item and output slots are there. The reservation pass that every start goes through is the model's
(DEDUCED, log 53), as is what becomes of a stage whose code address breaks R13 (DEDUCED, log 56).

R21, R22, R26, R27, R32, Table 01.3: END commits once everything of its task has finished: the core is idle, its tokens, slots
and accumulators as they stood (R46); in every queue the items that the task popped leave and those that it pushed become
visible behind the committed ones; on a record its patches, its arm and the sum of its decrements act as the table says. A gang
commits only with all of its members at their ends, all their effects at once. That the members' effects on a queue commit in
ascending rank is log 43, and the order of the items behind log 42 (DEDUCED). -/
def Obligations.TasksStartAndEnd : Prop :=
  (∀ (k : Core) (t : TaskInfo),
     (k.started t).a.pc = t.cont.code ∧ (k.started t).reg 1#6 = t.cont.frame ∧ (k.started t).reg 2#6 = t.argp ∧
     (k.started t).reg 3#6 = t.rank.setWidth 64 ∧
     (k.started t).reg 4#6 = (if t.size = 0#8 then 256 else t.size.setWidth 64) ∧
     (∀ i, i < 8 → (k.started t).reg (.ofNat 6 (8 + i)) = t.args.getD i 0) ∧ (k.started t).reg 63#6 = 0x80000 ∧
     (∀ r : Reg, r = 0#6 ∨ 5 ≤ r.toNat ∧ r.toNat ≤ 7 ∨ 16 ≤ r.toNat ∧ r.toNat ≤ 62 → (k.started t).reg r = 0) ∧
     (k.started t).x.run = .idle ∧ (k.started t).a.inTrap = false ∧ (k.started t).hold = none ∧ (k.started t).ctl = {} ∧
     (∀ f, (k.started t).flag f = 0) ∧ (∀ n, ((k.started t).tok n).st = .idle) ∧ (∀ n, ((k.started t).slot n).st = .free) ∧
     (∀ q, (k.started t).lq q = [] ∧ (k.started t).sq .sq0 = [] ∧ (k.started t).sq .sq1 = [] ∧ (k.started t).sq .sq2 = []) ∧
     (k.started t).q = {} ∧ (k.started t).eng = {} ∧ (k.started t).absent = [] ∧
     (k.started t).spm = {} ∧ (k.started t).tlb = k.tlb ∧ (k.started t).occ = .task ∧ (k.started t).info = t ∧
     (∀ n, (k.started t).vreg n = 0) ∧ (k.started t).preg 0#4 = BitVec.allOnes 512 ∧ (∀ n, n ≠ 0#4 → (k.started t).preg n = 0) ∧
     (k.started t).x = {} ∧ (∀ r, (k.started t).isEmpty r = false) ∧ (k.started t).a.pend = [] ∧ (k.started t).a.bad = [] ∧
     (k.started t).a.ports = [] ∧ (∀ g, (k.started t).phaseOf g = 0) ∧ (k.started t).a.permits = 0 ∧
     (k.started t).a.peer = none ∧ (k.started t).a.gbar = none ∧ (k.started t).a.handoff = none ∧ (k.started t).a.begun = [] ∧
     (k.started t).a.scall = none ∧ (k.started t).a.wait = none ∧ (k.started t).a.waitClk = 0 ∧ (k.started t).a.dog = 0 ∧
     (k.started t).a.late = false ∧ (k.started t).a.missed = none ∧ (k.started t).atEnd = false ∧ (k.started t).save = .none ∧
     (k.started t).errs = []) ∧
  (∀ (s : State) (c : CoreId) (p : PartId),
     (∀ k n e t slot l, s.ev.core = c → p = s.partOf c → (s.reserve p).freeCore p c = true →
       ((s.reserve p).part p).firstFor c = some (k, n, e) → e.kind = .task t → t.cont.startable = true →
       (((s.reserve p).part p).ctx t.cont.ctx).freeSlots = slot :: l →
       ∃ u, exec .taskDispatch s = .next u ∧ u.core c = ((s.reserve p).core c).started { t with slot := slot } ∧
         (u.part p).ready k = (((s.reserve p).part p).ready k).eraseIdx n ∧
         (∀ d, d ≠ c → u.core d = (s.reserve p).core d)) ∧
     (∀ i e, s.ev.part = p →
       ((s.reserve p).part p).resvOrder.findSome? (fun i => (((s.reserve p).part p).canStart i).map fun e => (i, e)) = some (i, e) →
       e.kind = .gang i → (((s.reserve p).part p).lrec i).cont.startable = true →
       ∃ u, exec .gangStart s = .next u ∧ ((u.part p).lrec i).st = .running ∧
         ∀ r d slot, (((s.reserve p).part p).resvCores i)[r]? = some d →
           (((s.reserve p).part p).ctx (((s.reserve p).part p).lrec i).ctx).freeSlots[r]? = some slot →
           u.core d = ((s.reserve p).core d).started { (((s.reserve p).part p).lrec i).info i r with slot := slot }) ∧
     ((s.part (s.partOf c)).up = false → s.ev.core = c → exec .stageTaskStart s = .next s) ∧
     (∀ i n e num slot l, s.ev.core = c → p = s.partOf c → (s.part p).up = true → (s.part p).stageOf c = some (i, n) → (s.core c).occ = .idle →
       (s.core c).out = false → (s.part p).stopped = false → ((s.part p).ctx ((s.part p).lrec i).ctx).active = true →
       ((s.part p).lrec i).pipe.stages[n.toNat]? = some e → ((s.part p).ctx ((s.part p).lrec i).ctx).freeSlots = slot :: l →
       (s.part p).stageItem i ((s.part p).lrec i) e = some num →
       ((((s.part p).lrec i).stageInfo i n e slot).cont.startable = true →
         ∃ u, exec .stageTaskStart s = .next u ∧ u.core c = (s.core c).started (((s.part p).lrec i).stageInfo i n e slot) ∧
           u.mem = s.mem) ∧
       ((((s.part p).lrec i).stageInfo i n e slot).cont.startable = false →
         exec .stageTaskStart s = .next (s.queueRecs p [illegalRec c (((s.part p).lrec i).stageInfo i n e slot)])))) ∧
  (∀ (s : State) (c : CoreId), s.ev.core = c →
     (s.canCommit c = true → (s.core c).info.inGang = false →
       ∃ u, exec .endCommit s = .next u ∧ u.core c = (s.core c).vacated ∧ (u.core c).occ = .idle ∧
         (u.core c).eng.tok = (s.core c).eng.tok ∧ (u.core c).eng.slot = (s.core c).eng.slot ∧
         (u.core c).eng.acc = (s.core c).eng.acc ∧ (u.core c).eng.dirty = (s.core c).eng.dirty ∧
         (∀ d, d ≠ c → u.core d = s.core d) ∧
         (∀ q, (u.part (s.partOf c)).queue q = ((s.part (s.partOf c)).queue q).map (·.commit (s.core c).holder)) ∧
         (∀ (i : BitVec 12) (r r1 v : LRec) (effs : List LrEff) (j : Nat), r = (s.part (s.partOf c)).lrec i →
           v = (u.part (s.partOf c)).lrec i → effs = ((s.part (s.partOf c)).slotOf (s.core c).info).effs → j = decsOn i effs →
           r1 = effs.foldl (fun r e => match e with
             | .patch m f v => if m = i then r.patch f v else r
             | .dec _ => r) r →
           (i ≠ (s.core c).info.lrec →
             (r.st = .held (s.core c).holder → r.armed = true →
               (j < r1.jinit.toNat → { v with counts := [] } =
                 { r1 with st := .armed, join := r1.jinit - .ofNat 32 j, armed := false, counts := [] }) ∧
               (r1.jinit.toNat ≤ j → { v with counts := [] } = { r1 with
                   st := .queued, join := 0, left := r1.size, armed := false, counts := [], ovf := r1.ovf || decide (r1.jinit.toNat < j) } ∧
                 ∃ e ∈ (u.part (s.partOf c)).ready r1.prio, e.lrec = i)) ∧
             (r.st = .held (s.core c).holder → r.armed = false →
               { v with counts := [] } = { r1 with st := .idle, ovf := r1.ovf || decide (0 < j), counts := [] }) ∧
             (r.st = .armed → 0 < j →
               (j < r.join.toNat → { v with counts := [] } = { r with join := r.join - .ofNat 32 j, counts := [] }) ∧
               (r.join.toNat ≤ j → { v with counts := [] } = { r with
                   st := .queued, join := 0, left := r.size, counts := [], ovf := r.ovf || decide (r.join.toNat < j) } ∧
                 ∃ e ∈ (u.part (s.partOf c)).ready r.prio, e.lrec = i)) ∧
             (r.st = .unbuilt ∨ r.st = .armed ∧ j = 0 → { v with counts := [] } = { r with counts := [] }) ∧
             (r.st ≠ .unbuilt → r.st ≠ .armed → r.st ≠ .held (s.core c).holder → (r.kind ≠ 2#2 ∨ r.st ≠ .running) →
               { v with counts := [] } = { r with ovf := r.ovf || decide (0 < j), counts := [] })) ∧
           (i = (s.core c).info.lrec → r.kind ≠ 2#2 → r.st = .running →
             v.left = r.left - 1 ∧ v.st = (if r.left - 1 = 0 then .idle else .running) ∧ v.ovf = (r.ovf || decide (0 < j))))) ∧
     (∀ (Q : Queue) (h : Nat), (Q.items.map (·.num)).Nodup →
       (Q.commit h).items = (Q.items.filter fun x =>
           x.st != .taken h && x.st != .prov h && x.st != .resvIn h && x.st != .resvOut h) ++
         (Q.items.filter (·.st == .prov h)).map (fun x => { x with st := .ready }) ∧
       (Q.commit h).x = Q.x ∧
       (Q.kind ≠ .rill → (Q.commit h).head = Q.head + Q.items.countP (·.st == .taken h))) ∧
     ((s.core c).info.inGang = true → (s.gangOn (s.partOf c) (s.core c).info).length = (s.core c).gangSize →
       (∀ d ∈ s.gangOn (s.partOf c) (s.core c).info, s.canCommit d = true) →
       ∃ u, exec .gangCommit s = .next u ∧ (∀ d ∈ s.gangOn (s.partOf c) (s.core c).info, (u.core d).occ = .idle) ∧
         (∀ d, d ∉ s.gangOn (s.partOf c) (s.core c).info → u.core d = s.core d) ∧
         (∀ q, (u.part (s.partOf c)).queue q = ((s.part (s.partOf c)).queue q).map fun Q =>
           (s.gangOn (s.partOf c) (s.core c).info).foldl (fun Q d => Q.commit (s.core d).holder) Q) ∧
         (∀ (i : BitVec 12) (r v : LRec) (j : Nat), r = (s.part (s.partOf c)).lrec i → v = (u.part (s.partOf c)).lrec i →
           ((s.gangOn (s.partOf c) (s.core c).info).map fun d => (s.core d).holder).Nodup →
           j = ((s.gangOn (s.partOf c) (s.core c).info).map fun d =>
             decsOn i ((s.part (s.partOf c)).slotOf (s.core d).info).effs).sum →
           (i ≠ (s.core c).info.lrec → r.st = .armed → 0 < j →
             (j < r.join.toNat → { v with counts := [] } = { r with join := r.join - .ofNat 32 j, counts := [] }) ∧
             (r.join.toNat ≤ j → { v with counts := [] } = { r with
                 st := .queued, join := 0, left := r.size, counts := [], ovf := r.ovf || decide (r.join.toNat < j) })) ∧
           (i = (s.core c).info.lrec → r.kind ≠ 2#2 → r.st = .running →
             r.left = (s.gangOn (s.partOf c) (s.core c).info).length → v.left = 0 ∧ v.st = .idle))) ∧
     (s.canCommit c = false → exec .endCommit s = .next s))

/-- R229, R327, R330, R332, R338, R341: a task asked to stop stops at its boundaries with its waits not begun; its image is written and its
cores are vacated, or its save fails and they are; every member of a gang goes with it. A BATCH-ATOMIC that stops at an element
leaves the number of those performed in its record's COUNT (R229). What drains before the image is written
is log 49 (DEDUCED), what the image holds beyond Table 18.9 log 7 (DESIGN CHOICE).

R339, R340, R342, R314: a saved task resumes on a core with what its image's header and eager parts hold, its granules,
tiles and scratchpad lines absent; background fill reads the next absent part from the image, and a part that cannot be read ends
the task's restore. The order of the parts and the engine regions' layout are the model's (DESIGN CHOICE, log 7). -/
def Obligations.TasksAreSavedAndRestored : Prop :=
  (∀ (s : State) (c : CoreId), s.ev.core = c →
     ((s.core c).occ = .task → (s.core c).save = .asked → ((s.core c).a.begun = [] ∨ (s.core c).aFaulted = true) →
       (s.core c).eng.se = [] → ∃ u k, exec .preemptStop s = .next u ∧ u.core c = k ∧ k.save = .stopped ∧ k.a.wait = none ∧
         k.x.wait = none ∧ k.atEnd = false ∧ k.a.pc = (s.core c).a.pc ∧ k.a.s = (s.core c).a.s ∧ k.x.v = (s.core c).x.v ∧
         k.x.pc = (s.core c).x.pc ∧ k.spm = (s.core c).spm ∧ k.eng = { (s.core c).eng with win := k.eng.win } ∧
         (∀ n, k.window? n = ((s.core c).window? n).map fun w => { w with closing := false, done := 0 }) ∧ u.parts = s.parts ∧
         (∀ d, d ≠ c → u.core d = s.core d) ∧ ((∀ ch, ((s.core c).chan ch).busy = false) → u.mem = s.mem) ∧
         ∀ ch v x, s.mem.wf = true → v = (s.core c).chan ch → (∀ d, d ≠ ch → ((s.core c).chan d).busy = false) →
           v.running = true → v.busy = true → s.xlate c (s.core c).ctx .read v.last 64 = .ok x → pteTier x.pte = 0 →
           s.poisoned x.pa = false → rKind (.ofNat 512 (s.mem.get x.pa 64)) = kBatch →
           u.mem.get (x.pa + 60) 4 = v.elem % 2 ^ 32 ∧
           ∀ a, (a < x.pa + 60 ∨ x.pa + 64 ≤ a) → u.mem.read a = s.mem.read a) ∧
     ((∀ d ∈ s.saveSet c, s.drainedForSave d = true) →
       (∀ t, s.ev.flag = false → s.saveCores (s.partOf c) (s.saveSet c) = some t →
         exec .saveImageWrite s = .next (t.evProgress (s.partOf c)) ∧
         ∀ d ∈ s.saveSet c, ((t.evProgress (s.partOf c)).core d).occ = .idle) ∧
       (s.ev.flag = true → ∃ t, exec .saveImageWrite s = .next t ∧ ∀ d ∈ s.saveSet c, (t.core d).occ = .idle))) ∧
  (∀ (s : State) (c : CoreId) (p : PartId), s.ev.core = c →
     (∀ k n e slot t m, p = s.partOf c → (s.reserve p).mayRestore p c = true →
       ((s.reserve p).part p).firstFor c = some (k, n, e) → e.kind = .resume slot →
       State.loadTask ((s.reserve p).modPart p (·.takeEntry k n)) p e.ctx slot c = some (t, m) →
       exec .taskRestore s = .next (t.afterLoad p m c) ∧
         t.core c = coreOfImage ((s.reserve p).core c) (((((s.reserve p).modPart p (·.takeEntry k n)).part p).ctx e.ctx).slotRec slot) m ∧
         (t.core c).absent = absentParts m) ∧
     ((s.core c).absent = [] → exec .backgroundFill s = .next s) ∧
     (∀ q l, (s.core c).absent = q :: l →
       (∀ bs, s.getSave (s.partOf c) (s.core c).info.cont.ctx (s.imageVa (s.partOf c) c + q.1) q.2 = some bs →
         exec .backgroundFill s = .next (s.modCore c fun k => { k.fillPart q.1 bs with absent := k.absent.filter (· != q) })) ∧
       (s.getSave (s.partOf c) (s.core c).info.cont.ctx (s.imageVa (s.partOf c) c + q.1) q.2 = none →
         ∃ t, exec .backgroundFill s = .next t ∧ ∀ d ∈ s.saveSet c, (t.core d).occ = .idle)))

/-- R335-R337, R339, R340: what a save writes, a restore reads back. Where the pages of the half stand at f, none of their bytes
holds an entry of the walk, no line is poisoned, and the task's queues and regions have the sizes that the spec gives them, the
image that State.writeImage left is read by State.readImage, and the core restored from it has the scalar, vector and predicate
registers, control registers, tokens, flags, bitmaps, queues, ports, grammar stack, barrier phases, permits, program counters and
full bits of the saved one; every part but a tile stands in the image as the core held it. Where the bytes of the engines' regions
lie, and what the queue logic keeps beside the image (the task's marks, its hold, its errors), is log 7 (DESIGN CHOICE), which the
clauses over k.parts and on those rest on; that a task holds at most 16 permits is log 111 (DEDUCED). -/
def Obligations.RestoredTasksAreAsSaved : Prop :=
  ∀ (s t : State) (p : PartId) (c : CoreId) (k k0 K : Core) (ctx : BitVec 16) (r : SlotRec) (base : Nat) (f : Nat → Nat),
    s.writeImage p c = some t → k = s.core c → ctx = k.info.cont.ctx → r = (t.part p).slotOf k.info →
    base = ((t.part p).ctx ctx).halfVa k.info.slot (r.half.getD false) →
    (∀ u : State, u.parts = s.parts ∨ u.parts = t.parts → u.dead = s.dead →
      (∀ a, (∀ o, o < 0x110000 → f o ≠ a) → u.mem.read a = s.mem.read a) →
      ∀ o, o < 0x110000 → u.savePa p ctx (base + o) = some (f o)) →
    (∀ o o', o < 0x110000 → o' < 0x110000 → f o = f o' → o = o') →
    (∀ o, o + 1 < 0x110000 → (base + o + 1) % 65536 ≠ 0 → f (o + 1) = f o + 1) →
    (∀ a n, s.poisonedIn a n = false) → s.mem.wf = true → k.absent = [] →
    k.info.cont.live.toNat ≤ 4096 → k.info.cont.spill.toNat ≤ 512 →
    (∀ q ∈ k.parts, q.1 < 0x50000 ∨ 0x90000 ≤ q.1 ∨ q.1 + q.2.length ≤ 0x90000) →
    (∀ q, (k.lq q).length ≤ 4) → (∀ q, (k.sq q).length + (k.heldOf q).length ≤ 3) →
    k.q.iq.length + k.inFlight.length ≤ 3 → k.q.xq.length ≤ 8 → k.eng.gstk.length ≤ 8 → k.eng.me.cmds.length ≤ 2 →
    (∀ g, k.phaseOf g < 2 ^ 32) → k.a.pc.toNat % 4 = 0 → k.x.pc.toNat % 4 = 0 → k.ctl.tpc.toNat % 4 = 0 →
    k.ctl.tvec.toNat % 4 = 0 → k.ctl.tvec.toNat < 2 ^ 56 → k.a.permits.toNat ≤ 16 →
    (∃ m, t.readImage p ctx k.info.slot r = some m ∧ (K = coreOfImage k0 r m →
      K.occ = .task ∧ K.info = k.info ∧ K.hold = k.hold ∧ K.errs = k.errs ∧ K.ctl = { k.ctl with recent := 0 } ∧
      (∀ n, isPort n = false → K.reg n = k.reg n) ∧ (∀ n, K.vreg n = k.vreg n) ∧ (∀ n, K.preg n = k.preg n) ∧
      K.a.pc = k.a.pc ∧ K.x.pc = k.x.pc ∧ K.x.vrb = k.x.vrb ∧ K.x.prb = k.x.prb ∧ K.x.lc = k.x.lc ∧
      (k.x.trap = none → K.x.run = k.x.run ∧ K.x.trap = none) ∧
      K.a.inTrap = k.a.inTrap ∧ K.a.bad = k.a.bad ∧ K.a.begun = k.a.begun ∧ K.a.gbar = k.a.gbar ∧
      K.a.handoff = k.a.handoff ∧ K.a.scall = k.a.scall ∧ K.a.missed = k.a.missed ∧ K.a.permits = k.a.permits ∧
      (∀ g, K.phaseOf g = k.phaseOf g) ∧ (∀ n, n < 7 → Tbl.find? K.a.ports n = Tbl.find? k.a.ports n) ∧
      (∀ n, n < 32 → K.tok n = k.tok n) ∧ (∀ n, K.flag n = k.flag n) ∧
      (∀ n, n < 8 → Tbl.get 0#128 K.eng.cb n = Tbl.get 0#128 k.eng.cb n) ∧ K.eng.gstk = k.eng.gstk ∧
      (∀ q, (K.lq q).map (fun e => (e.data, e.bad)) = (k.lq q).map (fun e => (e.data, e.bad))) ∧
      (∀ q, K.sq q = k.sq q) ∧ K.q.iq = k.q.iq ∧ K.q.xq = k.q.xq ∧
      (∀ n, n < 4096 → K.spm.isFull n = (k.spm.isFull n && k.ownLines.contains n)))) ∧
    (∀ q ∈ k.parts, (q.1 < 0x50000 ∨ 0x90000 ≤ q.1) → t.getSave p ctx (base + q.1) q.2.length = some q.2)

/-- R19, R170, R162, R166-R168: a wait ends as its condition holds; a limited wait whose L clk have passed without it takes the trap of its
instruction, with the values that R162 and R166-R168 give it (QTIMEOUT's indices are log 18, DEDUCED). R24: a strand that has waited
for its watchdog's limit faults TASK_TIMEOUT, and so does a strand of a held task in the clk of the fault that holds it: log 91 (DEDUCED). -/
def Obligations.WaitsEndOrTrap : Prop :=
  ∀ (s : State) (c : CoreId), s.ev.core = c →
    (∀ w, s.ev.st = .a → (s.core c).a.wait = some w → s.waitOver c w = true →
      exec .stallRelease s = .next (s.modCore c fun k => { k with a := { k.a with wait := none, waitClk := 0 } })) ∧
    (∀ w, s.ev.st = .x → (s.core c).x.wait = some w → s.waitOver c w = true →
      exec .stallRelease s = .next (s.modCore c fun k => { k with x := { k.x with wait := none } })) ∧
    (s.canRun c .a = true →
      (∀ q L, (s.core c).a.wait = some (.qwait q L) → L.toNat ≤ (s.core c).a.waitClk → s.waitOver c (.qwait q L) = false →
        exec .qtimeout s = .next (s.takeTrap c (State.qtimeoutTrap { s with cur := c } q))) ∧
      (∀ f thr L, (s.core c).a.wait = some (.fwait f thr L) → L.toNat ≤ (s.core c).a.waitClk → (s.core c).flag f < thr →
        exec .fwaitTimeout s = .next (s.takeTrap c
          { code := 0x04#8, t0 := f.setWidth 64, t1 := ((s.core c).flag f).setWidth 64, t2 := thr.setWidth 64 })) ∧
      (∀ n L, (s.core c).a.wait = some (.twait n L) → L.toNat ≤ (s.core c).a.waitClk → ((s.core c).tok n.toNat).st = .pending →
        exec .twaitTimeout s = .next (s.takeTrap c { code := 0x05#8, t0 := n.setWidth 64 })) ∧
      (∀ g L i G, (s.core c).a.wait = some (.gwait g L) → L.toNat ≤ (s.core c).a.waitClk →
        State.slotGroup { s with cur := c } g 1#2 = some (i, G) → G.phase < (s.core c).phaseOf g →
        exec .gwaitTimeout s = .next (s.takeTrap c
          { code := 0x0A#8, t0 := g.setWidth 64, t1 := i.setWidth 64, t2 := .ofNat 64 G.arrivals }))) ∧
    ((s.core c).occ = .task → ((s.core c).hold = none ∨ ∃ h, (s.core c).hold = some h ∧ s.ev.st ∈ h.left ∧ h.clk = s.clk) →
      (s.core c).save ≠ .stopped →
      (s.part (s.partOf c)).stopped = false → (s.core c).dogLimit ≤ (if s.ev.st = .a then (s.core c).a.dog else (s.core c).x.dog) →
      ∀ f : Flt, f = { code := .taskTimeout, i0 := if s.ev.st = .x then 1 else 0, i1 := .ofNat 64 (s.core c).dogLimit } →
        exec .taskTimeout s = .next (s.takeFault c s.ev.st f))

/-- R320: a stamped long form that waits for its tick issues in the tick FC reaches it, as the instruction itself: ME.GO, ME.MSK,
CE.GO and SE.SEL with room in their engine and operands in range are accepted in that tick, as without a stamp; once FC has passed the stamp, or the
stamp lies outside the frame, it takes the trap STAMP_OVERRUN with the stamp, FC and the case; issued again after that trap it
waits for the stamp's tick of the next frame (DEDUCED, log 26).

R178, R172, R304: the X-strand's REG_EMPTY is taken at the A-strand's boundary, with the register, the X-strand's PC and 1 as its values, while the A-strand is in no
trap; with TVEC 0 the task is held with it. -/
def Obligations.StampsAndExecuteStrandTrap : Prop :=
  (∀ (s : State) (c : CoreId), s.ev.core = c → s.canRun c .a = true →
     (∀ i t, (s.core c).a.wait = some .stamp → (s.core c).ctl.fc = (Ext.ofWord (s.core c).a.ext).stamp → s.fetch c .a = .run i t →
       isLongWord (t.core c).a.ir = true → exec .stampIssue s = exec i t) ∧
     (∀ t x, (s.core c).a.wait = some .stamp → (s.core c).ctl.fc = (Ext.ofWord (s.core c).a.ext).stamp → s.fetch c .a = .run .meGo t →
       t.here.eng.me.cmds.length < 2 → x = Ext.ofWord t.here.a.ext → t.accepts x = true → t.here.goCheck t.here.shadowAll = none →
       exec .stampIssue s = .next (t.pastA ((t.modHere (·.acceptNow x)).modHere (·.modMe fun m =>
         { m with goes := m.goes + 1, splits := m.splits + (cfgSplit t.here.shadowAll).toNat, cmds := m.cmds ++
           [MeCmd.mk (.go t.here.shadowAll t.here.eng.me.goes) (t.here.toks x) m.splits] })) 8)) ∧
     (∀ t t1 a e x v, (s.core c).a.wait = some .stamp → (s.core c).ctl.fc = (Ext.ofWord (s.core c).a.ext).stamp →
       t.clear [a] [] = true → t.Reads a v t1 → t1.accepts x = true →
       (s.fetch c .a = .run (.meMsk a e x) t → t1.here.eng.me.cmds.length < 2 → v.toNat + 2048 ≤ 0x80000 → v.toNat % 128 = 0 →
         exec .stampIssue s = .next (t.pastA ((t1.modHere (·.acceptNow x)).modHere (·.modMe fun M =>
           { M with cmds := M.cmds ++ [MeCmd.mk (.msk (v.setWidth 19)) (t1.here.toks x) M.splits] })) 8)) ∧
       (∀ d, s.fetch c .a = .run (.ceGo d a e x) t → d.toNat < 4 → v.toNat < 2 ^ 56 → v.toNat % 64 = 0 →
         (t1.here.chan (d.setWidth 2)).held.length < 2 →
         exec .stampIssue s = .next (t.pastA ((t1.modHere (·.acceptNow x)).modHere fun k =>
           k.setChan (d.setWidth 2) { k.chan (d.setWidth 2) with
             held := (k.chan (d.setWidth 2)).held ++ [{ first := v, tok := t1.here.toks x }] }) 8)) ∧
       (s.fetch c .a = .run (.seSel a e x) t → t1.here.eng.se.length < 4 → v.toNat + 64 ≤ 0x80000 → v.toNat % 64 = 0 →
         exec .stampIssue s = .next (t.pastA ((t1.modHere (·.acceptNow x)).modHere fun k =>
           k.seAdd (.sel (v.setWidth 19)) (t1.here.toks x)) 8))) ∧
     (∀ x, x = Ext.ofWord (s.core c).a.ext → (s.core c).a.wait = some .stamp → isLongWord (s.core c).a.ir = true →
       (s.core c).detm = true → x.stamp ≠ 0xFFF#12 →
       ((s.core c).a.late = true ∨ x.stamp < (s.core c).ctl.fc ∧ (s.core c).a.missed ≠ some (s.core c).a.pc ∨ (s.core c).ctl.flen ≠ 0#12 ∧ (s.core c).ctl.flen ≤ x.stamp) →
       ∃ q : Trap, exec .stampOverrun s = .next (s.takeTrap c q) ∧ q.code = trapStamp ∧ q.t0 = x.stamp.setWidth 64 ∧
         q.t1 = (s.core c).ctl.fc.setWidth 64 ∧ q.t2 = (if (s.core c).ctl.flen ≤ x.stamp then 1 else 0) ∧ q.t3 = 0 ∧
         q.after = false) ∧
     (∀ x, x = Ext.ofWord (s.core c).a.ext → (s.core c).a.late = false → (s.core c).a.missed = some (s.core c).a.pc →
       x.stamp ≠ (s.core c).ctl.fc → ((s.core c).ctl.flen = 0#12 ∨ x.stamp < (s.core c).ctl.flen) →
       exec .stampOverrun s = .next s ∧ exec .stampIssue s = .next s)) ∧
  (∀ (s : State) (c : CoreId) (r : BitVec 6), s.ev.core = c → s.xTrapReady c = true → (s.core c).x.trap = some r →
     ((s.core c).ctl.tvec ≠ 0 → ∃ k, exec .xTrapTake s = .next (s.setCore c k) ∧ k.a.pc = (s.core c).ctl.tvec ∧
       k.ctl.tpc = (s.core c).a.pc ∧ k.ctl.tcause = trapRegEmpty ∧ k.ctl.tinfo0 = r.setWidth 64 ∧
       k.ctl.tinfo1 = (s.core c).x.pc ∧ k.ctl.tinfo2 = 1 ∧ k.a.inTrap = true ∧ k.x.taken = true ∧ k.x.pc = (s.core c).x.pc ∧
       k.a.s = (s.core c).a.s) ∧
     ((s.core c).ctl.tvec = 0 → (s.core c).isSup = false → ∃ t, exec .xTrapTake s = .next t ∧
       (t.core c).hold = some { kind := .escalated, code := trapRegEmpty, strand := .x }))

/-! ### The fault ring, the supervisor's events and hardware errors (R116, R294-R306, R381) -/

/-- R294-R297, R303: the record at the head of the queue is written whole at FRPI's place with its number, then FRPI passes it, which arms
an event or sets PEND inside a handler whatever EE is (DEDUCED, log 62); with no room nothing is written, nor outside the partition's own memory (DEDUCED, log 93), and a
gang's records wait until every member has stopped; a FAULT record waits for the clk of its fault, and an atomic that the task had begun, to end on its core (DEDUCED, log 91). A record that holds a task is outstanding until
it is answered. A report leaves its die's queue in the same way.

R295, R306: the supervisor core at a boundary takes a waiting ring event, or its own fault outside a handler: SEPC, SCAUSE
and INEV are set and it goes to SVEC with its registers as they are; a fault inside a handler stops the partition. An X-strand's fault
waits while the A-strand stands within an atomic that has begun (DEDUCED, log 16). That a fault is taken whatever EE is, is the model's
choice between R295 and R306: log 102 (DESIGN CHOICE).

R116, R296, R381, R382: an error report poisons its line and joins its die's queue of 64, or sets LOST when that is full; an on-chip error is
counted, and one that is not corrected marks what it hit; a scrub counts what it finds. That ERRU counts every error that is not corrected,
an operand slot's parity error among them, is the model's reading (DEDUCED, log 65). An error in either half of an FP32 pair marks
the pair's even slot. -/
def Obligations.FaultRecordsEventsAndErrors : Prop :=
  (∀ (s : State) (p : PartId) (r : RingRec) (l : List RingRec), s.ev.part = p → (s.part p).up = true →
     (s.ev.flag = false → (s.part p).sup.ring = r :: l → (∀ q, l.head? = some q → q.kind ≠ 4#8) → (s.part p).sup.room 1 = true →
       (s.part p).ringFits (s.part p).sup = true → (r.kind = 0#8 → s.clkOver r.core = true ∧
         ((s.core r.core).hold = none ∨ (s.core r.core).a.begun = [] ∨ (s.core r.core).aFaulted = true)) →
       ∃ u, exec .faultRecordWrite s = .next u ∧ (u.part p).sup.frpi = (s.part p).sup.frpi + 1 ∧ (u.part p).sup.ring = l ∧
         (s.mem.wf = true → u.mem.readN ((s.part p).sup.frbase.toNat + 64 * ((s.part p).sup.frpi.toNat % (s.part p).sup.ringSize)) 64 =
           leBytes 64 (r.body.toNat / 2 ^ 32 * 2 ^ 32 + (s.part p).sup.frpi.toNat % 2 ^ 32)) ∧
         ((s.part p).sup.inev = true → (u.part p).sup.pend = true) ∧
         ((s.part p).sup.ee = true → (s.part p).sup.inev = false → (u.part p).sup.arm = true) ∧
         (r.kind.toNat ≤ 2 → ∃ o, (u.part p).sup.out = (s.part p).sup.out ++ [o] ∧
           o.seq = (s.part p).sup.frpi.setWidth 32 ∧ o.kind = r.kind ∧ o.slots = r.slots) ∧ u.cores = s.cores) ∧
     (s.ev.flag = false → (s.part p).sup.room (firstGroup (s.part p).sup.ring).1.length = false ∨
       (s.part p).ringFits (s.part p).sup = false →
       exec .faultRecordWrite s = .next s) ∧
     (s.ev.flag = false → (s.part p).sup.ring = r :: l → (∃ q, l.head? = some q ∧ q.kind = 4#8) →
       r.kind = 0#8 → s.gangStands (s.gangOfRec p r) = false → exec .faultRecordWrite s = .next s) ∧
     (s.ev.flag = false → (s.part p).sup.ring = r :: l → r.kind = 0#8 →
       (∃ h, (s.core r.core).hold = some h ∧ (h.left ≠ [] ∧ h.clk = s.clk ∨ (s.core r.core).a.begun ≠ [] ∧
         (s.core r.core).aFaulted = false)) → exec .faultRecordWrite s = .next s) ∧
     (s.ev.flag = true → Tbl.get [] (s.part p).sup.reports (dieOf s.ev.core).toNat = r :: l → (s.part p).sup.room 1 = true →
       (s.part p).ringFits (s.part p).sup = true →
       ∃ u, exec .faultRecordWrite s = .next u ∧ (u.part p).sup.frpi = (s.part p).sup.frpi + 1 ∧
         Tbl.get [] (u.part p).sup.reports (dieOf s.ev.core).toNat = l)) ∧
  (∀ (s : State) (p : PartId) (c : CoreId), s.ev.part = p → (s.part p).score = c →
     (s.eventReady p = true → ∃ u, exec .supervisorEvent s = .next u ∧ (u.part p).sup.sepc = (s.core c).a.pc ∧
       (u.part p).sup.scause = 0#8 ∧ (u.part p).sup.inev = true ∧ (u.core c).a.pc = (s.part p).sup.svec ∧
       (u.core c).a.s = (s.core c).a.s ∧ u.mem = s.mem) ∧
     (s.eventReady p = false → exec .supervisorEvent s = .next s) ∧
     ((s.part p).up = true → (s.part p).stopped = false → (s.core c).isSup = true → s.partOf c = p →
       (s.ev.st = .a ∨ (s.core c).a.begun = []) →
       ((s.part p).sup.inev = false → ∃ u, exec .supervisorFault s = .next u ∧
         (u.part p).sup.sepc = (s.core c).pcOf s.ev.st ∧ (u.part p).sup.scause = faultNum s.ev.code ∧
         (u.part p).sup.inev = true ∧ (u.core c).a.pc = (s.part p).sup.svec ∧ (u.core c).a.s = (s.core c).a.s ∧ u.mem = s.mem) ∧
       ((s.part p).sup.inev = true → ∃ u, exec .supervisorFault s = .next u ∧ (u.part p).stopped = true ∧
         u.io.msix = s.io.msix ++ [(0#1, 0#3), (1#1, 0#3)] ∧ u.cores = s.cores ∧ u.mem = s.mem))) ∧
  (∀ (s : State) (c : CoreId), s.ev.core = c →
     (∃ u, exec .memoryErrorReport s = .next u ∧ s.ev.v.toNat / 128 ∈ u.poison ∧ u.mem = s.mem ∧ u.cores = s.cores ∧
       ((Tbl.get [] (s.part (s.partOf c)).sup.reports (dieOf c).toNat).length < 64 → ∃ r : RingRec, r.kind = 3#8 ∧
         Tbl.get [] (u.part (s.partOf c)).sup.reports (dieOf c).toNat =
           Tbl.get [] (s.part (s.partOf c)).sup.reports (dieOf c).toNat ++ [r]) ∧
       (64 ≤ (Tbl.get [] (s.part (s.partOf c)).sup.reports (dieOf c).toNat).length → (u.part (s.partOf c)).sup.lost = true)) ∧
     (s.ev.flag = false → exec .onChipError s = .next { s with io := { s.io with errc := s.io.errc + 1 } }) ∧
     (s.ev.flag = true → ∃ u, exec .onChipError s = .next u ∧ u.io.erru = s.io.erru + 1 ∧ u.mem = s.mem ∧
       (s.ev.what = .files → (s.core c).occ ≠ .idle → (u.core c).errs = (s.core c).errs ++ [1#8]) ∧
       (s.ev.what = .accumulators → (s.core c).occ ≠ .idle → (u.core c).errs = (s.core c).errs ++ [3#8]) ∧
       (∀ w, s.ev.what = .scratchpad w → w.toNat ∈ (u.core c).spm.bad) ∧
       (∀ n, s.ev.what = .operandSlot n → ((s.core c).slot n).ready = true → ((u.core c).slot ((s.core c).slotBase n)).bad = true) ∧
       (s.ev.what = .cache → ∀ e ∈ (u.core c).tlb, e.hits s.ev.ctx s.ev.va = false) ∧
       (s.ev.what = .dieTlb → ∀ e ∈ Tbl.get [] u.dieTlb (dieOf c).toNat, e.hits s.ev.ctx s.ev.va = false) ∧
       (∀ n, s.ev.what = .hbm n → n.toNat ∈ u.poison)) ∧
     (s.ev.n = 0#16 → exec .scrub s = .next s) ∧
     (s.ev.n = 1#16 → exec .scrub s = .next { s with io := { s.io with errc := s.io.errc + 1 } }) ∧
     (2 ≤ s.ev.n.toNat → ∃ u, exec .scrub s = .next u ∧ u.io.erru = s.io.erru + 1 ∧ s.ev.v.toNat / 128 ∈ u.poison ∧ u.mem = s.mem))

/-- R297: an answer to an outstanding record of one task on a core ends the hold (RESUME), abandons the task (ABANDON), asks for its save
(SAVE) or returns from its call with s8 and s9 (RETURN), with CSTAT 0; an answer to no outstanding record sets CSTAT 1 or
2 and touches no task. An ABANDON acts on every member of the task's gang (R32); a task that goes on begins the instruction it waited
at anew, its limit in full (R299). Of a gang, log 50 (DEDUCED). There is no RESUME of an escalated trap (R304). An answer to the record of a
saved task goes into its image, and an earlier one of another action is kept beside it: log 51 (DEDUCED). A RETURN within a
handler entered from the SCALL's wait moves TPC past it: log 109 (DESIGN CHOICE). -/
def Obligations.SupervisorAnswers : Prop :=
  ∀ (s : State) (p : PartId) (c : CoreId) (n : BitVec 10), s.ev.part = p →
    (∀ o, (s.part p).sup.out.find? (fun o => o.seq == s.ev.seq) = some o → o.slots = [n] →
      (((s.part p).ctx o.ctx).slotRec n).core = some c →
      (o.kind = 0#8 → (∃ h, (s.core c).hold = some h ∧ h.kind = .escalated) → ∃ u, exec .ccmdResume s = .next u ∧
        (u.part p).sup.cstat = 0#3 ∧ u.core c = s.core c) ∧
      (o.kind = 0#8 → (∀ h, (s.core c).hold = some h → h.kind ≠ .escalated) →
        ∃ u, exec .ccmdResume s = .next u ∧ (u.part p).sup.cstat = 0#3 ∧
        u.core c = { (s.core c).reopen with
          hold := none
          a := { (s.core c).a with dog := 0, wait := none, waitClk := 0, late := false }
          x := { (s.core c).x with dog := 0, wait := none } } ∧
        (∀ q ∈ (u.part p).sup.out, q.seq ≠ s.ev.seq)) ∧
      (o.kind.toNat ≤ 2 → ∃ u, exec .ccmdAbandon s = .next u ∧ (u.part p).sup.cstat = 0#3 ∧ u.core c = (s.core c).vacated ∧
        ((s.core c).info.inGang = true → (s.core c).info.slot = n → (s.core c).info.cont.ctx = o.ctx →
          (∀ d ∈ s.gangOn p (s.core c).info, (((s.part p).ctx o.ctx).slotRec (s.core d).info.slot).core = some d) →
          ∀ d ∈ s.gangOn p (s.core c).info, (u.core d).occ = .idle)) ∧
      (o.kind.toNat ≤ 2 → (s.core c).occ = .task → (s.core c).info.inGang = false → ∃ u, exec .ccmdSave s = .next u ∧
        (u.part p).sup.cstat = 0#3 ∧ ((s.core c).save = .none → (u.core c).save = .asked) ∧
        (u.part p).sup.out = (s.part p).sup.out) ∧
      (o.kind = 2#8 → ∃ u, exec .ccmdReturn s = .next u ∧ (u.part p).sup.cstat = 0#3 ∧
        (u.core c).reg 8#6 = (s.part p).sup.carg0 ∧ (u.core c).reg 9#6 = (s.part p).sup.carg1 ∧
        (u.core c).a.scall = none ∧
        ((s.core c).a.scall = some (s.core c).a.pc → (u.core c).a.pc = (s.core c).a.pc + 4 ∧ (u.core c).a.wait = none) ∧
        ((s.core c).a.inTrap = true → (s.core c).a.scall = some (s.core c).ctl.tpc → (s.core c).ctl.tpc ≠ (s.core c).a.pc →
          (u.core c).a.pc = (s.core c).a.pc ∧ (u.core c).ctl.tpc = (s.core c).ctl.tpc + 4))) ∧
    (∀ o r pa, (s.part p).sup.out.find? (fun o => o.seq == s.ev.seq) = some o → o.slots = [n] → o.ctx ≠ 0#16 → o.kind = 0#8 →
      r = ((s.part p).ctx o.ctx).slotRec n → r.core = none → (s.part p).evrun = none → s.mem.wf = true →
      s.savePa p o.ctx (((s.part p).ctx o.ctx).halfVa n (r.half.getD false)) = some pa →
      ∃ u, exec .ccmdResume s = .next u ∧ (u.part p).sup.cstat = 0#3 ∧ u.cores = s.cores ∧
        u.mem.get (pa + 0x48) 8 = s.ev.seq.toNat + 2 ^ 32 ∧ (u.mem.get (pa + 0x10) 4).testBit 11 = true ∧
        (((u.part p).ctx o.ctx).slotRec n).marks.cmds =
          if (s.mem.get (pa + 0x10) 4).testBit 11 = true
          then (r.marks.cmds ++ [BitVec.ofNat 64 (s.mem.get (pa + 0x48) 8)]).filter fun w => bits w 34 32 != 1
          else []) ∧
    ((s.part p).sup.out.find? (fun o => o.seq == s.ev.seq) = none → ∀ i, i = .ccmdResume ∨ i = .ccmdAbandon ∨ i = .ccmdSave ∨
      i = .ccmdReturn → ∃ u, exec i s = .next u ∧ u.cores = s.cores ∧ u.mem = s.mem ∧
        (u.part p).sup.cstat = if (s.part p).sup.answered.contains s.ev.seq = true then 1#3 else 2#3)

/-! ### Registers and commands of the supervisor and the hosts (R288, R307-R311, R328, R329, R343, R352, R353, R357, R373, R375) -/

/-- R308, R309, R311: BUILD of an UNBUILT record that passes every check makes it IDLE with the fields of its image, one that fails a check
leaves it UNBUILT with OVER as it was and LRRES names the check, and of an IDLE record it first undoes the earlier build, its exit Rills kept, and stays
so undone where the new image fails; a BUILD that passes opens the record's Rills, empty; UNBUILD takes an IDLE record away, all but OVER (R27), and
DRAIN closes a running pipeline's entry Rills, the limit of each one above the highest number that has reached it, or a lower non-zero LIMIT.
A queue that is none of the record's Rills stays as it is, whatever its id. Other states are refused, BUSY or BAD. QCMD opens a queue from its table entry and closes one to which no port is bound.
The order of BUILD's checks is log 58 (DESIGN CHOICE), the limit's count and QCMD's corners are logs 59 and 60 (DEDUCED). -/
def Obligations.RecordsAndQueuesAreBuilt : Prop :=
  ∀ (s : State) (p : PartId) (i : BitVec 12), s.ev.part = p → i = s.ev.n.setWidth 12 →
    (s.mayCommand p s.ev.agent = true →
      (((s.part p).lrec i).st = .unbuilt → (∀ b, s.buildCheck p i = .ok b →
        ∃ u, exec .lrBuild s = .next u ∧ (u.part p).lrec i = { b with st := .idle } ∧
          Tbl.get 0 (u.part p).lrres (agentIx s.ev.agent) = 0 ∧
          ∀ j e, b.pipe.rills[j]? = some e → b.pipe.rills.length ≤ 16 → ∃ z, (u.part p).queue (b.rillId (.ofNat 4 j)) = some z ∧
            z.kind = .rill ∧ z.pipe = some (i, .ofNat 4 j) ∧ z.items = [] ∧ z.depth = e.depth ∧ z.closed = false) ∧
        (∀ e, s.buildCheck p i = .error e → ∃ u, exec .lrBuild s = .next u ∧ ((u.part p).lrec i).st = .unbuilt ∧
          ((u.part p).lrec i).ovf = ((s.part p).lrec i).ovf ∧
          Tbl.get 0 (u.part p).lrres (agentIx s.ev.agent) = .ofNat 64 e)) ∧
      (((s.part p).lrec i).st = .idle →
        (∀ b, (s.unbuild p i).buildCheck p i = .ok b →
          ∃ u, exec .lrBuild s = .next u ∧ (u.part p).lrec i = { b with st := .idle } ∧
            Tbl.get 0 (u.part p).lrres (agentIx s.ev.agent) = 0) ∧
        (∀ e, (s.unbuild p i).buildCheck p i = .error e →
          ∃ u, exec .lrBuild s = .next u ∧ (u.part p).lrec i = { ovf := ((s.part p).lrec i).ovf } ∧
            Tbl.get 0 (u.part p).lrres (agentIx s.ev.agent) = .ofNat 64 e ∧
            ∀ n, (u.part p).queue n = ((s.unbuild p i).part p).queue n) ∧
        ∀ j e z, ((s.part p).lrec i).pipe.rills[j]? = some e → ((s.part p).lrec i).pipe.rills.length ≤ 16 →
          (s.part p).rill i ((s.part p).lrec i) (.ofNat 4 j) = some z →
          ((s.unbuild p i).part p).queue (((s.part p).lrec i).rillId (.ofNat 4 j)) =
            if e.extout = true then some { z with pipe := none, rightA := 1#2 } else none) ∧
      (((s.part p).lrec i).st ≠ .idle → ((s.part p).lrec i).st ≠ .unbuilt →
        ∃ u, exec .lrBuild s = .next u ∧ (u.part p).lrec i = (s.part p).lrec i ∧ u.mem = s.mem ∧
          Tbl.get 0 (u.part p).lrres (agentIx s.ev.agent) = 1) ∧
      (((s.part p).lrec i).st = .idle → ∃ u, exec .lrUnbuild s = .next u ∧
        (u.part p).lrec i = { ovf := ((s.part p).lrec i).ovf } ∧ (∀ n, (u.part p).queue n = ((s.unbuild p i).part p).queue n) ∧
        Tbl.get 0 (u.part p).lrres (agentIx s.ev.agent) = 0) ∧
      (((s.part p).lrec i).st ≠ .idle → ∃ u, exec .lrUnbuild s = .next u ∧ (u.part p).lrec i = (s.part p).lrec i ∧
        Tbl.get 0 (u.part p).lrres (agentIx s.ev.agent) = 1) ∧
      (((s.part p).lrec i).st = .running → ((s.part p).lrec i).kind = kPipe → ∃ u, exec .lrDrain s = .next u ∧
        Tbl.get 0 (u.part p).lrres (agentIx s.ev.agent) = 0 ∧
        ∀ (j : Nat) (e : RillEnt) (z : Queue), ((s.part p).lrec i).pipe.rills[j]? = some e → e.extin = true →
          (s.part p).rill i ((s.part p).lrec i) (.ofNat 4 j) = some z →
          ∃ y, (u.part p).queue (((s.part p).lrec i).rillId (.ofNat 4 j)) = some y ∧ y.closed = true ∧
            (z.closed = false → y.limit = if z.limit = 0 then z.seen else min z.limit z.seen)) ∧
      (∀ (n : BitVec 16) (z : Queue), (s.part p).queue n = some z → (∀ j, z.pipe ≠ some (i, j)) →
        (((s.part p).lrec i).st = .idle → ∃ u, exec .lrUnbuild s = .next u ∧ (u.part p).queue n = some z) ∧
        ∃ u, exec .lrDrain s = .next u ∧ (u.part p).queue n = some z) ∧
      (((s.part p).lrec i).st ≠ .running ∨ ((s.part p).lrec i).kind ≠ kPipe → ∃ u, exec .lrDrain s = .next u ∧
        (u.part p).queues = (s.part p).queues ∧ (u.part p).lrec i = (s.part p).lrec i ∧
        Tbl.get 0 (u.part p).lrres (agentIx s.ev.agent) = 5)) ∧
    (s.mayCommand p s.ev.agent = false → exec .lrBuild s = .next s ∧ exec .lrUnbuild s = .next s ∧ exec .lrDrain s = .next s) ∧
    ((s.part p).queue s.ev.n = none →
      (∀ z, (s.part p).queueOf (fun o n => s.ownGet p ((s.part p).qentry s.ev.n + o) n) = some z →
        ∃ u, exec .queueOpen s = .next u ∧ (u.part p).queue s.ev.n = some z ∧ (u.part p).qres = 0 ∧ u.mem = s.mem) ∧
      ((s.part p).queueOf (fun o n => s.ownGet p ((s.part p).qentry s.ev.n + o) n) = none →
        ∃ u, exec .queueOpen s = .next u ∧ (u.part p).queue s.ev.n = none ∧ (u.part p).qres = 2)) ∧
    (∀ z, (s.part p).queue s.ev.n = some z → s.queueBound p s.ev.n = false →
      ∃ u, exec .queueClose s = .next u ∧ (u.part p).queue s.ev.n = none ∧ (u.part p).qres = 0 ∧ u.mem = s.mem ∧ u.cores = s.cores ∧
        ∀ n, n ≠ s.ev.n → (u.part p).queue n = (s.part p).queue n) ∧
    (∀ z, (s.part p).queue s.ev.n = some z → ∃ u, exec .queueOpen s = .next u ∧ (u.part p).queue s.ev.n = some z ∧ (u.part p).qres = 1) ∧
    (s.queueBound p s.ev.n = true → ∃ u, exec .queueClose s = .next u ∧
      (u.part p).queue s.ev.n = (s.part p).queue s.ev.n ∧ (u.part p).qres = 1)

/-- R352, R353, R357: GRPCMD builds an unbuilt row with the kind and the mask that GRPARG names and unbuilds one that nothing
names; CTXCMD creates a context whose entry and save pages pass their checks, ACTIVE, and destroys one that nothing uses.
The order of failing checks is log 61 (DEDUCED), where an entry must lie is log 93 (DEDUCED). -/
def Obligations.GroupsAndContexts : Prop :=
  ∀ (s : State) (p : PartId) (i : BitVec 8) (k : BitVec 2) (c : BitVec 16), s.ev.part = p →
    (s.ev.n.toNat % 1024 = i.toNat + 256 * k.toNat →
      (∀ m, ((s.part p).group i).built = false → k ≠ 0#2 → s.grpMask p = some m → (s.part p).maskOk m = true →
        ∃ u, exec .groupBuild s = .next u ∧ ((u.part p).group i).built = true ∧ ((u.part p).group i).kind = k ∧
          ((u.part p).group i).mask = m ∧ (u.part p).grpres = 0 ∧ u.mem = s.mem ∧ u.cores = s.cores) ∧
      (((s.part p).group i).built = true → ∃ u, exec .groupBuild s = .next u ∧ (u.part p).group i = (s.part p).group i ∧
        (u.part p).grpres = 1) ∧
      (((s.part p).group i).built = true → s.groupInUse p i = false → ∃ u, exec .groupUnbuild s = .next u ∧
        ((u.part p).group i).built = false ∧ (u.part p).grpres = 0) ∧
      (s.groupInUse p i = true → ∃ u, exec .groupUnbuild s = .next u ∧ (u.part p).group i = (s.part p).group i ∧
        (u.part p).grpres = 1)) ∧
    (s.ev.ctx = c → c ≠ 0#16 → c ≤ (s.part p).nctx → (s.part p).rangePinnable ((s.part p).ctxEntry c) 64 = true →
      (∀ m x, m = (fun o n => s.mem.get ((s.part p).ctxEntry c + o) n) → x = ctxOfEntry m → ((s.part p).ctx c).st = 0#8 →
        (s.part p).entryOk m x = true → s.firstUnpinned { s.part p with ctxs := Tbl.set (s.part p).ctxs c.toNat x } c x = none →
        x.sigcap.toNat ≤ (s.part p).spillcap → ∃ u, exec .ctxCreate s = .next u ∧ (u.part p).ctx c = { x with st := 1#8 } ∧
          (u.part p).spillcap = (s.part p).spillcap - x.sigcap.toNat ∧ (u.part p).ctxres.toNat % 2 ^ 24 = 0) ∧
      (((s.part p).ctx c).st ≠ 0#8 → s.ctxInUse p c = false → ∃ u, exec .ctxDestroy s = .next u ∧
        ((u.part p).ctx c).st = 0#8 ∧ (∀ r ∈ (u.part p).rows, r.ctx ≠ c) ∧
        (u.part p).spillcap = (s.part p).spillcap + ((s.part p).ctx c).sigcap.toNat ∧ (u.part p).ctxres.toNat % 2 ^ 24 = 0) ∧
      (s.ctxInUse p c = true → ∃ u, exec .ctxDestroy s = .next u ∧ (u.part p).ctx c = (s.part p).ctx c ∧
        (u.part p).ctxres.toNat % 2 ^ 24 = 1))

/-- R328, R329, R343, Table 18.5: with no command in progress, SUSPEND turns an ACTIVE context SUSPENDED, holds its records in place and
asks for the save of its tasks; RESUME turns a SUSPENDED one ACTIVE; EXPORT suspends an ACTIVE one, goes on once no task is on a core, and
then writes the sections of Table 18.10 at BADDR and the queues' items to their stores and leaves the context ABSENT with nothing of it in the
queue logic, or answers SPACE, writes nothing and leaves it SUSPENDED; IMPORT of a block of that context that can be read and whose ids the partition gives
leaves an empty context SUSPENDED with the records, ready-queue entries, queues, groups, signature rows and slots that the block lists; a
command on a context in the wrong state is refused. The words after each entry's leading bytes are log 44 (DESIGN CHOICE); what is read,
written and refused in corners is logs 45, 46, 47 and 48 (DEDUCED). -/
def Obligations.ContextsMove : Prop :=
  ∀ (s : State) (p : PartId) (c : BitVec 16), s.ev.part = p → s.ev.ctx = c →
    (s.mayCommand p s.ev.agent = true → (s.part p).evBusy s.ev.agent = false → (s.part p).evrun = none → (s.part p).evwait = [] →
      (((s.part p).ctx c).st = 1#8 →
        (∃ u, exec .evSuspend s = .next u ∧ ((u.part p).ctx c).st = 2#8 ∧ (∀ k, ∀ e ∈ (s.part p).ready k, e ∈ (u.part p).ready k) ∧
          (∀ d, s.partOf d = p → (s.core d).occ = .task → (s.core d).info.cont.ctx = c → (u.core d).save ≠ .none) ∧
          Tbl.get 0 (u.part p).evres (agentIx s.ev.agent) = if s.onCore p c = true then 1 else 0) ∧
        (∃ u, exec .evResume s = .next u ∧ ((u.part p).ctx c).st = 1#8 ∧
          Tbl.get 0 (u.part p).evres (agentIx s.ev.agent) = 2) ∧
        ∃ u r, exec .evExport s = .next u ∧ (u.part p).evrun = some r ∧ r.op = 3#3 ∧ r.ctx = c ∧ r.agent = s.ev.agent ∧
          r.arg = (s.part p).evarg ∧ ((u.part p).ctx c).st = 2#8 ∧ Tbl.get 0 (u.part p).evres (agentIx s.ev.agent) = 1 ∧
          ∀ d, s.partOf d = p → (s.core d).occ = .task → (s.core d).info.cont.ctx = c → (u.core d).save ≠ .none) ∧
      (((s.part p).ctx c).st = 2#8 →
        (∃ u, exec .evResume s = .next u ∧ ((u.part p).ctx c).st = 1#8 ∧
          Tbl.get 0 (u.part p).evres (agentIx s.ev.agent) = 0 ∧ u.cores = s.cores ∧ ∀ k, (u.part p).ready k = (s.part p).ready k) ∧
        (∃ u, exec .evSuspend s = .next u ∧ ((u.part p).ctx c).st = 2#8 ∧
          Tbl.get 0 (u.part p).evres (agentIx s.ev.agent) = 2) ∧
        ∃ u r, exec .evExport s = .next u ∧ (u.part p).evrun = some r ∧ r.op = 3#3 ∧ r.ctx = c ∧ r.agent = s.ev.agent ∧
          r.arg = (s.part p).evarg ∧ ((u.part p).ctx c).st = 2#8 ∧ Tbl.get 0 (u.part p).evres (agentIx s.ev.agent) = 1) ∧
      (∀ i : Instr, i = .evSuspend ∨ i = .evResume ∨ i = .evExport → ((s.part p).ctx c).st ≠ 1#8 → ((s.part p).ctx c).st ≠ 2#8 →
        ∃ u, exec i s = .next u ∧ Tbl.get 0 (u.part p).evres (agentIx s.ev.agent) = 2 ∧ (u.part p).ctx c = (s.part p).ctx c ∧
          u.mem = s.mem ∧ u.cores = s.cores) ∧
      (s.ctxEmpty p c = false ∨ (s.readBlockWords p (s.part p).evarg).bind (readExport c) = none ∨
          (∃ x, (s.readBlockWords p (s.part p).evarg).bind (readExport c) = some x ∧ (s.idsOk p c x = false ∨
            ((s.part p).ctx c).slots.toNat < x.slots.toNat ∨ ((s.part p).ctx c).savebase ≠ x.savebase ∨
            allSome (x.recs.map fun r => s.importRec p r.2) = none ∨
            allSome (x.queues.map fun q => s.importQueue p q.1 q.2) = none)) →
        ∃ u, exec .evImport s = .next u ∧ Tbl.get 0 (u.part p).evres (agentIx s.ev.agent) = 2 ∧ (u.part p).ctx c = (s.part p).ctx c ∧
          u.mem = s.mem ∧ u.cores = s.cores) ∧
      (∀ x recs qs, s.ctxEmpty p c = true → (s.readBlockWords p (s.part p).evarg).bind (readExport c) = some x →
        s.idsOk p c x = true → x.slots.toNat ≤ ((s.part p).ctx c).slots.toNat → ((s.part p).ctx c).savebase = x.savebase →
        allSome (x.recs.map fun r => s.importRec p r.2) = some recs →
        allSome (x.queues.map fun q => s.importQueue p q.1 q.2) = some qs →
        (x.recs.map (·.1)).Nodup → (x.queues.map (·.1)).Nodup → (x.groups.map (·.1)).Nodup → (x.use.map (·.1)).Nodup →
        ∃ u, exec .evImport s = .next u ∧ Tbl.get 0 (u.part p).evres (agentIx s.ev.agent) = 0 ∧ u.cores = s.cores ∧
          ((u.part p).ctx c).st = 2#8 ∧ ((u.part p).ctx c).slots = ((s.part p).ctx c).slots ∧
          (∀ d, d ≠ c → (u.part p).ctx d = (s.part p).ctx d) ∧
          (∀ i r, (i, r) ∈ x.recs → { (u.part p).lrec i with pipe := r.pipe } = r ∧
            (r.kind = kPipe → s.readBlock p r.ctx r.pipep.toNat = some ((u.part p).lrec i).pipe) ∧
            (r.kind ≠ kPipe → (u.part p).lrec i = r)) ∧
          (∀ q z, (q, z) ∈ x.queues → ∃ y, (u.part p).queue q = some y ∧
            { y with items := [], backing := 0 } = { z with items := [], backing := 0 } ∧
            y.items.map (fun i => (i.num, i.st)) = z.items.map fun i => (i.num, i.st)) ∧
          (∀ i G, (i, G) ∈ x.groups → ((u.part p).group i).phase = G.phase ∧ ((u.part p).group i).arrivals = G.arrivals ∧
            ((u.part p).group i).split = G.split) ∧
          (u.part p).rows = (s.part p).rows ++ x.rows ∧
          (∀ n r, (n, r) ∈ x.use → (((u.part p).ctx c).slotRec n).half = r.half ∧ (((u.part p).ctx c).slotRec n).gen = r.gen ∧
            (((u.part p).ctx c).slotRec n).hold = r.hold ∧ (((u.part p).ctx c).slotRec n).effs = r.effs ∧
            (((u.part p).ctx c).slotRec n).marks = r.marks ∧ (((u.part p).ctx c).slotRec n).popped = r.popped) ∧
          (∀ k e, (k, e) ∈ x.ents → ∃ d ∈ (u.part p).ready k, d.ctx = c ∧ d.lrec = e.lrec ∧ d.code = e.code ∧ d.slots = e.slots ∧
            d.waited = e.waited ∧ d.det = e.det))) ∧
    (∀ x : Export, (∃ r ∈ x.recs, r.2.ctx ≠ c) ∨ (∃ q ∈ x.queues, q.2.names c = false) ∨
      (∃ e ∈ x.ents, ∀ r ∈ x.recs, r.1 ≠ e.2.lrec) → s.idsOk p c x = false) ∧
    (∀ (rows : List SigRow) l, (∀ r ∈ rows, r.ctx = c ∧ r.loc = none) →
      rdSec 5 (rdRow c) (section_ 5 (rows.flatMap SigRow.words) ++ l) = some (rows, l)) ∧
    (∀ (i : BitVec 8) G l, G.built = true → G.split = [] → rdGroup (groupWords i.toNat G ++ l) = some ((i, G), l)) ∧
    (∀ (n : BitVec 10) (r : SlotRec) l, r.effs.length < 2 ^ 32 → r.marks.regs.length < 2 ^ 16 → r.marks.lq.length < 2 ^ 16 →
      r.marks.spm.length < 2 ^ 16 → r.marks.errs.length < 2 ^ 16 → r.marks.begun.length < 2 ^ 24 → r.marks.cmds.length < 2 ^ 64 →
      (rdSlot (slotWords n.toNat r ++ l)).map (fun q => (q.1.1, q.1.2.half, q.1.2.gen, q.2)) = some (n, r.half, r.gen, l)) ∧
    (∀ r, (s.part p).evrun = some r → (r.op ≠ 3#3 ∨ s.onCore p r.ctx = true ∨ r.failed = true) → exec .exportBlockWrite s = .next s) ∧
    (∀ r P x ws, (s.part p).evrun = some r → r.op = 3#3 → s.onCore p r.ctx = false → r.failed = false →
      P = { s.part p with rows := (s.part p).rows.map fun w => if w.ctx == r.ctx then { w with loc := none } else w } →
      x = P.exportOf r.ctx → ws = x.words P →
      (∃ l1 l2 l3 l4 l6, ws = [1, 8 * l1.length, 0, 0, 0, 0, 0, 0] ++ l1 ++ ([2, 8 * l2.length, 0, 0, 0, 0, 0, 0] ++ l2) ++
          ([3, 8 * l3.length, 0, 0, 0, 0, 0, 0] ++ l3) ++ ([4, 8 * l4.length, 0, 0, 0, 0, 0, 0] ++ l4) ++
          ([5, 64 * x.rows.length, 0, 0, 0, 0, 0, 0] ++ x.rows.flatMap fun w => toWords 4 w.sig.toNat ++
            [w.page.toNat + w.tag.toNat * 2 ^ 32 + w.age.toNat * 2 ^ 48 + w.bad.toNat * 2 ^ 56, 0, 0, 0]) ++
          ([6, 8 * l6.length, 0, 0, 0, 0, 0, 0] ++ l6) ∧
        l1 = x.ents.flatMap (fun e => entWords P e.1 e.2) ∧ l2 = x.recs.flatMap (fun e => recWords e.1.toNat e.2) ∧
        l3 = x.queues.flatMap (fun e => queueEntWords e.1.toNat e.2) ∧ l4 = x.groups.flatMap (fun e => groupWords e.1.toNat e.2) ∧
        l6 = [x.slots.toNat, x.savebase.toNat] ++ x.use.flatMap fun e => slotWords e.1.toNat e.2) ∧
      (∀ k e, (entWords P k e).take 4 = toWords 4 (P.lrec e.lrec).cont.image) ∧
      (∀ i e, (recWords i e).take 16 = (List.range 16).map fun k => e.image.w8 (8 * k)) ∧
      ((evSize r.arg < 8 * ws.length ∨ P.rangePinnable (evAddr r.arg) (8 * ws.length) = false ∨
          ∃ q ∈ x.queues, P.backed q.2.backing.toNat q.2 = false) →
        ∃ u, exec .exportBlockWrite s = .next u ∧ (u.part p).evrun = none ∧ u.mem = s.mem ∧
          bits (Tbl.get 0 (u.part p).evres (agentIx r.agent)) 15 0 = 5 ∧ (u.part p).ctx r.ctx = (s.part p).ctx r.ctx ∧
          (u.part p).recs = (s.part p).recs ∧ (u.part p).queues = (s.part p).queues ∧ (u.part p).rq = (s.part p).rq ∧
          (u.part p).rows = P.rows) ∧
      (8 * ws.length ≤ evSize r.arg → P.rangePinnable (evAddr r.arg) (8 * ws.length) = true →
        (∀ q ∈ x.queues, P.backed q.2.backing.toNat q.2 = true) →
        ∃ u, exec .exportBlockWrite s = .next u ∧ (u.part p).evrun = none ∧
          bits (Tbl.get 0 (u.part p).evres (agentIx r.agent)) 15 0 = 0 ∧ ((u.part p).ctx r.ctx).st = 3#8 ∧
          ((u.part p).ctx r.ctx).use = [] ∧ (∀ q ∈ (u.part p).rows, q.ctx ≠ r.ctx) ∧
          (∀ q ∈ (u.part p).queues, q.2.names r.ctx = false) ∧ (∀ k, ∀ e ∈ (u.part p).ready k, e.ctx ≠ r.ctx) ∧
          (∀ i, ((s.part p).lrec i).ctx = r.ctx → ((u.part p).lrec i).st = .unbuilt) ∧
          (s.mem.wf = true →
            (∀ a, evAddr r.arg ≤ a → a < evAddr r.arg + 8 * ws.length → a ≠ (s.part p).ctxEntry r.ctx + 24 ∧
              (a < (s.part p).lrpool.toNat ∨ (s.part p).lrpool.toNat + 0x80000 ≤ a)) →
            (∀ i w, ws[i]? = some w → u.mem.get (evAddr r.arg + 8 * i) 8 = w % 2 ^ 64) ∧
            ∀ q z, x.queues = [(q, z)] → z.items ≠ [] →
              (∀ a, z.backing.toNat ≤ a → a < z.backing.toNat + z.items.length * z.esize → a ≠ (s.part p).ctxEntry r.ctx + 24 ∧
                (a < (s.part p).lrpool.toNat ∨ (s.part p).lrpool.toNat + 0x80000 ≤ a) ∧
                (a < evAddr r.arg ∨ evAddr r.arg + 8 * ws.length ≤ a)) →
              u.mem.readN z.backing.toNat (z.items.length * z.esize) = z.backBytes)))

/-- R288, R345, R373, R375, R377: a register write acts on the partition that it names for its supervisor and through a window only on EVARG and,
for the port that holds HSEM, on LRCMD and EVCMD, as the commands do; LRPOOL takes an aligned address whose pool lies in the partition's own pinned HBM while every record is UNBUILT, and the pool's
records then show state 6; TMCFG changes only while no CXL page is resident. A host's write to BAR 2 stores the bytes that it may, and its read
gives those bytes and ones elsewhere; its reads of BAR 0 and of a partition's window give the registers;
elsewhere they give 0: log 89 (PRESUMED). In FAILED neither a window nor BAR 2 takes a write (R378): log 69 (DEDUCED). Where a pool must lie is log 93 (DEDUCED). -/
def Obligations.HostAccess : Prop :=
  ∀ (s : State) (p : PartId) (n : BitVec 12) (a : Nat),
    (s.ev.target = .sup p n → (s.part p).up = true →
      exec .registerWrite s = .next (s.regWrite p .sup n s.ev.v) ∧
      (n = 0x100#12 → ((s.regWrite p .sup n s.ev.v).part p).sup.ee = s.ev.v.getLsbD 0) ∧
      (n = 0x101#12 → ((s.regWrite p .sup n s.ev.v).part p).sup.svec = s.ev.v &&& 0x00FFFFFFFFFFFFFC#64) ∧
      (n = 0x102#12 → ((s.regWrite p .sup n s.ev.v).part p).sup.sepc = s.ev.v &&& ~~~3#64) ∧
      (n = 0x109#12 → ((s.regWrite p .sup n s.ev.v).part p).sup.carg0 = s.ev.v) ∧
      (n = 0x106#12 ∨ n = 0x120#12 ∨ n = 0x124#12 ∨ n = 0x13F#12 ∨ n = 0x144#12 →
        (s.regWrite p .sup n s.ev.v).part p = s.part p) ∧
      (n = 0x140#12 → ((s.ev.v.toNat % 65536 = 0 ∧ (s.part p).rangePinnable s.ev.v.toNat 0x80000 = true ∧
            ∀ r ∈ (s.part p).recs, r.2.st = .unbuilt) →
          ((s.regWrite p .sup n s.ev.v).part p).lrpool = s.ev.v ∧
          (s.mem.wf = true → ∀ i : BitVec 12, (s.regWrite p .sup n s.ev.v).mem.get (s.ev.v.toNat + 128 * i.toNat + 120) 8 = 6)) ∧
        ((s.ev.v.toNat % 65536 ≠ 0 ∨ (s.part p).rangePinnable s.ev.v.toNat 0x80000 = false ∨
            ∃ r ∈ (s.part p).recs, r.2.st ≠ .unbuilt) → s.regWrite p .sup n s.ev.v = s)) ∧
      (n = 0x128#12 → (s.residents p ≠ [] → s.regWrite p .sup n s.ev.v = s) ∧
        (s.residents p = [] → ((s.regWrite p .sup n s.ev.v).part p).tmcfg = s.ev.v.setWidth 16))) ∧
    (∀ port, s.ev.target = .window port p n → s.accepting = true → (s.part p).up = true →
      (n ≠ 0x13D#12 → n ≠ 0x13E#12 → n ≠ 0x141#12 → exec .registerWrite s = .next s) ∧
      (n = 0x13D#12 → exec .registerWrite s = .next (s.modPart p fun P => P.regWrite 0x13D#12 s.ev.v)) ∧
      (n = 0x13E#12 ∨ n = 0x141#12 → s.io.held = false ∨ s.io.owner ≠ port → exec .registerWrite s = .next s) ∧
      (s.io.held = true → s.io.owner = port →
        (n = 0x141#12 → exec .registerWrite s = .next (s.lrcmd p (.port port) s.ev.v) ∧
          (∀ i, i = s.ev.v.setWidth 12 → bits s.ev.v 14 12 = 1 → ((s.part p).lrec i).st = .unbuilt →
            ∀ b, s.buildCheck p i = .ok b → ∃ u, exec .registerWrite s = .next u ∧ (u.part p).lrec i = { b with st := .idle } ∧
              Tbl.get 0 (u.part p).lrres (agentIx (.port port)) = 0) ∧
          (bits s.ev.v 14 12 = 0 ∨ 3 < bits s.ev.v 14 12 → ∃ u, exec .registerWrite s = .next u ∧
            Tbl.get 0 (u.part p).lrres (agentIx (.port port)) = 5 ∧ u.mem = s.mem ∧ (u.part p).recs = (s.part p).recs) ∧
          (s.ev.part = p → s.ev.agent = .port port → s.ev.n.toNat % 4096 = bits s.ev.v 11 0 →
            (bits s.ev.v 14 12 = 1 → exec .registerWrite s = exec .lrBuild s) ∧
            (bits s.ev.v 14 12 = 2 → exec .registerWrite s = exec .lrUnbuild s) ∧
            (bits s.ev.v 14 12 = 3 → exec .registerWrite s = exec .lrDrain s))) ∧
        (n = 0x13E#12 → exec .registerWrite s = .next (s.evcmd p (.port port) s.ev.v) ∧
          ((s.part p).evBusy (.port port) = true → exec .registerWrite s = .next s) ∧
          (∀ c, s.ev.v.toNat = c.toNat + 2 ^ 16 → (s.part p).evBusy (.port port) = false → (s.part p).evrun = none →
            (s.part p).evwait = [] → ((s.part p).ctx c).st = 1#8 → ∃ u, exec .registerWrite s = .next u ∧ ((u.part p).ctx c).st = 2#8 ∧
              Tbl.get 0 (u.part p).evres (agentIx (.port port)) = if s.onCore p c = true then 1 else 0) ∧
          (s.ev.part = p → s.ev.agent = .port port →
            (s.ev.v.toNat = s.ev.ctx.toNat + 2 ^ 16 → exec .registerWrite s = exec .evSuspend s) ∧
            (s.ev.v.toNat = s.ev.ctx.toNat + 2 ^ 16 * 2 → exec .registerWrite s = exec .evResume s) ∧
            (s.ev.v.toNat = s.ev.ctx.toNat + 2 ^ 16 * 3 → exec .registerWrite s = exec .evExport s) ∧
            (s.ev.v.toNat = s.ev.ctx.toNat + 2 ^ 16 * 4 → exec .registerWrite s = exec .evImport s))))) ∧
    (s.io.phase = 7#3 → exec .hostMemoryWrite s = .next s ∧ (∀ port, s.ev.target = .window port p n → exec .registerWrite s = .next s)) ∧
    (s.io.powered = true → s.ev.va.toNat = a →
      (s.io.phase ≠ 7#3 → ∃ u, exec .hostMemoryWrite s = .next u ∧ u.cores = s.cores ∧
        (s.mem.wf = true → ∀ j, j < s.ev.bytes.length → u.mem.read (a + j) =
          if s.barOk s.ev.port (a + j) = true then s.ev.bytes.getD j 0 else s.mem.read (a + j)) ∧
        (∀ b, (b < a ∨ a + s.ev.bytes.length ≤ b) → u.mem.read b = s.mem.read b)) ∧
      ∀ q m, s.ev.target = .sup q m → ∃ u, exec .hostMemoryRead s = .next u ∧ u.mem = s.mem ∧ u.cores = s.cores ∧ u.io.bar2.length = s.ev.n.toNat ∧
        ∀ j, j < s.ev.n.toNat → (s.barOk s.ev.port (a + j) = false → u.io.bar2[j]? = some 0xFF#8) ∧
          (s.barOk s.ev.port (a + j) = true → s.poisoned (a + j) = false → u.io.bar2[j]? = some (s.mem.read (a + j)))) ∧
    (s.io.powered = true →
      (∀ port off, s.ev.target = .io port off → off.toNat % 8 = 0 → (off.toNat < 0x1000 ∨ 0x8000 ≤ off.toNat) → s.ev.n = 8#16 →
        ∃ u, exec .hostMemoryRead s = .next u ∧ u.mem = s.mem ∧ u.cores = s.cores ∧ leNat u.io.bar2 = (s.ioRead port off.toNat).toNat) ∧
      (∀ port q num, s.ev.target = .window port q num → ∃ u, exec .hostMemoryRead s = .next u ∧ u.mem = s.mem ∧ u.cores = s.cores ∧
        leNat u.io.bar2 = (s.windowRead port q num).toNat ∧
        ([0x120#12, 0x148#12, 0x142#12, 0x13F#12, 0x10C#12].contains num = false → leNat u.io.bar2 = 0)))

/-! ### Pages, the Weir, power, snapshots and the controller (R255, R313-R318, R321-R323, R344, R350, R354, R374-R380) -/

/-- R47, R348, R350, R354: a walk leaves its leaf in the core's and the die's TLB and a faulting one leaves nothing (DESIGN CHOICE, log 6: R350 leaves
their contents open); a page-out of a resident page that no task keeps clears RSD, empties the partition's TLBs of every entry that maps the
page, the cores' and the dies', and copies the frame back; a page-in copies the page to a reserved frame that no resident page uses, writes
RSD 1 with HFRAME, empties those TLBs of the page and makes every increment of every requester in the context, and no other (DEDUCED, log 57). Neither touches the page of a device that has dropped off its link (DESIGN CHOICE, log 107). -/
def Obligations.WalksAndResidentPages : Prop :=
  ∀ (s : State) (p : PartId) (c : CoreId),
    (s.ev.core = c →
      (∀ f, s.walk (s.part (s.partOf c)) (s.core c).ctx s.ev.va = .error f → exec .pageWalk s = .next s) ∧
      (∀ l, s.walk (s.part (s.partOf c)) (s.core c).ctx s.ev.va = .ok l → ∃ u, exec .pageWalk s = .next u ∧
        u.mem = s.mem ∧ (u.core c).tlb.head? = some (tlbOf (s.core c).ctx s.ev.va l) ∧ (u.core c).tlb.length ≤ 128 ∧
        tlbOf (s.core c).ctx s.ev.va l ∈ Tbl.get [] u.dieTlb (dieOf c).toNat)) ∧
    (s.ev.part = p → s.mem.wf = true →
      ((s.residents p).find? (fun t => t.ctx == s.ev.ctx && t.va == unitVa s.ev.va) = none → exec .tierPageOut s = .next s) ∧
      (∀ t, (s.residents p).find? (fun t => t.ctx == s.ev.ctx && t.va == unitVa s.ev.va) = some t →
        (t.holders ≠ [] ∨ s.pageDown (s.pteAt t.pteAddr) = true → exec .tierPageOut s = .next s) ∧
        (∀ e src dst, e = s.pteAt t.pteAddr → src = t.hframe.toNat * 65536 → dst = pteFrame e →
          t.holders = [] → pteV e = true → s.pageDown e = false →
          (t.pteAddr + 16 ≤ src ∨ src + 65536 ≤ t.pteAddr) → (t.pteAddr + 16 ≤ dst ∨ dst + 65536 ≤ t.pteAddr) →
          ∃ u, exec .tierPageOut s = .next u ∧ (∀ y ∈ (u.part p).tierPages, y.pteAddr ≠ t.pteAddr) ∧ pteRsd (u.pteAt t.pteAddr) = false ∧
            pteFrame (u.pteAt t.pteAddr) = dst ∧ (∀ j, j < 65536 → u.mem.read (dst + j) = s.mem.read (src + j)) ∧
            (∀ a, (a < t.pteAddr + 8 ∨ t.pteAddr + 16 ≤ a) → (a < dst ∨ dst + 65536 ≤ a) → u.mem.read a = s.mem.read a) ∧
            (∀ d, s.partOf d = p → ∀ x ∈ (u.core d).tlb, pteTier x.pte = 1 → pteFrame x.pte ≠ dst) ∧
            ∀ d : BitVec 2, (s.part p).hasDie d = true → ∀ x ∈ Tbl.get [] u.dieTlb d.toNat, pteTier x.pte = 1 → pteFrame x.pte ≠ dst)) ∧
      (∀ r, r = ({ ctx := s.ev.ctx, va := unitVa s.ev.va } : TierReq) →
        (r ∉ (s.part p).tierReqs → exec .tierPageIn s = .next s) ∧
        (∀ l, s.walk (s.part p) r.ctx r.va = .ok l → notResident l.pte = true → s.pageDown l.pte = true → exec .tierPageIn s = .next s) ∧
        (∀ l f src dst, r ∈ (s.part p).tierReqs → s.walk (s.part p) r.ctx r.va = .ok l → notResident l.pte = true →
          s.pageDown l.pte = false → s.freeFrame p (pteHome l.pte) = some f → src = pteFrame l.pte → dst = f * 65536 →
          (l.addr + 16 ≤ dst ∨ dst + 65536 ≤ l.addr) →
          ∃ u, exec .tierPageIn s = .next u ∧ r ∉ (u.part p).tierReqs ∧
            (∃ t ∈ (u.part p).tierPages, t.ctx = r.ctx ∧ t.va = r.va ∧ t.hframe.toNat = f) ∧
            pteRsd (u.pteAt l.addr) = true ∧ pteHframe (u.pteAt l.addr) = dst ∧
            (∀ j, j < 65536 → u.mem.read (dst + j) = s.mem.read (src + j)) ∧
            (∀ d, s.partOf d = p → ∀ x ∈ (u.core d).tlb, pteTier x.pte = 1 → pteFrame x.pte ≠ src) ∧
            (∀ d : BitVec 2, (s.part p).hasDie d = true → ∀ x ∈ Tbl.get [] u.dieTlb d.toNat, pteTier x.pte = 1 → pteFrame x.pte ≠ src) ∧
            (∀ d, s.partOf d = p → (s.core d).occ ≠ .idle → (s.core d).ctx = r.ctx →
              (u.core d).eng.treq = (s.core d).eng.treq.filter (fun e => e.1 != r.va) ∧
              ∀ n, ((u.core d).flag n).toNat =
                Nat.min (((s.core d).flag n).toNat + (s.core d).eng.treq.countP fun e => e.1 == r.va && e.2 == n) (2 ^ 32 - 1)) ∧
            ∀ d, (s.partOf d ≠ p ∨ (s.core d).occ = .idle ∨ (s.core d).ctx ≠ r.ctx) →
              (u.core d).eng = (s.core d).eng ∧ ∀ n, (u.core d).flag n = (s.core d).flag n)))

/-- R255, R313, R314, R317, R318: at a boundary of the partition's interval aged entries join the next priority, reservations as old as the
interval expire and RILLSL takes its new value; a pipeline of an ACTIVE context whose interval has passed moves a core from the emptiest
stage to the fullest one when their fractions differ by more than 1/8. Reservations, ageing and posted moves are read as logs 53, 54 and 55
say (DEDUCED); that a pipeline counts intervals of its own is log 130 (DESIGN CHOICE). -/
def Obligations.WeirIntervals : Prop :=
  ∀ (s : State) (p : PartId), s.ev.part = p →
    ((s.part p).up = false → exec .weirInterval s = .next s) ∧
    ((s.part p).up = true → (s.part p).weirLen ≤ (s.part p).interval → ∃ u, exec .weirInterval s = .next u ∧
      (u.part p).interval = (s.part p).interval - (s.part p).weirLen ∧
      (u.part p).rillsl.toNat = Nat.min (bits (s.part p).schcfg 19 14) 32 ∧
      (∀ k e, k ≠ 3#2 → e ∈ (s.part p).ready k → e.multi = false → (s.part p).ages e = true →
        { e with waited := 0 } ∈ (u.part p).ready (k + 1)) ∧
      (∀ k e, e ∈ (s.part p).ready k → e.multi = false → (k = 3#2 ∨ (s.part p).ages e = false) → e ∈ (u.part p).ready k) ∧
      (∀ r ∈ (u.part p).resv, r.age < (s.part p).weirLen) ∧ u.mem = s.mem ∧ u.cores = s.cores) ∧
    (∀ i x r, (s.part p).up = true → ((s.part p).pipes.map (·.1)).Pairwise (· < ·) → (i, x) ∈ (s.part p).pipes →
      r = (s.part p).lrec (.ofNat 12 i) → (s.part p).weirLen ≤ x.interval →
      ((s.part p).ctx r.ctx).active = true → x.moves = [] → r.pipe.stages.length ≤ 16 →
      ∀ hi lo, weirHi ((s.part p).stageViews (.ofNat 12 i) r x) = some hi → weirLo ((s.part p).stageViews (.ofNat 12 i) r x) = some lo → hi.ix ≠ lo.ix →
        ((hi.depth * lo.depth : Int) < 8 * ((hi.count * lo.depth : Int) - lo.count * hi.depth) →
          ∃ u y c, exec .weirInterval s = .next u ∧ y = Tbl.get ({} : Pipe) (u.part p).pipes i ∧
            (c, .ofNat 4 lo.ix) ∈ x.cores ∧ ((c, .ofNat 4 hi.ix) ∈ y.cores ∨ (c, .ofNat 4 hi.ix) ∈ y.moves)) ∧
        (8 * ((hi.count * lo.depth : Int) - lo.count * hi.depth) ≤ (hi.depth * lo.depth : Int) →
          ∃ u, exec .weirInterval s = .next u ∧
            Tbl.get ({} : Pipe) (u.part p).pipes i = { x with interval := x.interval - (s.part p).weirLen }))

/-- R321-R323, R383: a free token goes to the first waiting cluster after the last holder; a holder without a nest, or one past its time,
gives its token up while another waits. The cap moves one step per 65,536 clk, 105 °C sends it to level 3 at 600 MHz with one token a ring,
and 115 °C acts as a loss of power. Where a lower T is needed at once, the holders furthest along in ring order lose their tokens until T remain,
and the others count as past their time. The order of the ring's passes and the levels' bookkeeping are read as logs 74 and 75 say (DEDUCED). -/
def Obligations.PowerTokensAndCapLevels : Prop :=
  ∀ (s : State) (d : BitVec 2), d = dieOf s.ev.core →
    (s.waiting d = [] → exec .breezeTokenPass s = .next s ∧ (s.ev.flag = false → exec .breezeForcedPass s = .next s)) ∧
    (s.ev.flag = true → (s.ring d).holding.length ≤ s.tokens d → exec .breezeForcedPass s = .next s) ∧
    (s.ev.flag = true → s.tokens d < (s.ring d).holding.length → ∃ u, exec .breezeForcedPass s = .next u ∧ u.cores = s.cores ∧
      (u.ring d).holding.length = s.tokens d ∧ (u.ring d).last = (s.ring d).last ∧ (∀ x ∈ (u.ring d).held, x.2 = 65536) ∧
      (∀ n ∈ (u.ring d).holding, n ∈ (s.ring d).holding) ∧ ∀ m ∈ (s.ring d).holding, m ∉ (u.ring d).holding →
        ∀ n ∈ (u.ring d).holding, (n + 7 - (s.ring d).last.toNat) % 8 < (m + 7 - (s.ring d).last.toNat) % 8) ∧
    (∀ n l, s.waiting d = n :: l →
      (∀ m, m ∈ (s.ring d).holding → ∃ c ∈ clusterCores d m, (s.core c).hasNest = true) →
        ∃ u, exec .breezeTokenPass s = .next u ∧ u.cores = s.cores ∧ u.ring d =
          if (s.ring d).holding.length < s.tokens d then (s.ring d).take n else s.ring d) ∧
    (∀ m, s.waiting d ≠ [] → (s.ring d).holding.length ≤ s.tokens d →
      ((s.ring d).holding.find? (fun n => (clusterCores d n).all fun c => !(s.core c).hasNest) = some m →
        ∃ u w, exec .breezeTokenPass s = .next u ∧ w ∈ s.waiting d ∧ u.ring d = ((s.ring d).drop m).take w ∧
          ∀ v ∈ s.waiting d, (w + 7 - m) % 8 ≤ (v + 7 - m) % 8) ∧
      (s.ev.flag = false → (s.ring d).holding.find? (fun n => decide (65536 ≤ Tbl.get 0 (s.ring d).held n)) = some m →
        ∃ u w, exec .breezeForcedPass s = .next u ∧ w ∈ s.waiting d ∧ u.ring d = ((s.ring d).drop m).take w ∧
          ∀ v ∈ s.waiting d, (w + 7 - m) % 8 ≤ (v + 7 - m) % 8)) ∧
    (s.power.since < 65536 → exec .capLevelRaise s = .next s ∧ exec .capLevelLower s = .next s) ∧
    (∀ w, w = s.power → 65536 ≤ w.since →
      (w.cap = 0#2 → exec .capLevelRaise s = .next { s with power := { w with cap := 1, since := 0 } } ∧
        exec .capLevelLower s = .next s) ∧
      (w.cap = 1#2 → exec .capLevelRaise s = .next { s with power := { w with cap := 2, cut := w.cut + 1, since := 0 } } ∧
        exec .capLevelLower s = .next { s with power := { w with cap := 0, since := 0 } }) ∧
      (w.cap = 2#2 → (∃ d, s.tokens d ≠ 1) →
        exec .capLevelRaise s = .next { s with power := { w with cut := w.cut + 1, since := 0 } }) ∧
      (w.cap = 2#2 → (∀ d, s.tokens d = 1) →
        exec .capLevelRaise s = .next { s with power := { w with cap := 3, step := 1, since := 0 } }) ∧
      (w.cap = 2#2 → 1 < w.cut → exec .capLevelLower s = .next { s with power := { w with cut := w.cut - 1, since := 0 } }) ∧
      (w.cap = 2#2 → w.cut ≤ 1 → exec .capLevelLower s = .next { s with power := { w with cap := 1, cut := 0, since := 0 } }) ∧
      (w.cap = 3#2 → w.step < 12#4 →
        exec .capLevelRaise s = .next { s with power := { w with step := w.step + 1, since := 0 } }) ∧
      (w.cap = 3#2 → 12#4 ≤ w.step → exec .capLevelRaise s = .next s) ∧
      (w.cap = 3#2 → 1#4 < w.step → exec .capLevelLower s = .next { s with power := { w with step := w.step - 1, since := 0 } }) ∧
      (w.cap = 3#2 → w.step ≤ 1#4 →
        exec .capLevelLower s = .next { s with power := { w with cap := 2, step := 0, since := 0 } })) ∧
    (∃ u, exec .thermalCap s = .next u ∧ u.power.cap = 3#2 ∧ u.power.step = 12#4 ∧ u.cores = s.cores ∧ u.mem = s.mem ∧
      ∀ e, (u.ring e).holding.length ≤ 1 ∧ u.tokens e = 1) ∧
    (∃ u, exec .lossOfPower s = .next u ∧ exec .thermalShutdown s = .next u ∧ u.cores = [] ∧ u.parts = [] ∧ u.io.powered = false)

/-- R355, R356, R374, R376, R378: HSEM goes to a port that finds it free, to the port that is not LASTTIE on a tie, and back at its owner's
release; from its holder FWLOAD takes a good image in phase ROM, SETUP builds the partition of a block and starts its supervisor, and
TEARDOWN returns the dies of a partition without contexts; another port's command is dropped. What makes an image good is not in the spec:
log 10 (DESIGN CHOICE), that a bad one leaves PHASE ROM is log 129 (DESIGN CHOICE); what a bad block or an absent partition answers is log 68 (DEDUCED). No AMORR of the dies' cores stays on its way, and that
neither the torn-down partition nor a new one of its number has anything in the Sluice is log 122 (DESIGN CHOICE).

R380: an enabled trigger makes a capture with the next id, ORs its source into one of the same clk, or counts in SNAPMISS while a capture
is held; writing LOCK frees the window. FAILED takes none of these (DEDUCED, log 69). What the window holds is log 11 (DESIGN CHOICE). -/
def Obligations.ControllerCommandsAndSnapshots : Prop :=
  (∀ (s : State) (n : PortId), s.ev.port = n → s.io.powered = true →
     (s.io.held = true → exec .hsemAcquire s = .next s) ∧
     (s.io.held = false → s.ev.tie = none → ∃ u, exec .hsemAcquire s = .next u ∧ u.io.held = true ∧ u.io.owner = n ∧
       u.io.tag = .ofNat 8 (bits s.ev.v 15 8) ∧ u.io.lasttie = s.io.lasttie) ∧
     (∀ t, s.io.held = false → s.ev.tie = some t → ∃ u, exec .hsemAcquire s = .next u ∧ u.io.held = true ∧
       u.io.owner = ~~~s.io.lasttie ∧ u.io.lasttie = ~~~s.io.lasttie ∧
       u.io.tag = if n = ~~~s.io.lasttie then .ofNat 8 (bits s.ev.v 15 8) else t) ∧
     (s.io.owner ≠ n → exec .hsemRelease s = .next s) ∧
     (s.io.held = true → s.io.owner = n → exec .hsemRelease s = .next { s with io := { s.io with held := false } }) ∧
     ((s.io.held = false ∨ s.io.owner ≠ n ∨ s.io.phase = 7#3) →
       exec .fwload s = .next s ∧ exec .setup s = .next s ∧ exec .teardown s = .next s) ∧
     (s.io.held = true → s.io.owner = n → s.io.phase ≠ 7#3 →
       (∃ u, exec .fwload s = .next u ∧ u.io.mcres = (if s.io.phase ≠ 0#3 then 1#64
           else if freeCrcOk (s.fwImage n) = false then 3#64 else 0#64) ∧
         (u.io.mcres = 0 → u.io.fw = true ∧ u.io.phase = 1#3) ∧ (u.io.mcres ≠ 0 → u.io.phase = s.io.phase) ∧ u.cores = s.cores) ∧
       (∀ a P, a = s.io.mcarg.toNat → P = partOfBlock (fun o m => s.mem.get (a + o) m) →
         (s.io.phase = 2#3 → inHbm (a + 63) = true → s.poisonedIn a 64 = false → s.setupBad (lowestDie P.dies) P = false →
           ∃ u, exec .setup s = .next u ∧ u.io.mcres = 0 ∧ u.part (lowestDie P.dies) = P ∧
             u.core P.score = { occ := .supervisor, a := { pc := P.sentry &&& ~~~3#64 } } ∧ (∀ r ∈ u.amorr, (P.dies).getLsbD (dieOf r.core).toNat = false) ∧
             (s.sl.run = none → (∀ x ∈ u.sl.served, x.part ≠ lowestDie P.dies) ∧ (∀ x ∈ u.sl.trees, x.part ≠ lowestDie P.dies) ∧
               (∀ x ∈ u.sl.reqs, x.part ≠ lowestDie P.dies) ∧ (∀ x ∈ u.sl.relq, x.1 ≠ lowestDie P.dies) ∧ Tbl.find? u.sl.base (lowestDie P.dies).toNat = none) ∧
             ∀ c, P.dies.getLsbD (dieOf c).toNat = true → c ≠ P.score → u.core c = {}) ∧
         (s.io.phase = 2#3 → s.setupBad (lowestDie P.dies) P = true → ∃ u, exec .setup s = .next u ∧ u.io.mcres = 2 ∧
           u.parts = s.parts ∧ u.cores = s.cores)) ∧
       (∀ p, s.ev.part = p → (s.part p).up = true →
         ((s.part p).hasCtx = true → ∃ u, exec .teardown s = .next u ∧ u.io.mcres = 1 ∧ u.parts = s.parts ∧ u.cores = s.cores) ∧
         ((s.part p).hasCtx = false → ∃ u, exec .teardown s = .next u ∧ u.io.mcres = 0 ∧ u.part p = {} ∧
          
           (∀ r ∈ u.amorr, (s.part p).dies.getLsbD (dieOf r.core).toNat = false) ∧
           (s.sl.run = none → (∀ x ∈ u.sl.served, x.part ≠ p) ∧ (∀ x ∈ u.sl.trees, x.part ≠ p) ∧
             (∀ x ∈ u.sl.reqs, x.part ≠ p) ∧ (∀ x ∈ u.sl.relq, x.1 ≠ p) ∧ Tbl.find? u.sl.base (p).toNat = none) ∧
           ∀ c, (s.part p).dies.getLsbD (dieOf c).toNat = true → u.core c = {})))) ∧
  (∀ (s : State) (z : Snap), z = s.io.snap → s.io.powered = true →
     (s.io.phase = 7#3 → exec .snapFire s = .next s ∧ exec .snapPinEdge s = .next s ∧ exec .snapLockFree s = .next s) ∧
     (s.io.phase ≠ 7#3 →
     (∀ (i : Instr) (on : Bool) (src : Word), (i = .snapFire ∧ on = z.host ∧ src = 1#64) ∨ (i = .snapPinEdge ∧ on = z.pin ∧ src = 2#64) →
       (on = false → exec i s = .next s) ∧
       (on = true → ∃ u, exec i s = .next u ∧ u.mem = s.mem ∧ u.cores = s.cores ∧ u.parts = s.parts ∧
         (z.lock = false → u.io.snap.lock = true ∧ u.io.snap.id = z.id + 1 ∧ u.io.snap.miss = z.miss ∧ u.io.snap.cause = src ∧
           u.io.snap.window = windowOf s.freeCtr src) ∧
         (z.lock = true → z.atClk = s.clk → u.io.snap.id = z.id ∧ u.io.snap.miss = z.miss ∧ u.io.snap.cause = z.cause ||| src) ∧
         (z.lock = true → z.atClk ≠ s.clk → u.io.snap = { z with miss := z.miss + 1 }))) ∧
     exec .snapLockFree s = .next { s with io := { s.io with snap := { z with lock := false } } }))

/-- R344, R374, R378, R379: a warm reset clears cores, TLBs and the I/O die and keeps LASTTIE, the firmware, memory and the queue logic; a cold
reset keeps none of the package's own state; registers with a reset value take it (R6). Training lays the devices out and ends in READY, or
FAILED with a code 1-4, where PERST# on one port does nothing, and after a warm reset starts each supervisor at SENTRY. A mapped device's loss
raises vector 1; a failed die's cores leave service and a failed stack's lines are poisoned. What the model starts from, the bring-up's
inputs and what a failure takes are logs 2 (DESIGN CHOICE), 52, 70 and 71 (DEDUCED). PERST# in FAILED rests on log 69 (DEDUCED), and that a base die's failure without a
mirror leaves the partitions whose queue logic has its home elsewhere as they are rests on log 72 (DESIGN CHOICE). -/
def Obligations.ResetsBringUpAndFailures : Prop :=
  ∀ (s : State),
    (∀ i, (i = .warmreset ∧ s.io.powered = true ∧ s.io.held = true ∧ s.io.owner = s.ev.port) ∨
        (i = .perstWarmReset ∧ s.io.powered = true ∧ s.io.phase ≠ 7#3) →
      ∃ u, exec i s = .next u ∧ u.cores = [] ∧ u.dieTlb = [] ∧ u.io.held = false ∧ u.io.hperm = 0 ∧
        u.io.lasttie = s.io.lasttie ∧ u.io.fw = s.io.fw ∧ u.io.warm = true ∧ u.io.phase = (if s.io.fw = true then 1#3 else 0#3) ∧
        (∀ p, (u.part p).up = false ∧ (u.part p).sroot = (s.part p).sroot ∧ (u.part p).sentry = (s.part p).sentry ∧
          (u.part p).sup.ee = false ∧ (u.part p).sup.inev = false ∧ (u.part p).sup.szlog = 8#5 ∧ (u.part p).sup.lost = false ∧
          (u.part p).sup.frpi = 0 ∧ (u.part p).sup.frci = 0 ∧ (u.part p).schcfg = 0x0000000800000110 ∧ (u.part p).evarg = 0 ∧
          (u.part p).lrcmd = 0 ∧ (u.part p).evcmd = 0 ∧ (u.part p).grpcmd = 0) ∧
        ((∀ c, (s.core c).occ ≠ .task) → u.mem = s.mem ∧ ∀ p, (u.part p).recs = (s.part p).recs ∧
          (u.part p).queues = (s.part p).queues ∧ (u.part p).ctxs = (s.part p).ctxs ∧ (u.part p).rows = (s.part p).rows)) ∧
    (s.io.held = false ∨ s.io.owner ≠ s.ev.port → exec .warmreset s = .next s) ∧
    (s.io.phase = 7#3 → exec .perstWarmReset s = .next s) ∧
    (∃ u, exec .coldReset s = .next u ∧ u.cores = [] ∧ u.parts = [] ∧ u.dieTlb = [] ∧ u.sl = {} ∧ u.power = {} ∧
      u.io = { lasttie := s.io.lasttie } ∧ ∀ a, inHbm a = true → u.mem.read a = 0) ∧
    (s.io.powered = true → s.io.phase = 1#3 →
      (∀ c, s.ev.fail = some c → 1 ≤ c.toNat → c.toNat ≤ 4 → ∃ u, exec .bringupTraining s = .next u ∧ u.io.phase = 7#3 ∧ u.io.failcode = c ∧
        u.cores = s.cores ∧ u.parts = s.parts) ∧
      (s.ev.fail = none → ∃ u, exec .bringupTraining s = .next u ∧ u.io.phase = 2#3 ∧ u.io.warm = s.io.warm ∧ u.mem = s.mem ∧
        u.io.cxl = layoutCxl cxlBase (mappedDevs s.ev.devs) ∧
        (s.io.warming = false → u.cores = s.cores ∧ u.parts = s.parts) ∧
        (s.io.warming = true → ∀ p, (s.part p).up = false → (s.part p).dies.getLsbD (dieOf (s.part p).score).toNat = true →
          (∀ q, q ≠ p → (s.part q).dies &&& (s.part p).dies = 0#4 ∧ ((s.part q).dies ≠ 0#4 → (s.part q).score ≠ (s.part p).score)) →
          (u.part p).up = true ∧ u.core (s.part p).score = { occ := .supervisor, a := { pc := (s.part p).sentry &&& ~~~3#64 } }))) ∧
    ((∀ d, s.io.cxl[s.ev.n.toNat]? = some d → d.up = false) → exec .cxlLinkDown s = .next s) ∧
    (∀ e, s.io.cxl[s.ev.n.toNat]? = some e → e.up = true → ∃ u, exec .cxlLinkDown s = .next u ∧ u.io.msix = s.io.msix ++ [(0#1, 1#3), (1#1, 1#3)] ∧ u.cores = s.cores ∧ u.mem = s.mem ∧
      ∀ k d, s.io.cxl[k]? = some d → u.io.cxl[k]? = some (if k = s.ev.n.toNat then { d with up := false } else d)) ∧
    (∀ d, s.ev.unit = .die d → ∃ u, exec .singleDieOrStackFailure s = .next u ∧ ∀ c, dieOf c = d → (u.core c).out = true) ∧
    (∀ k, s.ev.unit = .stack k ∨
        (s.ev.unit = .baseDie k ∧ ∀ p, (s.part p).up = true → (s.part p).schcfg.getLsbD 8 = true ∨ (s.part p).primaryHome ≠ k) →
      ∃ u, exec .singleDieOrStackFailure s = .next u ∧ u.cores = s.cores ∧ u.parts = s.parts ∧
        ∀ a, inHbm a = true → stackOf a = k.toNat → u.poisoned a = true)

/-! ### The Sluice (R358-R372) -/

/-- R8, R364, R366, R372, R374: from the holder of HSEM, ENABLE serves a context whose entry is in range and takes its tree as memory holds it
then, with no byte that another context's tree has; DISABLE stops that, VLOAD and VUNLOAD fill
and free a vocabulary slot and PRUNE removes an old childless node and lists its page; another port's command is dropped, and in FAILED every
one (DEDUCED, log 69). A write of SLCMD under another command waits with its SLARG, and a PRUNE's result comes with its last push to RELQ
(DESIGN CHOICE, log 112). SLBASE takes an address and ignores what its reserved bits are written with (R7). A VUNLOAD of an empty slot and a PRUNE
of a context not served give FIELD; what an entry must hold is read as log 76 says and a pointer to no node of the pool as log 93 says
(DEDUCED). -/
def Obligations.SluiceCommands : Prop :=
  ∀ (s : State) (p : PartId) (c : BitVec 16) (v : Nat), s.ev.part = p → s.ev.ctx = c → v = s.ev.n.toNat % 16 → s.io.powered = true →
    (s.io.phase = 7#3 → exec .slbaseWrite s = .next s) ∧
    (s.io.phase ≠ 7#3 → ∃ u, exec .slbaseWrite s = .next u ∧ u.sl.lastPart.toNat = bits s.ev.v 1 0 ∧
      Tbl.get 0 u.sl.base (bits s.ev.v 1 0) = .ofNat 64 (bits s.ev.v 51 6 * 64) ∧ u.mem = s.mem ∧ u.parts = s.parts) ∧
    (s.io.held = false ∨ s.io.owner ≠ s.ev.port ∨ s.io.phase = 7#3 → ∀ i : Instr,
      i = .enable ∨ i = .disable ∨ i = .vload ∨ i = .vunload ∨ i = .prune → exec i s = .next s) ∧
    (s.io.held = true → s.io.owner = s.ev.port → s.io.phase ≠ 7#3 → s.sl.run.isSome = true → ∀ (i : Instr) op,
      (i, op) ∈ [(.enable, 1), (.disable, 2), (.vload, 3), (.vunload, 4), (.prune, 5)] →
      ∃ w : Word, bits w 2 0 = op ∧ bits w 7 4 = v ∧ bits w 9 8 = p.toNat ∧ bits w 31 16 = c.toNat ∧
        exec i s = .next (s.modSl fun z => { z with waits := z.waits ++ [(w, z.arg)] })) ∧
    (s.io.held = true → s.io.owner = s.ev.port → s.io.phase ≠ 7#3 → s.sl.run = none →
      (∃ u, exec .enable s = .next u ∧
        u.sl.res = (if s.slEntryOk p c = false ∨ s.slQueuesOk p c (s.readEntry p c) = false then 2#64
          else if s.sl.serves p c = true then 1#64 else 0#64) ∧
        (u.sl.res = 0 → u.sl.serves p c = true ∧ ∀ i : BitVec 10, i.toNat < (s.readEntry p c).nslot →
          ∃ z, (u.part p).queue ((s.readEntry p c).oq i) = some z ∧ z.isOutputOf c = true) ∧
        (u.sl.res = 0 → ∃ z, (u.part p).queue (.ofNat 16 (s.readEntry p c).relq) = some z ∧ z.isRelqOf c = true) ∧
        (u.sl.res = 0 → ∃ t, u.sl.treeOf p c = some t ∧ t.entry = (s.readEntry p c).addr ∧ t.root = (s.readEntry p c).root ∧
          t.base = (s.readEntry p c).nodebase ∧ t.count = (s.readEntry p c).nnode ∧
          ∀ n, n ∈ t.nodes → s.mem.get (n + 197) 1 % 2 = 1 ∧ (∃ k, k < t.count ∧ n = t.base + 256 * k) ∧
            ∀ d ∈ s.sl.trees, (d.part ≠ p ∨ d.ctx ≠ c) → d.meets n 256 = false) ∧
        (∀ d ∈ s.sl.trees, (d.part ≠ p ∨ d.ctx ≠ c) → (d.meets (s.readEntry p c).root 256 = true ∨
          d.meets (s.readEntry p c).addr 64 = true) → u.sl.res = 2) ∧
        (u.sl.res ≠ 0 → u.sl.served = s.sl.served ∧ u.sl.trees = s.sl.trees ∧ u.parts = s.parts) ∧ u.mem = s.mem) ∧
      (∀ t, s.sl.treeOf p c = some t → (s.slEntry p c).addr = t.entry ∧ (s.slEntry p c).root = t.root ∧
        (s.slEntry p c).nodebase = t.base ∧ (s.slEntry p c).nnode = t.count ∧
        (s.slEntry p c).nslot = s.ownGet p (t.entry + 10) 2 ∧
        ∀ n, s.isNode ((s.slEntry p c).pool p c) n = true ↔ (n = t.root ∨ n ∈ t.nodes) ∧ n ≠ 0 ∧ (s.part p).ownsBytes n 256 = true) ∧
      (∃ u, exec .disable s = .next u ∧ u.sl.serves p c = false ∧ u.sl.reqs = s.sl.reqs ∧ u.mem = s.mem ∧ u.parts = s.parts ∧
        u.sl.res = if s.sl.serves p c = true then 0 else 1) ∧
      (∃ u, exec .vload s = .next u ∧ u.mem = s.mem ∧
        (∀ w, Tbl.find? s.sl.voc v = some w → u.sl.res = 1 ∧ u.sl.voc = s.sl.voc) ∧
        (Tbl.find? s.sl.voc v = none → s.readVocab s.sl.arg.toNat = none → u.sl.res = 3 ∧ u.sl.voc = s.sl.voc) ∧
        (∀ w, Tbl.find? s.sl.voc v = none → s.readVocab s.sl.arg.toNat = some w →
          u.sl.res = 0 ∧ Tbl.find? u.sl.voc v = some w)) ∧
      (∃ u, exec .vunload s = .next u ∧ u.mem = s.mem ∧ (Tbl.find? s.sl.voc v = none → u.sl.res = 2) ∧
        (∀ w, Tbl.find? s.sl.voc v = some w → ((∃ r ∈ s.sl.reqs, r.vocab.toNat = v) → u.sl.res = 1 ∧ u.sl.voc = s.sl.voc) ∧
          ((∀ r ∈ s.sl.reqs, r.vocab.toNat ≠ v) → u.sl.res = 0 ∧ u.sl.voc = Tbl.erase s.sl.voc v))) ∧
      (s.sl.serves p c = false → ∃ u, exec .prune s = .next u ∧ u.sl.res = 2 ∧ u.mem = s.mem) ∧
      (∀ q n, s.sl.serves p c = true → q = (s.slEntry p c).pool p c → s.nodeChild q q.root = n →
        (s.isNode q n = false → ∃ u, exec .prune s = .next u ∧ u.sl.res = 0 ∧ u.sl.relq = s.sl.relq ∧ u.mem = s.mem) ∧
        (s.isNode q n = true → s.mem.wf = true → (n + 256 ≤ q.root ∨ q.root + 256 ≤ n) → s.nodeNext q n = 0 →
          s.nodeParent q n = q.root → s.nodeV q n = true → s.nodeChild q n = 0 →
          (s.nodeRef q n = 0 → s.nodeStamp q n < s.sl.arg.toNat → ∃ u, exec .prune s = .next u ∧
            u.sl.run = some (.ofNat 64 (2 ^ 32)) ∧ u.sl.res = s.sl.res ∧
            u.sl.relq = s.sl.relq ++ [(p, c, s.nodePage q n, none)] ∧ u.isNode q n = false ∧ u.mem.get (n + 197) 1 = 0 ∧
            u.nodeChild q q.root = 0) ∧
          (s.nodeRef q n ≠ 0 ∨ s.sl.arg.toNat ≤ s.nodeStamp q n → ∃ u, exec .prune s = .next u ∧ u.sl.res = 0 ∧
            u.sl.relq = s.sl.relq ∧ u.mem = s.mem))))

/-- R358, R359, R361, R363: a packet with an unsupported option is dropped and counted, another waits; a request is rejected for its first
failing check with no state behind (the counts wrap at 32 bits: log 123, DESIGN CHOICE), is answered by a copy of the ACCEPT of the request that owns its REQID, or takes a slot with its token
ids in the slot's buffer; then its ACCEPT goes out, and the copies that wait for it, each reply on the packet delivery context that carried its
request. FAILED takes none (DEDUCED, log 69).

R360, R366-R371: the oldest unadmitted request of a context, once accepted, is admitted into the lowest IDLE record of its range with
ADMCNT one higher, or waits; a popped token joins the text and its count, and TEXT goes out when 4,096 bytes are ready or the queue is empty;
the end marker sends FINAL and ends the request; released pages of a context enter its RELQ in order while it has room, and a full one holds
back no other; with its last page a PRUNE completes (R372; log 112, DESIGN CHOICE). FLAGS[0] is that of one reply (DESIGN CHOICE, log 125), and a token
past its buffer is written nowhere (DESIGN CHOICE, log 126). No other context's tree has a node that an adoption takes (R8; DEDUCED,
log 93). A stop string sends HOLD up to its earliest occurrence,
ends the text and writes MAXT; without one, the longest end of HOLD that could begin one stays. At the end the whole pages after the matched
ones are adopted, each under the node before it, in the first free node as its parent's first child (DEDUCED, log 80), the references drop,
and the pages that the tree has not taken go to RELQ; bytes of the slot that cannot be read are free (DESIGN CHOICE, log 101). Which request is admitted where is read as log 78 says, what text is ready and what is kept as log 79 (DEDUCED). -/
def Obligations.RequestsRun : Prop :=
  (∀ (s : State),
     (s.io.phase = 7#3 → ∀ i : Instr, i = .packetReceive ∨ i = .requestReceive ∨ i = .acceptReply → exec i s = .next s) ∧
     (s.io.powered = true → s.io.phase ≠ 7#3 →
       (s.ev.pkt.supported = true → exec .packetReceive s = .next (s.modSl fun z => { z with inbox := z.inbox ++ [s.ev.pkt] })) ∧
       (s.ev.pkt.supported = false → exec .packetReceive s = .next (s.modSl fun z => { z with drops := z.drops + 1 })) ∧
     (s.sl.inbox = [] → exec .requestReceive s = .next s) ∧
     (∀ q l t, s.sl.inbox = q :: l → t = s.modSl (fun z => { z with inbox := l }) →
       (formatOk q.message = false → t.answer q = .reject 1) ∧
       (formatOk q.message = true → s.sl.serves (.ofNat 2 (hdrGet q.message 16 1)) (.ofNat 16 (hdrGet q.message 18 2)) = false →
         t.answer q = .reject 2) ∧
       (∀ n, t.answer q = .reject n → ∃ u, exec .requestReceive s = .next u ∧ u.sl.inbox = l ∧ u.sl.rejs = s.sl.rejs + 1 ∧
         u.sl.reqs = s.sl.reqs ∧ u.mem = s.mem ∧ u.parts = s.parts ∧
         u.sl.wire = s.sl.wire ++ [⟨q.pdc, replyBytes 1 n 0 (hdrGet q.message 8 8) 0 0 0 []⟩]) ∧
       (∀ r, t.answer q = .copy → s.sl.reqs.find? (fun r => r.part.toNat == hdrGet q.message 16 1 &&
           r.ctx.toNat == hdrGet q.message 18 2 && r.reqid.toNat == hdrGet q.message 8 8) = some r →
         ∃ u, exec .requestReceive s = .next u ∧ u.sl.reqs.length = s.sl.reqs.length ∧ u.mem = s.mem ∧
           (r.st ≠ .tokenised → u.sl.reqs = s.sl.reqs ∧ u.sl.wire = s.sl.wire ++ [⟨q.pdc, replyBytes 0 0 0 r.reqid.toNat 0 0 0 []⟩]) ∧
           (r.st = .tokenised → { r with dups := r.dups ++ [q.pdc] } ∈ u.sl.reqs ∧ u.sl.wire = s.sl.wire)) ∧
       (∀ r ids a, t.answer q = .take r ids a →
         (t.slWrite r.part r.ctx a (ids.flatMap (leBytes 4)) = none → ∃ u, exec .requestReceive s = .next u ∧
           u.sl.reqs = s.sl.reqs ∧ u.sl.wire = s.sl.wire ++ [⟨q.pdc, replyBytes 1 7 0 (hdrGet q.message 8 8) 0 0 0 []⟩]) ∧
         (∀ w, t.slWrite r.part r.ctx a (ids.flatMap (leBytes 4)) = some w → r.st = .tokenised ∧ r.nprompt = ids.length ∧
           s.sl.slotTaken r.part r.ctx r.slot = false ∧
           exec .requestReceive s = .next (w.modSl fun z => { z with reqs := z.reqs ++ [r] })))) ∧
     (s.sl.reqs.find? (fun r => r.st == .tokenised) = none → exec .acceptReply s = .next s) ∧
     (∀ r, s.sl.reqs.find? (fun r => r.st == .tokenised) = some r → ∃ u, exec .acceptReply s = .next u ∧
       u.sl.accs = s.sl.accs + 1 ∧ { r with st := .accepted, dups := [] } ∈ u.sl.reqs ∧ u.mem = s.mem ∧
       u.sl.wire = s.sl.wire ++ (r.pdc :: r.dups).map fun c => ⟨c, replyBytes 0 0 0 r.reqid.toNat 0 0 0 []⟩))) ∧
  (∀ (s : State) (p : PartId), s.ev.part = p →
     (∀ r e, s.sl.reqs.find? (fun r => r.part == p && r.ctx == s.ev.ctx && (r.st == .tokenised || r.st == .accepted)) = some r →
       e = s.slEntry p s.ev.ctx →
       (r.st = .tokenised ∨ s.admitReq r = none → exec .admission s = .next s) ∧
       (∀ u, r.st = .accepted → s.admitReq r = some u → exec .admission s = .next u ∧
         (∃ nodes, { r with st := .admitted, nodes := nodes } ∈ u.sl.reqs ∧ nodes.length ≤ (r.nprompt - 1) / 32) ∧
         (s.mem.wf = true → (s.part p).ownsBytes (e.addr + 48) 8 = true → u.mem.get (e.addr + 48) 8 = (e.admcnt + 1) % 2 ^ 64) ∧
         ∃ i, (s.part p).admRecord r.ctx e = some i ∧ ((u.part p).lrec i).st = .queued)) ∧
     (∀ e, e = s.slEntry p s.ev.ctx → (e.nslot ≤ s.ev.slot.toNat ∨ (s.part p).queue (e.oq s.ev.slot) = none ∨
         ∃ z, (s.part p).queue (e.oq s.ev.slot) = some z ∧ (z.isOutputOf s.ev.ctx = false ∨ z.next none = none)) →
       exec .outputEntryPop s = .next s) ∧
     (∀ e qid z i w, e = s.slEntry p s.ev.ctx → qid = e.oq s.ev.slot → s.ev.slot.toNat < e.nslot → (s.part p).queue qid = some z →
       z.isOutputOf s.ev.ctx = true → z.next none = some i → w = BitVec.ofNat 64 (leNat i.data) →
       (∀ r, s.sl.reqs.find? (fun r => r.part == p && r.ctx == s.ev.ctx && r.slot == s.ev.slot) = some r → r.st ≠ .admitted →
         ∃ u, exec .outputEntryPop s = .next u ∧ (u.part p).queue qid = some (z.remove i.num) ∧ u.sl = s.sl ∧ u.mem = s.mem) ∧
       (∀ r r0 r1, s.sl.reqs.find? (fun r => r.part == p && r.ctx == s.ev.ctx && r.slot == s.ev.slot) = some r → r.st = .admitted →
         w.getLsbD 31 = false → r0 = { r with popped := r.popped + 1 } →
         r1 = (if r.stopped = true then r0
           else r0.token ((Tbl.find? s.sl.voc r.vocab.toNat).bind fun v => v.strs[bits w 23 0]?) (entryWord w)) →
         (r.stopped = false → r1.toks = r.toks ++ [entryWord w] ∧ (r.stops = [] → ∀ bs,
           ((Tbl.find? s.sl.voc r.vocab.toNat).bind fun v => v.strs[bits w 23 0]?) = some bs → r1.hold = [] ∧
             r1.out = r.out ++ r.hold ++ (utf8Move (r.pend.length + bs.length) (r.pend ++ bs)).1)) ∧
         (r.stopped = false → ∀ bs mv H, bs = ((Tbl.find? s.sl.voc r.vocab.toNat).bind fun v => v.strs[bits w 23 0]?).getD [0xEF, 0xBF, 0xBD] →
           mv = utf8Move (r.pend.length + bs.length) (r.pend ++ bs) → H = r.hold ++ mv.1 →
           r1.pend = mv.2 ∧
           (∀ n, (n < H.length ∧ (∃ q ∈ r.stops, q <+: H.drop n) ∧ ∀ m, m < n → ∀ q ∈ r.stops, ¬ q <+: H.drop m) →
             r1.stopped = true ∧ r1.out = r.out ++ H.take n ∧ r1.hold = []) ∧
           ((∀ m, m < H.length → ∀ q ∈ r.stops, ¬ q <+: H.drop m) → r1.stopped = false ∧
             ∃ n, n ≤ H.length ∧ r1.out = r.out ++ H.take n ∧ r1.hold = H.drop n ∧
               (n < H.length → ∃ q ∈ r.stops, H.drop n <+: q ∧ H.drop n ≠ q) ∧
               ∀ m, m < n → ∀ q ∈ r.stops, ¬ (H.drop m <+: q ∧ H.drop m ≠ q))) ∧
         ∃ u, exec .outputEntryPop s = .next u ∧
           (∀ t, t = ((s.modPart p fun P => P.setQueue qid (z.remove i.num)).appendToken r (bits w 23 0)).setReq r r1 →
             u.mem = if r1.stopped = true ∧ r.stopped = false then (t.writeMaxt r1 (r.popped + 1)).mem else t.mem) ∧ (u.part p).queue qid = some (z.remove i.num) ∧
           (if 4096 ≤ r1.out.length ∨ ((z.remove i.num).next none).isNone = true
            then r1.sent ∈ u.sl.reqs ∧ u.sl.wire = s.sl.wire ++ [⟨r.pdc, r1.reply 2 0⟩]
            else r1 ∈ u.sl.reqs ∧ u.sl.wire = s.sl.wire)) ∧
       (∀ r r1, s.sl.reqs.find? (fun r => r.part == p && r.ctx == s.ev.ctx && r.slot == s.ev.slot) = some r → r.st = .admitted →
         w.getLsbD 31 = true →
         r1 = { r with out := r.out ++ r.hold ++ (List.replicate r.pend.length fffd).flatten, hold := [], pend := [] } →
         ∃ u, exec .outputEntryPop s = .next u ∧ (u.part p).queue qid = some (z.remove i.num) ∧
           u.sl.wire = s.sl.wire ++ [⟨r.pdc, r1.reply 3 (if r.stopped = true then 3 else bits w 7 0)⟩] ∧
           (∀ q ∈ u.sl.reqs, q.st = .admitted → q ∈ s.sl.reqs ∧ q ≠ r) ∧
           ∀ t a pages ad, t = ((s.modPart p fun P => P.setQueue qid (z.remove i.num)).sendReply r.pdc
               (r1.reply 3 (if r.stopped = true then 3 else bits w 7 0))).setReq r r1.sent →
             a = e.seq s.ev.slot → pages = t.slotPages r1.sent (t.slotVal r1.sent (a + 32) 8) (t.slotVal r1.sent (a + 8) 4) →
             ad = (if r.flags.getLsbD 2 = true then
                 State.adopt { t with freeCtr := t.freeCtr + 1 } (e.pool p s.ev.ctx) r.vocab.toNat e.admcnt ((r.nodes.getLast?).getD e.root)
                   (t.adoptPages r1.sent e (t.slotVal r1.sent (a + 32) 8) (t.slotVal r1.sent (a + 40) 8) (t.slotVal r1.sent (a + 8) 4))
               else ({ t with freeCtr := t.freeCtr + 1 }, [])) →
             u.mem = (ad.1.dropNodes (e.pool p s.ev.ctx) r.nodes).mem ∧
             u.sl.relq = s.sl.relq ++ ((pages.drop r.nodes.length).filter fun w => !ad.2.contains w).map
               fun w => (p, s.ev.ctx, w, some s.ev.slot))) ∧
     (∀ (q : Pool) voc stamp n (a : AdoptPage) l,
       s.adopt q voc stamp n [] = (s, []) ∧
       (∀ m, s.childWith q n voc a.key = some m → s.adopt q voc stamp n (a :: l) = s.adopt q voc stamp m l) ∧
       (s.childWith q n voc a.key = none → s.freeNode q = none → s.adopt q voc stamp n (a :: l) = (s, [])) ∧
       (∀ f, s.childWith q n voc a.key = none → s.freeNode q = some f → s.isNode q n = true →
         s.mem.wf = true → n < 2 ^ 64 → f < 2 ^ 64 → stamp < 2 ^ 64 → voc < 256 → a.key.length = 32 → (∀ k ∈ a.key, k < 2 ^ 32) →
         a.sig.length = 32 →
         ∃ (t : State) (r : State × List Word), s.adopt q voc stamp n (a :: l) = (r.1, a.page :: r.2) ∧ r = t.adopt q voc stamp f l ∧ t.sl = (s.modNodes q (· ++ [f])).sl ∧ t.parts = s.parts ∧
           t.nodeV q f = true ∧ t.nodeVocab q f = voc ∧ t.nodeKey q f = a.key ∧ t.nodePage q f = a.page ∧ t.nodeSig q f = a.sig ∧
           t.nodeRef q f = 0 ∧ t.nodeStamp q f = stamp ∧ t.nodeParent q f = n ∧ t.nodeChild q f = 0 ∧
           t.nodeNext q f = s.nodeChild q n ∧ t.nodeChild q n = f ∧
           (∀ b, (b < f ∨ f + 256 ≤ b) → (b < n + 176 ∨ n + 184 ≤ b) → t.mem.read b = s.mem.read b) ∧
           ∀ d ∈ s.sl.trees, d.meets f 256 = false)) ∧
     (∀ q d, s.relqRoom q d = true ↔ ∃ z, (s.part q).queue (.ofNat 16 (s.slEntry q d).relq) = some z ∧ z.isRelqOf d = true ∧
       z.room none ≠ 0) ∧
     ((∀ q ∈ s.sl.relq, s.relqRoom q.1 q.2.1 = false) → s.sl.run = none → exec .relqPush s = .next s) ∧
     (∀ a c w o b qid z, s.sl.relq = a ++ (p, c, w, o) :: b → (∀ q ∈ a, s.relqRoom q.1 q.2.1 = false) →
       qid = BitVec.ofNat 16 (s.slEntry p c).relq → (s.part p).queue qid = some z → z.isRelqOf c = true → z.room none ≠ 0 →
       (s.sl.run = none ∨ s.sl.waits = []) →
       ∃ u y, exec .relqPush s = .next u ∧ (u.part p).queue qid = some y ∧ u.sl.relq = a ++ b ∧ u.mem = s.mem ∧
         y.items = z.items ++ [{ num := z.freshNum, data := leBytes 8 (bits w 55 0), st := .ready }] ∧
         ∀ r, s.sl.run = some r →
           ((∀ q ∈ a ++ b, q.2.2.2 ≠ none) → u.sl.run = none ∧ u.sl.res = r) ∧
           (∀ q ∈ a ++ b, q.2.2.2 = none → (s.relqQueue q.1 q.2.1).isSome = true → u.sl.run = some r ∧ u.sl.res = s.sl.res)))

/-! ### Encoding, the step, reset and the whole machine (R3, R120-R133, R345, R378) -/

/-- R120-R133: the words of every well-formed encoded instruction, fetched by the strand of their major in supervisor mode, decode to that
instruction, with every operand at every value that its encoding has; a second word is there just where the first one says so (R121).

R133: a word of an unassigned major faults ILLEGAL, and one of the other strand's majors faults WRONG_STRAND; whatever either strand decodes is
a well-formed instruction that has an encoding. -/
def Obligations.DecodeGivesBackTheEncodedInstruction : Prop :=
  (∀ i : Instr, i.wf = true → isEvent i = false → ∃ w x : W32,
     (encode i = [w] ∧ x = 0 ∧ isLongWord w = false ∨ encode i = [w, x] ∧ isLongWord w = true) ∧
       decode (strandOfMajor (fMajor w)) true w x = .ok i) ∧
  (∀ (st : Strand) (sup : Bool) (w x : W32),
     (majorUnassigned (fMajor w) = true → decode st sup w x = .error .illegal) ∧
     (majorUnassigned (fMajor w) = false → st ≠ strandOfMajor (fMajor w) → decode st sup w x = .error .wrongStrand) ∧
     ∀ i, decode st sup w x = .ok i → i.wf = true ∧ isEvent i = false)

/-- Worked words of the spec's examples (06, 07, 08, 11, 14, 22) decode to the instructions that they stand for. -/
def Obligations.WorkedWordsDecode : Prop :=
  decode .a false 0x00714670#32 0 = .ok (.bfxu 7#6 5#6 6#6 false) ∧
  decode .a false 0x24512346#32 0 = .ok (.lih 5#6 0x091A3#19) ∧
  decode .a false 0x04516CF0#32 0 = .ok (.addi 5#6 5#6 0x1678#13) ∧
  decode .a false 0x5C614582#32 0 = .ok (.ldacq 6#6 5#6 1#4 .pkg 1#6) ∧
  decode .a false 0x61428980#32 0 = .ok (.strel 20#6 10#6 2#4 .pkg 0#6) ∧
  decode .a false 0xB4903FFA#32 0 = .ok (.loop 9#6 0x1FFD#13) ∧
  decode .a false 0x74000010#32 0 = .ok .endTask ∧
  decode .a false 0x6C828314#32 0 = .ok (.vgth 2#2 10#6 3#3 false) ∧
  decode .a false 0x73014000#32 0 = .ok (.qbind 48#6 5#6 false) ∧
  decode .a false 0x80000011#32 0xFFF18000#32 = .ok (.meMsk 0#6 false { stamp := 0xFFF, prod := 3, cona := 0, conb := 0, conc := 0 }) ∧
  decode .a false 0x80000114#32 0 = .ok (.oclaim false 1#3 false) ∧
  decode .x false 0xC03042B2#32 0 = .ok (.vfmaF32 3#6 1#6 2#6 9#4 false) ∧
  decode .a false 0xC03042B2#32 0 = .error .wrongStrand ∧
  decode .x false 0xE4483000#32 0 = .ok (.vqnt 4#6 32#6 .e2m1x .rne false) ∧
  decode .a false 0x90000020#32 0 = .error .priv ∧ decode .a true 0x90000020#32 0 = .ok .sret ∧
  decode .a false 0xF8000000#32 0 = .error .illegal ∧ decode .x false 0xF8000000#32 0 = .error .illegal

/-- R120, R121, R145, R148: the word at a strand's PC is the four bytes under its translation, and a strand's turn runs the instruction
that they decode to, with its words latched and its core current; a strand that may not issue leaves the state, and a fetch or decode
fault is taken. What comes before the fetch at a boundary is an error found on the chip, which faults POISON (R381), or the fill of parts that a
restore has left absent (R339): what waits there is log 65 (DEDUCED), when parts are filled is log 7 (DESIGN CHOICE). The order of turns is the
model's (log 3), and what of a fetch that faults is latched is log 83 (DEDUCED).

R345-R348: a fetch of a 4-byte word translates its address with execute permission and reads the four bytes there, the
first the least significant (R3); a poisoned line faults POISON (R116). -/
def Obligations.AStepRunsTheDecodedInstruction : Prop :=
  (∀ (s t : State) (c : CoreId) (st : Strand) (r : List Turn), s.agenda = .strand c st :: r → t = { s with agenda := r } →
     (t.canRun c st = false → step s = .next t) ∧
     (t.canRun c st = true → (∀ u, t.before c st = some u → step s = .next u) ∧
       (∀ u, st = .a → t.boundary c = some u → t.before c st = some u) ∧ (t.absentIn (t.partOf c) = [] →
         (st = .a → t.boundary c = none) → t.before c st = none) ∧
       (t.before c st = none →
         (∀ f, t.fetchWord c ((t.core c).pcOf st) = .error f →
           step s = .next ((t.modCore c (·.latch st 0 0)).takeFault c st f)) ∧
         (∀ w, t.fetchWord c ((t.core c).pcOf st) = .ok w →
           (∀ x, (st = .x ∨ isLongWord w = false ∨ fL w = false) ∧ x = 0 ∨
               st = .a ∧ isLongWord w = true ∧ fL w = true ∧ t.fetchWord c ((t.core c).pcOf st + 4) = .ok x →
             (∀ i, decode st (t.core c).isSup w x = .ok i → step s = exec i { t.modCore c (·.latch st w x) with cur := c }) ∧
             (∀ f, decode st (t.core c).isSup w x = .error f → ∃ g : Flt, g.code = f ∧
               step s = .next (({ t.modCore c (·.latch st w x) with cur := c } : State).takeFault c st g))) ∧
           (∀ f, st = .a → isLongWord w = true → fL w = true → t.fetchWord c ((t.core c).pcOf st + 4) = .error f →
             step s = .next ((t.modCore c (·.latch st w 0)).takeFault c st f)))))) ∧
  (∀ (s : State) (c : CoreId) (va : Word) (l : Xl), s.xlate c (s.core c).ctx .fetch va 4 = .ok l →
     (s.poisoned l.pa = false → ∃ w, s.fetchWord c va = .ok w ∧ w.toNat = (s.mem.read l.pa).toNat + 2 ^ 8 * (s.mem.read (l.pa + 1)).toNat
       + 2 ^ 16 * (s.mem.read (l.pa + 2)).toNat + 2 ^ 24 * (s.mem.read (l.pa + 3)).toNat) ∧
     (s.poisoned l.pa = true → ∃ f, s.fetchWord c va = .error f ∧ f.code = .poison))

/-- R374, R378, R380, Tables 21.2 to 21.5: after reset no partition is set up, every core is idle, PHASE is ROM, HSEM, HPERM and the Sluice's counts
are clear, a host's and SNAPT's triggers are enabled, and memory holds nothing. Its reading as 0 is log 2 and
SNAPID 0, which no table gives a reset value, log 1 (DESIGN CHOICE): the model's, not the spec's. -/
def Obligations.ResetLeavesTheMachineIdle : Prop :=
  State.reset.memOk = true ∧ (∀ a, State.reset.mem.read a = 0) ∧
  (∀ c, (State.reset.core c).occ = .idle ∧ (State.reset.core c).tlb = []) ∧ (∀ p, (State.reset.part p).up = false) ∧
  State.reset.io.phase = 0#3 ∧ State.reset.io.held = false ∧ State.reset.io.hperm = 0 ∧ State.reset.io.lasttie = 0#1 ∧
  State.reset.io.mccmd = 0 ∧ State.reset.io.errc = 0 ∧ State.reset.io.erru = 0 ∧
  State.reset.io.snap.host = true ∧ State.reset.io.snap.pin = false ∧ State.reset.io.snap.instr = true ∧
  State.reset.io.snap.lock = false ∧ State.reset.io.snap.id = 0 ∧
  State.reset.sl.drops = 0 ∧ State.reset.sl.accs = 0 ∧ State.reset.sl.rejs = 0 ∧ State.reset.sl.served = []

/-- Every step keeps physical memory in its canonical form, whatever strand, event or clk has its turn: the form is the model's own, with
unlisted bytes that read 0: logs 2 and 86 (DESIGN CHOICE). -/
def Obligations.EveryStepKeepsMemoryCanonical : Prop :=
  ∀ s s' : State, s.mem.wf = true → step s = .next s' → s'.mem.wf = true
end

