-- ==== Sys2Proof/Laws/Tables.lean ====
section
/-! SUPPORT. The laws of the sparse tables: a read after a write, and that a write leaves the other keys alone. -/
namespace Sys2Proof

@[simp] theorem Tbl.get_set_same {α : Type} (d : α) (t : Tbl α) (n : Nat) (v : α) : Tbl.get d (Tbl.set t n v) n = v := by
  induction t with
  | nil => simp [Tbl.set, Tbl.get]
  | cons x t ih =>
    obtain ⟨k, w⟩ := x
    simp only [Tbl.set]
    split
    · simp_all [Tbl.get]
    · split
      · simp [Tbl.get]
      · simp_all [Tbl.get]

theorem Tbl.get_set_ne {α : Type} (d : α) (t : Tbl α) {n m : Nat} (v : α) (h : m ≠ n) :
    Tbl.get d (Tbl.set t n v) m = Tbl.get d t m := by
  induction t with
  | nil => simp [Tbl.set, Tbl.get, h.symm]
  | cons x t ih =>
    obtain ⟨k, w⟩ := x
    simp only [Tbl.set]
    split
    · next e => subst e; simp [Tbl.get, h.symm]
    · split
      · simp [Tbl.get, h.symm]
      · simp [Tbl.get, ih]

theorem Tbl.get_set {α : Type} (d : α) (t : Tbl α) (n m : Nat) (v : α) :
    Tbl.get d (Tbl.set t n v) m = if m = n then v else Tbl.get d t m := by
  split
  · next e => subst e; simp
  · next e => exact Tbl.get_set_ne d t v e

theorem Tbl.find?_set_same {α : Type} (t : Tbl α) (n : Nat) (v : α) : Tbl.find? (Tbl.set t n v) n = some v := by
  induction t with
  | nil => simp [Tbl.set, Tbl.find?]
  | cons x t ih =>
    obtain ⟨k, w⟩ := x
    simp only [Tbl.set]
    split
    · next e => simp [Tbl.find?, e]
    · split
      · simp [Tbl.find?]
      · next e _ => simp only [Tbl.find?, if_neg e, ih]

theorem Tbl.find?_set_ne {α : Type} (t : Tbl α) {n m : Nat} (v : α) (h : m ≠ n) :
    Tbl.find? (Tbl.set t n v) m = Tbl.find? t m := by
  induction t with
  | nil => simp [Tbl.set, Tbl.find?, h.symm]
  | cons x t ih =>
    obtain ⟨k, w⟩ := x
    simp only [Tbl.set]
    split
    · next e => subst e; simp [Tbl.find?, h.symm]
    · split
      · simp [Tbl.find?, h.symm]
      · simp only [Tbl.find?, ih]

/-- Every value a write leaves in a table is the written one or was there. -/
theorem Tbl.mem_set {α : Type} (t : Tbl α) (n : Nat) (v : α) {x : Nat × α} (h : x ∈ Tbl.set t n v) :
    x.2 = v ∨ x ∈ t := by
  induction t with
  | nil => simp [Tbl.set] at h; simp [h]
  | cons y t ih =>
    obtain ⟨k, w⟩ := y
    simp only [Tbl.set] at h
    split at h
    · rcases List.mem_cons.1 h with h | h
      · exact .inl (by rw [h])
      · exact .inr (List.mem_cons_of_mem _ h)
    · split at h
      · rcases List.mem_cons.1 h with h | h
        · exact .inl (by rw [h])
        · exact .inr h
      · rcases List.mem_cons.1 h with h | h
        · exact .inr (h ▸ List.mem_cons_self ..)
        · rcases ih h with h | h
          · exact .inl h
          · exact .inr (List.mem_cons_of_mem _ h)

/-- What a table reads at a key is the default or one of its values. -/
theorem Tbl.get_mem {α : Type} (d : α) (t : Tbl α) (n : Nat) : Tbl.get d t n = d ∨ (n, Tbl.get d t n) ∈ t := by
  induction t with
  | nil => exact .inl rfl
  | cons y t ih =>
    obtain ⟨k, w⟩ := y
    simp only [Tbl.get]
    split
    · next e => subst e; exact .inr (List.mem_cons_self ..)
    · rcases ih with h | h
      · exact .inl h
      · exact .inr (List.mem_cons_of_mem _ h)

end Sys2Proof
end

