-- ==== Sys2Proof/Laws/Memory.lean ====
section
/-! SUPPORT. The laws of memory: a read after a write, that a write leaves every other byte alone, and that every memory
operation keeps the canonical form. -/
namespace Sys2Proof.Machine

/-! ### Reads after writes -/

theorem Mem.read_below {m : Mem} {lo a : Nat} (h : m.wfFrom lo = true) (ha : a < lo) : m.read a = 0 := by
  induction m generalizing lo with
  | nil => rfl
  | cons x m ih =>
    obtain ⟨k, v⟩ := x
    simp only [Mem.wfFrom, Bool.and_eq_true, decide_eq_true_eq] at h
    simp only [Mem.read]
    rw [if_neg (by omega)]
    exact ih h.2 (by omega)

theorem Mem.read_write_ne (m : Mem) {a c : Nat} (b : Byte) (h : c ≠ a) : (m.write a b).read c = m.read c := by
  induction m with
  | nil => simp only [Mem.write]; split <;> simp [Mem.read, h.symm]
  | cons x m ih =>
    obtain ⟨k, v⟩ := x
    simp only [Mem.write]
    split
    · next e => subst e; split <;> simp [Mem.read, h.symm]
    · split
      · split <;> simp [Mem.read, h.symm]
      · simp only [Mem.read, ih]

theorem Mem.read_write_from {m : Mem} {lo : Nat} (hw : m.wfFrom lo = true) (a : Nat) (b : Byte) :
    (m.write a b).read a = b := by
  induction m generalizing lo with
  | nil => simp only [Mem.write]; split <;> simp_all [Mem.read]
  | cons x m ih =>
    obtain ⟨k, v⟩ := x
    have hw' := hw
    simp only [Mem.wfFrom, Bool.and_eq_true, decide_eq_true_eq] at hw
    simp only [Mem.write]
    split
    · next e =>
      subst e
      split
      · next z => rw [z]; exact Mem.read_below hw.2 (by omega)
      · simp [Mem.read]
    · split
      · split
        · next z => simp only [Mem.read]; rw [if_neg (by omega), z]; exact Mem.read_below hw.2 (by omega)
        · simp [Mem.read]
      · simp only [Mem.read]; rw [if_neg (by omega)]; exact ih hw.2

/-- A read after a write to the same address gives the byte written. -/
theorem Mem.read_write_same {m : Mem} (hw : m.wf = true) (a : Nat) (b : Byte) : (m.write a b).read a = b :=
  Mem.read_write_from hw a b

/-! ### The canonical form -/

theorem Mem.wfFrom_mono {m : Mem} {lo lo' : Nat} (h : m.wfFrom lo = true) (hl : lo' ≤ lo) : m.wfFrom lo' = true := by
  cases m with
  | nil => rfl
  | cons x m =>
    obtain ⟨k, v⟩ := x
    simp only [Mem.wfFrom, Bool.and_eq_true, decide_eq_true_eq] at h ⊢
    exact ⟨⟨by omega, h.1.2⟩, h.2⟩

theorem Mem.wfFrom_write {m : Mem} {lo : Nat} (h : m.wfFrom lo = true) {a : Nat} (ha : lo ≤ a) (b : Byte) :
    (m.write a b).wfFrom lo = true := by
  induction m generalizing lo with
  | nil => simp only [Mem.write]; split <;> simp_all [Mem.wfFrom]
  | cons x m ih =>
    obtain ⟨k, v⟩ := x
    have h' := h
    simp only [Mem.wfFrom, Bool.and_eq_true, decide_eq_true_eq] at h
    simp only [Mem.write]
    split
    · next e =>
      subst e
      split
      · exact Mem.wfFrom_mono h.2 (by omega)
      · next z =>
        simp only [Mem.wfFrom, Bool.and_eq_true, decide_eq_true_eq]
        exact ⟨⟨h.1.1, z⟩, h.2⟩
    · split
      · split
        · exact h'
        · next z =>
          simp only [Mem.wfFrom, Bool.and_eq_true, decide_eq_true_eq]
          exact ⟨⟨ha, z⟩, ⟨by omega, h.1.2⟩, h.2⟩
      · simp only [Mem.wfFrom, Bool.and_eq_true, decide_eq_true_eq]
        exact ⟨h.1, ih h.2 (by omega)⟩

/-- A byte write keeps the canonical form. -/
theorem Mem.wf_write {m : Mem} (h : m.wf = true) (a : Nat) (b : Byte) : (m.write a b).wf = true :=
  Mem.wfFrom_write h (Nat.zero_le a) b

/-- A write of bytes keeps the canonical form. -/
theorem Mem.wf_writeN {m : Mem} (h : m.wf = true) (a : Nat) (l : List Byte) : (m.writeN a l).wf = true := by
  induction l generalizing m a with
  | nil => exact h
  | cons b l ih => exact ih (Mem.wf_write h a b) (a + 1)

/-- A write of enabled bytes keeps the canonical form. -/
theorem Mem.wf_writeEn {m : Mem} (h : m.wf = true) (a : Nat) (l : List (Byte × Bool)) : (m.writeEn a l).wf = true := by
  induction l generalizing m a with
  | nil => exact h
  | cons x l ih =>
    obtain ⟨b, e⟩ := x
    simp only [Mem.writeEn]
    split
    · exact ih (Mem.wf_write h a b) (a + 1)
    · exact ih h (a + 1)

/-- A write of a value keeps the canonical form. -/
theorem Mem.wf_put {m : Mem} (h : m.wf = true) (a n v : Nat) : (m.put a n v).wf = true := Mem.wf_writeN h a _

/-- Leaving out addresses keeps the canonical form. -/
theorem Mem.wfFrom_filter {m : Mem} {lo : Nat} (h : m.wfFrom lo = true) (f : Host.Cell → Bool) :
    Mem.wfFrom lo (m.filter f) = true := by
  induction m generalizing lo with
  | nil => rfl
  | cons x m ih =>
    obtain ⟨k, v⟩ := x
    simp only [Mem.wfFrom, Bool.and_eq_true, decide_eq_true_eq] at h
    simp only [List.filter]
    split
    · simp only [Mem.wfFrom, Bool.and_eq_true, decide_eq_true_eq]; exact ⟨h.1, ih h.2⟩
    · exact ih (Mem.wfFrom_mono h.2 (by omega))

/-- The memory with nothing listed is canonical. -/
theorem Mem.wf_nil : Mem.wf [] = true := rfl

/-! ### Ranges -/

/-- A write of bytes leaves every byte outside its range alone. -/
theorem Mem.read_writeN_out (m : Mem) (a : Nat) (l : List Byte) {c : Nat} (h : c < a ∨ a + l.length ≤ c) :
    (m.writeN a l).read c = m.read c := by
  induction l generalizing m a with
  | nil => rfl
  | cons b l ih =>
    simp only [List.length_cons] at h
    rw [Mem.writeN, ih (m.write a b) (a + 1) (by omega), Mem.read_write_ne m b (by omega)]

/-- A write of bytes is read back in its range. -/
theorem Mem.read_writeN_in {m : Mem} (hw : m.wf = true) (a : Nat) (l : List Byte) {i : Nat} (h : i < l.length) :
    (m.writeN a l).read (a + i) = l[i] := by
  induction l generalizing m a i with
  | nil => simp at h
  | cons b l ih =>
    cases i with
    | zero =>
      rw [Mem.writeN, Mem.read_writeN_out _ _ _ (.inl (by omega)), Nat.add_zero, Mem.read_write_same hw]
      rfl
    | succ i =>
      have := ih (Mem.wf_write hw a b) (a + 1) (i := i) (by simpa using h)
      rw [Mem.writeN, show a + (i + 1) = a + 1 + i by omega, this]
      rfl

/-- A write of enabled bytes leaves every byte outside its range alone. -/
theorem Mem.read_writeEn_out (m : Mem) (a : Nat) (l : List (Byte × Bool)) {c : Nat} (h : c < a ∨ a + l.length ≤ c) :
    (m.writeEn a l).read c = m.read c := by
  induction l generalizing m a with
  | nil => rfl
  | cons x l ih =>
    obtain ⟨b, e⟩ := x
    simp only [List.length_cons] at h
    simp only [Mem.writeEn]
    rw [ih _ (a + 1) (by omega)]
    split
    · exact Mem.read_write_ne m b (by omega)
    · rfl

@[simp] theorem leBytes_length (n v : Nat) : (leBytes n v).length = n := by
  induction n generalizing v with
  | zero => rfl
  | succ n ih => simp [leBytes, ih]

@[simp] theorem Mem.readN_length (m : Mem) (a n : Nat) : (m.readN a n).length = n := by
  induction n generalizing a with
  | zero => rfl
  | succ n ih => simp [Mem.readN, ih]

/-- The value of the bytes of a value. -/
theorem leNat_leBytes (n v : Nat) : leNat (leBytes n v) = v % 256 ^ n := by
  induction n generalizing v with
  | zero => simp [leBytes, leNat, Nat.mod_one]
  | succ n ih =>
    simp only [leBytes, leNat, ih, BitVec.toNat_ofNat]
    rw [show 256 ^ (n + 1) = 256 * 256 ^ n by rw [Nat.pow_succ, Nat.mul_comm]]
    rw [Nat.mod_mul]

/-- Reading back what was written. -/
theorem Mem.readN_writeN {m : Mem} (hw : m.wf = true) (a : Nat) (l : List Byte) :
    (m.writeN a l).readN a l.length = l := by
  induction l generalizing m a with
  | nil => rfl
  | cons b l ih =>
    have h0 : ((m.write a b).writeN (a + 1) l).read a = b := by
      rw [Mem.read_writeN_out _ _ _ (.inl (by omega)), Mem.read_write_same hw]
    simp only [Mem.writeN, List.length_cons, Mem.readN, h0, ih (Mem.wf_write hw a b) (a + 1)]

/-- Bytes that a write of bytes does not meet read as before. -/
theorem Mem.readN_writeN_out (m : Mem) (a : Nat) (l : List Byte) {c n : Nat} (h : c + n ≤ a ∨ a + l.length ≤ c) :
    (m.writeN a l).readN c n = m.readN c n := by
  induction n generalizing c with
  | zero => rfl
  | succ n ih => rw [Mem.readN, Mem.readN, Mem.read_writeN_out m a l (by omega), ih (by omega)]

/-- A stored value is read back, cut to its bytes. -/
theorem Mem.get_put {m : Mem} (hw : m.wf = true) (a n v : Nat) : (m.put a n v).get a n = v % 256 ^ n := by
  have h := Mem.readN_writeN hw a (leBytes n v)
  rw [leBytes_length] at h
  rw [Mem.get, Mem.put, h, leNat_leBytes]

end Sys2Proof.Machine
end

