-- ==== Sys2Proof/Laws/State.lean ====
section
/-! SUPPORT. One lemma per field per update of the state and of a core: what an update leaves is read off by `simp`, and
no later proof unfolds a record update. -/
namespace Sys2Proof.Machine

/-! ### Updates of the state -/

@[simp] theorem State.setCore_mem (s : State) (c : CoreId) (k : Core) :
    (s.setCore c k).mem = s.mem := rfl
@[simp] theorem State.setCore_poison (s : State) (c : CoreId) (k : Core) :
    (s.setCore c k).poison = s.poison := rfl
@[simp] theorem State.setCore_dead (s : State) (c : CoreId) (k : Core) :
    (s.setCore c k).dead = s.dead := rfl
@[simp] theorem State.setCore_cores (s : State) (c : CoreId) (k : Core) :
    (s.setCore c k).cores = Tbl.set s.cores c.toNat k := rfl
@[simp] theorem State.setCore_parts (s : State) (c : CoreId) (k : Core) :
    (s.setCore c k).parts = s.parts := rfl
@[simp] theorem State.setCore_dieTlb (s : State) (c : CoreId) (k : Core) :
    (s.setCore c k).dieTlb = s.dieTlb := rfl
@[simp] theorem State.setCore_io (s : State) (c : CoreId) (k : Core) :
    (s.setCore c k).io = s.io := rfl
@[simp] theorem State.setCore_power (s : State) (c : CoreId) (k : Core) :
    (s.setCore c k).power = s.power := rfl
@[simp] theorem State.setCore_sl (s : State) (c : CoreId) (k : Core) :
    (s.setCore c k).sl = s.sl := rfl
@[simp] theorem State.setCore_amorr (s : State) (c : CoreId) (k : Core) :
    (s.setCore c k).amorr = s.amorr := rfl
@[simp] theorem State.setCore_clk (s : State) (c : CoreId) (k : Core) :
    (s.setCore c k).clk = s.clk := rfl
@[simp] theorem State.setCore_agenda (s : State) (c : CoreId) (k : Core) :
    (s.setCore c k).agenda = s.agenda := rfl
@[simp] theorem State.setCore_cur (s : State) (c : CoreId) (k : Core) :
    (s.setCore c k).cur = s.cur := rfl
@[simp] theorem State.setCore_ev (s : State) (c : CoreId) (k : Core) :
    (s.setCore c k).ev = s.ev := rfl
@[simp] theorem State.setCore_freeCtr (s : State) (c : CoreId) (k : Core) :
    (s.setCore c k).freeCtr = s.freeCtr := rfl

@[simp] theorem State.modCore_mem (s : State) (c : CoreId) (f : Core → Core) :
    (s.modCore c f).mem = s.mem := rfl
@[simp] theorem State.modCore_poison (s : State) (c : CoreId) (f : Core → Core) :
    (s.modCore c f).poison = s.poison := rfl
@[simp] theorem State.modCore_dead (s : State) (c : CoreId) (f : Core → Core) :
    (s.modCore c f).dead = s.dead := rfl
@[simp] theorem State.modCore_cores (s : State) (c : CoreId) (f : Core → Core) :
    (s.modCore c f).cores = Tbl.set s.cores c.toNat (f (s.core c)) := rfl
@[simp] theorem State.modCore_parts (s : State) (c : CoreId) (f : Core → Core) :
    (s.modCore c f).parts = s.parts := rfl
@[simp] theorem State.modCore_dieTlb (s : State) (c : CoreId) (f : Core → Core) :
    (s.modCore c f).dieTlb = s.dieTlb := rfl
@[simp] theorem State.modCore_io (s : State) (c : CoreId) (f : Core → Core) :
    (s.modCore c f).io = s.io := rfl
@[simp] theorem State.modCore_power (s : State) (c : CoreId) (f : Core → Core) :
    (s.modCore c f).power = s.power := rfl
@[simp] theorem State.modCore_sl (s : State) (c : CoreId) (f : Core → Core) :
    (s.modCore c f).sl = s.sl := rfl
@[simp] theorem State.modCore_amorr (s : State) (c : CoreId) (f : Core → Core) :
    (s.modCore c f).amorr = s.amorr := rfl
@[simp] theorem State.modCore_clk (s : State) (c : CoreId) (f : Core → Core) :
    (s.modCore c f).clk = s.clk := rfl
@[simp] theorem State.modCore_agenda (s : State) (c : CoreId) (f : Core → Core) :
    (s.modCore c f).agenda = s.agenda := rfl
@[simp] theorem State.modCore_cur (s : State) (c : CoreId) (f : Core → Core) :
    (s.modCore c f).cur = s.cur := rfl
@[simp] theorem State.modCore_ev (s : State) (c : CoreId) (f : Core → Core) :
    (s.modCore c f).ev = s.ev := rfl
@[simp] theorem State.modCore_freeCtr (s : State) (c : CoreId) (f : Core → Core) :
    (s.modCore c f).freeCtr = s.freeCtr := rfl

@[simp] theorem State.modHere_mem (s : State) (f : Core → Core) :
    (s.modHere f).mem = s.mem := rfl
@[simp] theorem State.modHere_poison (s : State) (f : Core → Core) :
    (s.modHere f).poison = s.poison := rfl
@[simp] theorem State.modHere_dead (s : State) (f : Core → Core) :
    (s.modHere f).dead = s.dead := rfl
@[simp] theorem State.modHere_cores (s : State) (f : Core → Core) :
    (s.modHere f).cores = Tbl.set s.cores s.cur.toNat (f s.here) := rfl
@[simp] theorem State.modHere_parts (s : State) (f : Core → Core) :
    (s.modHere f).parts = s.parts := rfl
@[simp] theorem State.modHere_dieTlb (s : State) (f : Core → Core) :
    (s.modHere f).dieTlb = s.dieTlb := rfl
@[simp] theorem State.modHere_io (s : State) (f : Core → Core) :
    (s.modHere f).io = s.io := rfl
@[simp] theorem State.modHere_power (s : State) (f : Core → Core) :
    (s.modHere f).power = s.power := rfl
@[simp] theorem State.modHere_sl (s : State) (f : Core → Core) :
    (s.modHere f).sl = s.sl := rfl
@[simp] theorem State.modHere_amorr (s : State) (f : Core → Core) :
    (s.modHere f).amorr = s.amorr := rfl
@[simp] theorem State.modHere_clk (s : State) (f : Core → Core) :
    (s.modHere f).clk = s.clk := rfl
@[simp] theorem State.modHere_agenda (s : State) (f : Core → Core) :
    (s.modHere f).agenda = s.agenda := rfl
@[simp] theorem State.modHere_cur (s : State) (f : Core → Core) :
    (s.modHere f).cur = s.cur := rfl
@[simp] theorem State.modHere_ev (s : State) (f : Core → Core) :
    (s.modHere f).ev = s.ev := rfl
@[simp] theorem State.modHere_freeCtr (s : State) (f : Core → Core) :
    (s.modHere f).freeCtr = s.freeCtr := rfl

@[simp] theorem State.setPart_mem (s : State) (p : PartId) (k : Part) :
    (s.setPart p k).mem = s.mem := rfl
@[simp] theorem State.setPart_poison (s : State) (p : PartId) (k : Part) :
    (s.setPart p k).poison = s.poison := rfl
@[simp] theorem State.setPart_dead (s : State) (p : PartId) (k : Part) :
    (s.setPart p k).dead = s.dead := rfl
@[simp] theorem State.setPart_cores (s : State) (p : PartId) (k : Part) :
    (s.setPart p k).cores = s.cores := rfl
@[simp] theorem State.setPart_parts (s : State) (p : PartId) (k : Part) :
    (s.setPart p k).parts = Tbl.set s.parts p.toNat k := rfl
@[simp] theorem State.setPart_dieTlb (s : State) (p : PartId) (k : Part) :
    (s.setPart p k).dieTlb = s.dieTlb := rfl
@[simp] theorem State.setPart_io (s : State) (p : PartId) (k : Part) :
    (s.setPart p k).io = s.io := rfl
@[simp] theorem State.setPart_power (s : State) (p : PartId) (k : Part) :
    (s.setPart p k).power = s.power := rfl
@[simp] theorem State.setPart_sl (s : State) (p : PartId) (k : Part) :
    (s.setPart p k).sl = s.sl := rfl
@[simp] theorem State.setPart_amorr (s : State) (p : PartId) (k : Part) :
    (s.setPart p k).amorr = s.amorr := rfl
@[simp] theorem State.setPart_clk (s : State) (p : PartId) (k : Part) :
    (s.setPart p k).clk = s.clk := rfl
@[simp] theorem State.setPart_agenda (s : State) (p : PartId) (k : Part) :
    (s.setPart p k).agenda = s.agenda := rfl
@[simp] theorem State.setPart_cur (s : State) (p : PartId) (k : Part) :
    (s.setPart p k).cur = s.cur := rfl
@[simp] theorem State.setPart_ev (s : State) (p : PartId) (k : Part) :
    (s.setPart p k).ev = s.ev := rfl
@[simp] theorem State.setPart_freeCtr (s : State) (p : PartId) (k : Part) :
    (s.setPart p k).freeCtr = s.freeCtr := rfl

@[simp] theorem State.modPart_mem (s : State) (p : PartId) (f : Part → Part) :
    (s.modPart p f).mem = s.mem := rfl
@[simp] theorem State.modPart_poison (s : State) (p : PartId) (f : Part → Part) :
    (s.modPart p f).poison = s.poison := rfl
@[simp] theorem State.modPart_dead (s : State) (p : PartId) (f : Part → Part) :
    (s.modPart p f).dead = s.dead := rfl
@[simp] theorem State.modPart_cores (s : State) (p : PartId) (f : Part → Part) :
    (s.modPart p f).cores = s.cores := rfl
@[simp] theorem State.modPart_parts (s : State) (p : PartId) (f : Part → Part) :
    (s.modPart p f).parts = Tbl.set s.parts p.toNat (f (s.part p)) := rfl
@[simp] theorem State.modPart_dieTlb (s : State) (p : PartId) (f : Part → Part) :
    (s.modPart p f).dieTlb = s.dieTlb := rfl
@[simp] theorem State.modPart_io (s : State) (p : PartId) (f : Part → Part) :
    (s.modPart p f).io = s.io := rfl
@[simp] theorem State.modPart_power (s : State) (p : PartId) (f : Part → Part) :
    (s.modPart p f).power = s.power := rfl
@[simp] theorem State.modPart_sl (s : State) (p : PartId) (f : Part → Part) :
    (s.modPart p f).sl = s.sl := rfl
@[simp] theorem State.modPart_amorr (s : State) (p : PartId) (f : Part → Part) :
    (s.modPart p f).amorr = s.amorr := rfl
@[simp] theorem State.modPart_clk (s : State) (p : PartId) (f : Part → Part) :
    (s.modPart p f).clk = s.clk := rfl
@[simp] theorem State.modPart_agenda (s : State) (p : PartId) (f : Part → Part) :
    (s.modPart p f).agenda = s.agenda := rfl
@[simp] theorem State.modPart_cur (s : State) (p : PartId) (f : Part → Part) :
    (s.modPart p f).cur = s.cur := rfl
@[simp] theorem State.modPart_ev (s : State) (p : PartId) (f : Part → Part) :
    (s.modPart p f).ev = s.ev := rfl
@[simp] theorem State.modPart_freeCtr (s : State) (p : PartId) (f : Part → Part) :
    (s.modPart p f).freeCtr = s.freeCtr := rfl

@[simp] theorem State.modMyPart_mem (s : State) (f : Part → Part) :
    (s.modMyPart f).mem = s.mem := rfl
@[simp] theorem State.modMyPart_poison (s : State) (f : Part → Part) :
    (s.modMyPart f).poison = s.poison := rfl
@[simp] theorem State.modMyPart_dead (s : State) (f : Part → Part) :
    (s.modMyPart f).dead = s.dead := rfl
@[simp] theorem State.modMyPart_cores (s : State) (f : Part → Part) :
    (s.modMyPart f).cores = s.cores := rfl
@[simp] theorem State.modMyPart_parts (s : State) (f : Part → Part) :
    (s.modMyPart f).parts = Tbl.set s.parts (s.partOf s.cur).toNat (f s.myPart) := rfl
@[simp] theorem State.modMyPart_dieTlb (s : State) (f : Part → Part) :
    (s.modMyPart f).dieTlb = s.dieTlb := rfl
@[simp] theorem State.modMyPart_io (s : State) (f : Part → Part) :
    (s.modMyPart f).io = s.io := rfl
@[simp] theorem State.modMyPart_power (s : State) (f : Part → Part) :
    (s.modMyPart f).power = s.power := rfl
@[simp] theorem State.modMyPart_sl (s : State) (f : Part → Part) :
    (s.modMyPart f).sl = s.sl := rfl
@[simp] theorem State.modMyPart_amorr (s : State) (f : Part → Part) :
    (s.modMyPart f).amorr = s.amorr := rfl
@[simp] theorem State.modMyPart_clk (s : State) (f : Part → Part) :
    (s.modMyPart f).clk = s.clk := rfl
@[simp] theorem State.modMyPart_agenda (s : State) (f : Part → Part) :
    (s.modMyPart f).agenda = s.agenda := rfl
@[simp] theorem State.modMyPart_cur (s : State) (f : Part → Part) :
    (s.modMyPart f).cur = s.cur := rfl
@[simp] theorem State.modMyPart_ev (s : State) (f : Part → Part) :
    (s.modMyPart f).ev = s.ev := rfl
@[simp] theorem State.modMyPart_freeCtr (s : State) (f : Part → Part) :
    (s.modMyPart f).freeCtr = s.freeCtr := rfl

@[simp] theorem State.freshWord_mem (s : State) :
    s.freshWord.2.mem = s.mem := rfl
@[simp] theorem State.freshWord_poison (s : State) :
    s.freshWord.2.poison = s.poison := rfl
@[simp] theorem State.freshWord_dead (s : State) :
    s.freshWord.2.dead = s.dead := rfl
@[simp] theorem State.freshWord_cores (s : State) :
    s.freshWord.2.cores = s.cores := rfl
@[simp] theorem State.freshWord_parts (s : State) :
    s.freshWord.2.parts = s.parts := rfl
@[simp] theorem State.freshWord_dieTlb (s : State) :
    s.freshWord.2.dieTlb = s.dieTlb := rfl
@[simp] theorem State.freshWord_io (s : State) :
    s.freshWord.2.io = s.io := rfl
@[simp] theorem State.freshWord_power (s : State) :
    s.freshWord.2.power = s.power := rfl
@[simp] theorem State.freshWord_sl (s : State) :
    s.freshWord.2.sl = s.sl := rfl
@[simp] theorem State.freshWord_amorr (s : State) :
    s.freshWord.2.amorr = s.amorr := rfl
@[simp] theorem State.freshWord_clk (s : State) :
    s.freshWord.2.clk = s.clk := rfl
@[simp] theorem State.freshWord_agenda (s : State) :
    s.freshWord.2.agenda = s.agenda := rfl
@[simp] theorem State.freshWord_cur (s : State) :
    s.freshWord.2.cur = s.cur := rfl
@[simp] theorem State.freshWord_ev (s : State) :
    s.freshWord.2.ev = s.ev := rfl
@[simp] theorem State.freshWord_freeCtr (s : State) :
    s.freshWord.2.freeCtr = s.freeCtr + 1 := rfl

@[simp] theorem State.physWrite_mem (s : State) (a : Nat) (l : List Byte) :
    (s.physWrite a l).mem = s.mem.writeN a l := rfl
@[simp] theorem State.physWrite_dead (s : State) (a : Nat) (l : List Byte) :
    (s.physWrite a l).dead = s.dead := rfl
@[simp] theorem State.physWrite_cores (s : State) (a : Nat) (l : List Byte) :
    (s.physWrite a l).cores = s.cores := rfl
@[simp] theorem State.physWrite_parts (s : State) (a : Nat) (l : List Byte) :
    (s.physWrite a l).parts = s.parts := rfl
@[simp] theorem State.physWrite_dieTlb (s : State) (a : Nat) (l : List Byte) :
    (s.physWrite a l).dieTlb = s.dieTlb := rfl
@[simp] theorem State.physWrite_io (s : State) (a : Nat) (l : List Byte) :
    (s.physWrite a l).io = s.io := rfl
@[simp] theorem State.physWrite_power (s : State) (a : Nat) (l : List Byte) :
    (s.physWrite a l).power = s.power := rfl
@[simp] theorem State.physWrite_sl (s : State) (a : Nat) (l : List Byte) :
    (s.physWrite a l).sl = s.sl := rfl
@[simp] theorem State.physWrite_amorr (s : State) (a : Nat) (l : List Byte) :
    (s.physWrite a l).amorr = s.amorr := rfl
@[simp] theorem State.physWrite_clk (s : State) (a : Nat) (l : List Byte) :
    (s.physWrite a l).clk = s.clk := rfl
@[simp] theorem State.physWrite_agenda (s : State) (a : Nat) (l : List Byte) :
    (s.physWrite a l).agenda = s.agenda := rfl
@[simp] theorem State.physWrite_cur (s : State) (a : Nat) (l : List Byte) :
    (s.physWrite a l).cur = s.cur := rfl
@[simp] theorem State.physWrite_ev (s : State) (a : Nat) (l : List Byte) :
    (s.physWrite a l).ev = s.ev := rfl
@[simp] theorem State.physWrite_freeCtr (s : State) (a : Nat) (l : List Byte) :
    (s.physWrite a l).freeCtr = s.freeCtr := rfl

@[simp] theorem State.physWriteEn_mem (s : State) (a : Nat) (l : List (Byte × Bool)) :
    (s.physWriteEn a l).mem = s.mem.writeEn a l := rfl
@[simp] theorem State.physWriteEn_dead (s : State) (a : Nat) (l : List (Byte × Bool)) :
    (s.physWriteEn a l).dead = s.dead := rfl
@[simp] theorem State.physWriteEn_cores (s : State) (a : Nat) (l : List (Byte × Bool)) :
    (s.physWriteEn a l).cores = s.cores := rfl
@[simp] theorem State.physWriteEn_parts (s : State) (a : Nat) (l : List (Byte × Bool)) :
    (s.physWriteEn a l).parts = s.parts := rfl
@[simp] theorem State.physWriteEn_dieTlb (s : State) (a : Nat) (l : List (Byte × Bool)) :
    (s.physWriteEn a l).dieTlb = s.dieTlb := rfl
@[simp] theorem State.physWriteEn_io (s : State) (a : Nat) (l : List (Byte × Bool)) :
    (s.physWriteEn a l).io = s.io := rfl
@[simp] theorem State.physWriteEn_power (s : State) (a : Nat) (l : List (Byte × Bool)) :
    (s.physWriteEn a l).power = s.power := rfl
@[simp] theorem State.physWriteEn_sl (s : State) (a : Nat) (l : List (Byte × Bool)) :
    (s.physWriteEn a l).sl = s.sl := rfl
@[simp] theorem State.physWriteEn_amorr (s : State) (a : Nat) (l : List (Byte × Bool)) :
    (s.physWriteEn a l).amorr = s.amorr := rfl
@[simp] theorem State.physWriteEn_clk (s : State) (a : Nat) (l : List (Byte × Bool)) :
    (s.physWriteEn a l).clk = s.clk := rfl
@[simp] theorem State.physWriteEn_agenda (s : State) (a : Nat) (l : List (Byte × Bool)) :
    (s.physWriteEn a l).agenda = s.agenda := rfl
@[simp] theorem State.physWriteEn_cur (s : State) (a : Nat) (l : List (Byte × Bool)) :
    (s.physWriteEn a l).cur = s.cur := rfl
@[simp] theorem State.physWriteEn_ev (s : State) (a : Nat) (l : List (Byte × Bool)) :
    (s.physWriteEn a l).ev = s.ev := rfl
@[simp] theorem State.physWriteEn_freeCtr (s : State) (a : Nat) (l : List (Byte × Bool)) :
    (s.physWriteEn a l).freeCtr = s.freeCtr := rfl

@[simp] theorem State.queueRecs_mem (s : State) (p : PartId) (l : List RingRec) :
    (s.queueRecs p l).mem = s.mem := rfl
@[simp] theorem State.queueRecs_poison (s : State) (p : PartId) (l : List RingRec) :
    (s.queueRecs p l).poison = s.poison := rfl
@[simp] theorem State.queueRecs_dead (s : State) (p : PartId) (l : List RingRec) :
    (s.queueRecs p l).dead = s.dead := rfl
@[simp] theorem State.queueRecs_cores (s : State) (p : PartId) (l : List RingRec) :
    (s.queueRecs p l).cores = s.cores := rfl
@[simp] theorem State.queueRecs_dieTlb (s : State) (p : PartId) (l : List RingRec) :
    (s.queueRecs p l).dieTlb = s.dieTlb := rfl
@[simp] theorem State.queueRecs_io (s : State) (p : PartId) (l : List RingRec) :
    (s.queueRecs p l).io = s.io := rfl
@[simp] theorem State.queueRecs_power (s : State) (p : PartId) (l : List RingRec) :
    (s.queueRecs p l).power = s.power := rfl
@[simp] theorem State.queueRecs_sl (s : State) (p : PartId) (l : List RingRec) :
    (s.queueRecs p l).sl = s.sl := rfl
@[simp] theorem State.queueRecs_amorr (s : State) (p : PartId) (l : List RingRec) :
    (s.queueRecs p l).amorr = s.amorr := rfl
@[simp] theorem State.queueRecs_clk (s : State) (p : PartId) (l : List RingRec) :
    (s.queueRecs p l).clk = s.clk := rfl
@[simp] theorem State.queueRecs_agenda (s : State) (p : PartId) (l : List RingRec) :
    (s.queueRecs p l).agenda = s.agenda := rfl
@[simp] theorem State.queueRecs_cur (s : State) (p : PartId) (l : List RingRec) :
    (s.queueRecs p l).cur = s.cur := rfl
@[simp] theorem State.queueRecs_ev (s : State) (p : PartId) (l : List RingRec) :
    (s.queueRecs p l).ev = s.ev := rfl
@[simp] theorem State.queueRecs_freeCtr (s : State) (p : PartId) (l : List RingRec) :
    (s.queueRecs p l).freeCtr = s.freeCtr := rfl

@[simp] theorem State.raise_mem (s : State) (f : Flags) :
    (s.raise f).mem = s.mem := rfl
@[simp] theorem State.raise_poison (s : State) (f : Flags) :
    (s.raise f).poison = s.poison := rfl
@[simp] theorem State.raise_dead (s : State) (f : Flags) :
    (s.raise f).dead = s.dead := rfl
@[simp] theorem State.raise_parts (s : State) (f : Flags) :
    (s.raise f).parts = s.parts := rfl
@[simp] theorem State.raise_dieTlb (s : State) (f : Flags) :
    (s.raise f).dieTlb = s.dieTlb := rfl
@[simp] theorem State.raise_io (s : State) (f : Flags) :
    (s.raise f).io = s.io := rfl
@[simp] theorem State.raise_power (s : State) (f : Flags) :
    (s.raise f).power = s.power := rfl
@[simp] theorem State.raise_sl (s : State) (f : Flags) :
    (s.raise f).sl = s.sl := rfl
@[simp] theorem State.raise_amorr (s : State) (f : Flags) :
    (s.raise f).amorr = s.amorr := rfl
@[simp] theorem State.raise_clk (s : State) (f : Flags) :
    (s.raise f).clk = s.clk := rfl
@[simp] theorem State.raise_agenda (s : State) (f : Flags) :
    (s.raise f).agenda = s.agenda := rfl
@[simp] theorem State.raise_cur (s : State) (f : Flags) :
    (s.raise f).cur = s.cur := rfl
@[simp] theorem State.raise_ev (s : State) (f : Flags) :
    (s.raise f).ev = s.ev := rfl
@[simp] theorem State.raise_freeCtr (s : State) (f : Flags) :
    (s.raise f).freeCtr = s.freeCtr := rfl

@[simp] theorem State.pendX_mem (s : State) (r : BitVec 6) :
    (s.pendX r).mem = s.mem := rfl
@[simp] theorem State.pendX_poison (s : State) (r : BitVec 6) :
    (s.pendX r).poison = s.poison := rfl
@[simp] theorem State.pendX_dead (s : State) (r : BitVec 6) :
    (s.pendX r).dead = s.dead := rfl
@[simp] theorem State.pendX_parts (s : State) (r : BitVec 6) :
    (s.pendX r).parts = s.parts := rfl
@[simp] theorem State.pendX_dieTlb (s : State) (r : BitVec 6) :
    (s.pendX r).dieTlb = s.dieTlb := rfl
@[simp] theorem State.pendX_io (s : State) (r : BitVec 6) :
    (s.pendX r).io = s.io := rfl
@[simp] theorem State.pendX_power (s : State) (r : BitVec 6) :
    (s.pendX r).power = s.power := rfl
@[simp] theorem State.pendX_sl (s : State) (r : BitVec 6) :
    (s.pendX r).sl = s.sl := rfl
@[simp] theorem State.pendX_amorr (s : State) (r : BitVec 6) :
    (s.pendX r).amorr = s.amorr := rfl
@[simp] theorem State.pendX_clk (s : State) (r : BitVec 6) :
    (s.pendX r).clk = s.clk := rfl
@[simp] theorem State.pendX_agenda (s : State) (r : BitVec 6) :
    (s.pendX r).agenda = s.agenda := rfl
@[simp] theorem State.pendX_cur (s : State) (r : BitVec 6) :
    (s.pendX r).cur = s.cur := rfl
@[simp] theorem State.pendX_ev (s : State) (r : BitVec 6) :
    (s.pendX r).ev = s.ev := rfl
@[simp] theorem State.pendX_freeCtr (s : State) (r : BitVec 6) :
    (s.pendX r).freeCtr = s.freeCtr := rfl

@[simp] theorem State.modSl_mem (s : State) (f : Sluice → Sluice) :
    (s.modSl f).mem = s.mem := rfl
@[simp] theorem State.modSl_poison (s : State) (f : Sluice → Sluice) :
    (s.modSl f).poison = s.poison := rfl
@[simp] theorem State.modSl_dead (s : State) (f : Sluice → Sluice) :
    (s.modSl f).dead = s.dead := rfl
@[simp] theorem State.modSl_cores (s : State) (f : Sluice → Sluice) :
    (s.modSl f).cores = s.cores := rfl
@[simp] theorem State.modSl_parts (s : State) (f : Sluice → Sluice) :
    (s.modSl f).parts = s.parts := rfl
@[simp] theorem State.modSl_dieTlb (s : State) (f : Sluice → Sluice) :
    (s.modSl f).dieTlb = s.dieTlb := rfl
@[simp] theorem State.modSl_io (s : State) (f : Sluice → Sluice) :
    (s.modSl f).io = s.io := rfl
@[simp] theorem State.modSl_power (s : State) (f : Sluice → Sluice) :
    (s.modSl f).power = s.power := rfl
@[simp] theorem State.modSl_sl (s : State) (f : Sluice → Sluice) :
    (s.modSl f).sl = f s.sl := rfl
@[simp] theorem State.modSl_amorr (s : State) (f : Sluice → Sluice) :
    (s.modSl f).amorr = s.amorr := rfl
@[simp] theorem State.modSl_clk (s : State) (f : Sluice → Sluice) :
    (s.modSl f).clk = s.clk := rfl
@[simp] theorem State.modSl_agenda (s : State) (f : Sluice → Sluice) :
    (s.modSl f).agenda = s.agenda := rfl
@[simp] theorem State.modSl_cur (s : State) (f : Sluice → Sluice) :
    (s.modSl f).cur = s.cur := rfl
@[simp] theorem State.modSl_ev (s : State) (f : Sluice → Sluice) :
    (s.modSl f).ev = s.ev := rfl
@[simp] theorem State.modSl_freeCtr (s : State) (f : Sluice → Sluice) :
    (s.modSl f).freeCtr = s.freeCtr := rfl

/-! ### Updates of a core -/

@[simp] theorem Core.stallA_occ (k : Core) (w : Wait) : (k.stallA w).occ = k.occ := rfl
@[simp] theorem Core.stallA_out (k : Core) (w : Wait) : (k.stallA w).out = k.out := rfl
@[simp] theorem Core.stallA_stopping (k : Core) (w : Wait) : (k.stallA w).stopping = k.stopping := rfl
@[simp] theorem Core.stallA_info (k : Core) (w : Wait) : (k.stallA w).info = k.info := rfl
@[simp] theorem Core.stallA_x (k : Core) (w : Wait) : (k.stallA w).x = k.x := rfl
@[simp] theorem Core.stallA_q (k : Core) (w : Wait) : (k.stallA w).q = k.q := rfl
@[simp] theorem Core.stallA_ctl (k : Core) (w : Wait) : (k.stallA w).ctl = k.ctl := rfl
@[simp] theorem Core.stallA_eng (k : Core) (w : Wait) : (k.stallA w).eng = k.eng := rfl
@[simp] theorem Core.stallA_spm (k : Core) (w : Wait) : (k.stallA w).spm = k.spm := rfl
@[simp] theorem Core.stallA_hold (k : Core) (w : Wait) : (k.stallA w).hold = k.hold := rfl
@[simp] theorem Core.stallA_atEnd (k : Core) (w : Wait) : (k.stallA w).atEnd = k.atEnd := rfl
@[simp] theorem Core.stallA_save (k : Core) (w : Wait) : (k.stallA w).save = k.save := rfl
@[simp] theorem Core.stallA_errs (k : Core) (w : Wait) : (k.stallA w).errs = k.errs := rfl
@[simp] theorem Core.stallA_absent (k : Core) (w : Wait) : (k.stallA w).absent = k.absent := rfl
@[simp] theorem Core.stallA_tlb (k : Core) (w : Wait) : (k.stallA w).tlb = k.tlb := rfl

@[simp] theorem Core.stallX_occ (k : Core) (w : Wait) : (k.stallX w).occ = k.occ := rfl
@[simp] theorem Core.stallX_out (k : Core) (w : Wait) : (k.stallX w).out = k.out := rfl
@[simp] theorem Core.stallX_stopping (k : Core) (w : Wait) : (k.stallX w).stopping = k.stopping := rfl
@[simp] theorem Core.stallX_info (k : Core) (w : Wait) : (k.stallX w).info = k.info := rfl
@[simp] theorem Core.stallX_a (k : Core) (w : Wait) : (k.stallX w).a = k.a := rfl
@[simp] theorem Core.stallX_q (k : Core) (w : Wait) : (k.stallX w).q = k.q := rfl
@[simp] theorem Core.stallX_ctl (k : Core) (w : Wait) : (k.stallX w).ctl = k.ctl := rfl
@[simp] theorem Core.stallX_eng (k : Core) (w : Wait) : (k.stallX w).eng = k.eng := rfl
@[simp] theorem Core.stallX_spm (k : Core) (w : Wait) : (k.stallX w).spm = k.spm := rfl
@[simp] theorem Core.stallX_hold (k : Core) (w : Wait) : (k.stallX w).hold = k.hold := rfl
@[simp] theorem Core.stallX_atEnd (k : Core) (w : Wait) : (k.stallX w).atEnd = k.atEnd := rfl
@[simp] theorem Core.stallX_save (k : Core) (w : Wait) : (k.stallX w).save = k.save := rfl
@[simp] theorem Core.stallX_errs (k : Core) (w : Wait) : (k.stallX w).errs = k.errs := rfl
@[simp] theorem Core.stallX_absent (k : Core) (w : Wait) : (k.stallX w).absent = k.absent := rfl
@[simp] theorem Core.stallX_tlb (k : Core) (w : Wait) : (k.stallX w).tlb = k.tlb := rfl

@[simp] theorem Core.retireA_occ (k : Core) (pc : Word) : (k.retireA pc).occ = k.occ := rfl
@[simp] theorem Core.retireA_out (k : Core) (pc : Word) : (k.retireA pc).out = k.out := rfl
@[simp] theorem Core.retireA_stopping (k : Core) (pc : Word) : (k.retireA pc).stopping = k.stopping := rfl
@[simp] theorem Core.retireA_info (k : Core) (pc : Word) : (k.retireA pc).info = k.info := rfl
@[simp] theorem Core.retireA_x (k : Core) (pc : Word) : (k.retireA pc).x = k.x := rfl
@[simp] theorem Core.retireA_q (k : Core) (pc : Word) : (k.retireA pc).q = k.q := rfl
@[simp] theorem Core.retireA_eng (k : Core) (pc : Word) : (k.retireA pc).eng = k.eng := rfl
@[simp] theorem Core.retireA_spm (k : Core) (pc : Word) : (k.retireA pc).spm = k.spm := rfl
@[simp] theorem Core.retireA_hold (k : Core) (pc : Word) : (k.retireA pc).hold = k.hold := rfl
@[simp] theorem Core.retireA_atEnd (k : Core) (pc : Word) : (k.retireA pc).atEnd = k.atEnd := rfl
@[simp] theorem Core.retireA_save (k : Core) (pc : Word) : (k.retireA pc).save = k.save := rfl
@[simp] theorem Core.retireA_errs (k : Core) (pc : Word) : (k.retireA pc).errs = k.errs := rfl
@[simp] theorem Core.retireA_absent (k : Core) (pc : Word) : (k.retireA pc).absent = k.absent := rfl
@[simp] theorem Core.retireA_tlb (k : Core) (pc : Word) : (k.retireA pc).tlb = k.tlb := rfl

@[simp] theorem Core.retireX_occ (k : Core) (pc : Word) : (k.retireX pc).occ = k.occ := rfl
@[simp] theorem Core.retireX_out (k : Core) (pc : Word) : (k.retireX pc).out = k.out := rfl
@[simp] theorem Core.retireX_stopping (k : Core) (pc : Word) : (k.retireX pc).stopping = k.stopping := rfl
@[simp] theorem Core.retireX_info (k : Core) (pc : Word) : (k.retireX pc).info = k.info := rfl
@[simp] theorem Core.retireX_a (k : Core) (pc : Word) : (k.retireX pc).a = k.a := rfl
@[simp] theorem Core.retireX_q (k : Core) (pc : Word) : (k.retireX pc).q = k.q := rfl
@[simp] theorem Core.retireX_eng (k : Core) (pc : Word) : (k.retireX pc).eng = k.eng := rfl
@[simp] theorem Core.retireX_spm (k : Core) (pc : Word) : (k.retireX pc).spm = k.spm := rfl
@[simp] theorem Core.retireX_hold (k : Core) (pc : Word) : (k.retireX pc).hold = k.hold := rfl
@[simp] theorem Core.retireX_atEnd (k : Core) (pc : Word) : (k.retireX pc).atEnd = k.atEnd := rfl
@[simp] theorem Core.retireX_save (k : Core) (pc : Word) : (k.retireX pc).save = k.save := rfl
@[simp] theorem Core.retireX_errs (k : Core) (pc : Word) : (k.retireX pc).errs = k.errs := rfl
@[simp] theorem Core.retireX_absent (k : Core) (pc : Word) : (k.retireX pc).absent = k.absent := rfl
@[simp] theorem Core.retireX_tlb (k : Core) (pc : Word) : (k.retireX pc).tlb = k.tlb := rfl

@[simp] theorem Core.clearBad_occ (k : Core) (r : Reg) : (k.clearBad r).occ = k.occ := rfl
@[simp] theorem Core.clearBad_out (k : Core) (r : Reg) : (k.clearBad r).out = k.out := rfl
@[simp] theorem Core.clearBad_stopping (k : Core) (r : Reg) : (k.clearBad r).stopping = k.stopping := rfl
@[simp] theorem Core.clearBad_info (k : Core) (r : Reg) : (k.clearBad r).info = k.info := rfl
@[simp] theorem Core.clearBad_x (k : Core) (r : Reg) : (k.clearBad r).x = k.x := rfl
@[simp] theorem Core.clearBad_q (k : Core) (r : Reg) : (k.clearBad r).q = k.q := rfl
@[simp] theorem Core.clearBad_ctl (k : Core) (r : Reg) : (k.clearBad r).ctl = k.ctl := rfl
@[simp] theorem Core.clearBad_eng (k : Core) (r : Reg) : (k.clearBad r).eng = k.eng := rfl
@[simp] theorem Core.clearBad_spm (k : Core) (r : Reg) : (k.clearBad r).spm = k.spm := rfl
@[simp] theorem Core.clearBad_atEnd (k : Core) (r : Reg) : (k.clearBad r).atEnd = k.atEnd := rfl
@[simp] theorem Core.clearBad_save (k : Core) (r : Reg) : (k.clearBad r).save = k.save := rfl
@[simp] theorem Core.clearBad_errs (k : Core) (r : Reg) : (k.clearBad r).errs = k.errs := rfl
@[simp] theorem Core.clearBad_absent (k : Core) (r : Reg) : (k.clearBad r).absent = k.absent := rfl
@[simp] theorem Core.clearBad_tlb (k : Core) (r : Reg) : (k.clearBad r).tlb = k.tlb := rfl

@[simp] theorem Core.raise_occ (k : Core) (f : Flags) : (k.raise f).occ = k.occ := rfl
@[simp] theorem Core.raise_out (k : Core) (f : Flags) : (k.raise f).out = k.out := rfl
@[simp] theorem Core.raise_stopping (k : Core) (f : Flags) : (k.raise f).stopping = k.stopping := rfl
@[simp] theorem Core.raise_info (k : Core) (f : Flags) : (k.raise f).info = k.info := rfl
@[simp] theorem Core.raise_a (k : Core) (f : Flags) : (k.raise f).a = k.a := rfl
@[simp] theorem Core.raise_x (k : Core) (f : Flags) : (k.raise f).x = k.x := rfl
@[simp] theorem Core.raise_q (k : Core) (f : Flags) : (k.raise f).q = k.q := rfl
@[simp] theorem Core.raise_eng (k : Core) (f : Flags) : (k.raise f).eng = k.eng := rfl
@[simp] theorem Core.raise_spm (k : Core) (f : Flags) : (k.raise f).spm = k.spm := rfl
@[simp] theorem Core.raise_hold (k : Core) (f : Flags) : (k.raise f).hold = k.hold := rfl
@[simp] theorem Core.raise_atEnd (k : Core) (f : Flags) : (k.raise f).atEnd = k.atEnd := rfl
@[simp] theorem Core.raise_save (k : Core) (f : Flags) : (k.raise f).save = k.save := rfl
@[simp] theorem Core.raise_errs (k : Core) (f : Flags) : (k.raise f).errs = k.errs := rfl
@[simp] theorem Core.raise_absent (k : Core) (f : Flags) : (k.raise f).absent = k.absent := rfl
@[simp] theorem Core.raise_tlb (k : Core) (f : Flags) : (k.raise f).tlb = k.tlb := rfl

@[simp] theorem Core.enterTrap_occ (k : Core) (t : Trap) : (k.enterTrap t).occ = k.occ := rfl
@[simp] theorem Core.enterTrap_out (k : Core) (t : Trap) : (k.enterTrap t).out = k.out := rfl
@[simp] theorem Core.enterTrap_stopping (k : Core) (t : Trap) : (k.enterTrap t).stopping = k.stopping := rfl
@[simp] theorem Core.enterTrap_info (k : Core) (t : Trap) : (k.enterTrap t).info = k.info := rfl
@[simp] theorem Core.enterTrap_x (k : Core) (t : Trap) : (k.enterTrap t).x = k.x := rfl
@[simp] theorem Core.enterTrap_q (k : Core) (t : Trap) : (k.enterTrap t).q = k.q := rfl
@[simp] theorem Core.enterTrap_spm (k : Core) (t : Trap) : (k.enterTrap t).spm = k.spm := rfl
@[simp] theorem Core.enterTrap_hold (k : Core) (t : Trap) : (k.enterTrap t).hold = k.hold := rfl
@[simp] theorem Core.enterTrap_atEnd (k : Core) (t : Trap) : (k.enterTrap t).atEnd = k.atEnd := rfl
@[simp] theorem Core.enterTrap_save (k : Core) (t : Trap) : (k.enterTrap t).save = k.save := rfl
@[simp] theorem Core.enterTrap_errs (k : Core) (t : Trap) : (k.enterTrap t).errs = k.errs := rfl
@[simp] theorem Core.enterTrap_absent (k : Core) (t : Trap) : (k.enterTrap t).absent = k.absent := rfl
@[simp] theorem Core.enterTrap_tlb (k : Core) (t : Trap) : (k.enterTrap t).tlb = k.tlb := rfl

@[simp] theorem Core.leaveTrap_occ (k : Core) : k.leaveTrap.occ = k.occ := rfl
@[simp] theorem Core.leaveTrap_out (k : Core) : k.leaveTrap.out = k.out := rfl
@[simp] theorem Core.leaveTrap_stopping (k : Core) : k.leaveTrap.stopping = k.stopping := rfl
@[simp] theorem Core.leaveTrap_info (k : Core) : k.leaveTrap.info = k.info := rfl
@[simp] theorem Core.leaveTrap_x (k : Core) : k.leaveTrap.x = k.x := rfl
@[simp] theorem Core.leaveTrap_q (k : Core) : k.leaveTrap.q = k.q := rfl
@[simp] theorem Core.leaveTrap_ctl (k : Core) : k.leaveTrap.ctl = k.ctl := rfl
@[simp] theorem Core.leaveTrap_eng (k : Core) : k.leaveTrap.eng = k.eng := rfl
@[simp] theorem Core.leaveTrap_spm (k : Core) : k.leaveTrap.spm = k.spm := rfl
@[simp] theorem Core.leaveTrap_hold (k : Core) : k.leaveTrap.hold = k.hold := rfl
@[simp] theorem Core.leaveTrap_atEnd (k : Core) : k.leaveTrap.atEnd = k.atEnd := rfl
@[simp] theorem Core.leaveTrap_save (k : Core) : k.leaveTrap.save = k.save := rfl
@[simp] theorem Core.leaveTrap_errs (k : Core) : k.leaveTrap.errs = k.errs := rfl
@[simp] theorem Core.leaveTrap_absent (k : Core) : k.leaveTrap.absent = k.absent := rfl
@[simp] theorem Core.leaveTrap_tlb (k : Core) : k.leaveTrap.tlb = k.tlb := rfl

@[simp] theorem Core.setLq_occ (k : Core) (n : BitVec 2) (l : List LqEnt) : (k.setLq n l).occ = k.occ := rfl
@[simp] theorem Core.setLq_out (k : Core) (n : BitVec 2) (l : List LqEnt) : (k.setLq n l).out = k.out := rfl
@[simp] theorem Core.setLq_stopping (k : Core) (n : BitVec 2) (l : List LqEnt) : (k.setLq n l).stopping = k.stopping := rfl
@[simp] theorem Core.setLq_info (k : Core) (n : BitVec 2) (l : List LqEnt) : (k.setLq n l).info = k.info := rfl
@[simp] theorem Core.setLq_a (k : Core) (n : BitVec 2) (l : List LqEnt) : (k.setLq n l).a = k.a := rfl
@[simp] theorem Core.setLq_x (k : Core) (n : BitVec 2) (l : List LqEnt) : (k.setLq n l).x = k.x := rfl
@[simp] theorem Core.setLq_ctl (k : Core) (n : BitVec 2) (l : List LqEnt) : (k.setLq n l).ctl = k.ctl := rfl
@[simp] theorem Core.setLq_eng (k : Core) (n : BitVec 2) (l : List LqEnt) : (k.setLq n l).eng = k.eng := rfl
@[simp] theorem Core.setLq_spm (k : Core) (n : BitVec 2) (l : List LqEnt) : (k.setLq n l).spm = k.spm := rfl
@[simp] theorem Core.setLq_hold (k : Core) (n : BitVec 2) (l : List LqEnt) : (k.setLq n l).hold = k.hold := rfl
@[simp] theorem Core.setLq_atEnd (k : Core) (n : BitVec 2) (l : List LqEnt) : (k.setLq n l).atEnd = k.atEnd := rfl
@[simp] theorem Core.setLq_save (k : Core) (n : BitVec 2) (l : List LqEnt) : (k.setLq n l).save = k.save := rfl
@[simp] theorem Core.setLq_errs (k : Core) (n : BitVec 2) (l : List LqEnt) : (k.setLq n l).errs = k.errs := rfl
@[simp] theorem Core.setLq_absent (k : Core) (n : BitVec 2) (l : List LqEnt) : (k.setLq n l).absent = k.absent := rfl
@[simp] theorem Core.setLq_tlb (k : Core) (n : BitVec 2) (l : List LqEnt) : (k.setLq n l).tlb = k.tlb := rfl

@[simp] theorem Core.setSq_occ (k : Core) (n : Sq) (l : List SqEnt) : (k.setSq n l).occ = k.occ := rfl
@[simp] theorem Core.setSq_out (k : Core) (n : Sq) (l : List SqEnt) : (k.setSq n l).out = k.out := rfl
@[simp] theorem Core.setSq_stopping (k : Core) (n : Sq) (l : List SqEnt) : (k.setSq n l).stopping = k.stopping := rfl
@[simp] theorem Core.setSq_info (k : Core) (n : Sq) (l : List SqEnt) : (k.setSq n l).info = k.info := rfl
@[simp] theorem Core.setSq_a (k : Core) (n : Sq) (l : List SqEnt) : (k.setSq n l).a = k.a := rfl
@[simp] theorem Core.setSq_x (k : Core) (n : Sq) (l : List SqEnt) : (k.setSq n l).x = k.x := rfl
@[simp] theorem Core.setSq_ctl (k : Core) (n : Sq) (l : List SqEnt) : (k.setSq n l).ctl = k.ctl := rfl
@[simp] theorem Core.setSq_eng (k : Core) (n : Sq) (l : List SqEnt) : (k.setSq n l).eng = k.eng := rfl
@[simp] theorem Core.setSq_spm (k : Core) (n : Sq) (l : List SqEnt) : (k.setSq n l).spm = k.spm := rfl
@[simp] theorem Core.setSq_hold (k : Core) (n : Sq) (l : List SqEnt) : (k.setSq n l).hold = k.hold := rfl
@[simp] theorem Core.setSq_atEnd (k : Core) (n : Sq) (l : List SqEnt) : (k.setSq n l).atEnd = k.atEnd := rfl
@[simp] theorem Core.setSq_save (k : Core) (n : Sq) (l : List SqEnt) : (k.setSq n l).save = k.save := rfl
@[simp] theorem Core.setSq_errs (k : Core) (n : Sq) (l : List SqEnt) : (k.setSq n l).errs = k.errs := rfl
@[simp] theorem Core.setSq_absent (k : Core) (n : Sq) (l : List SqEnt) : (k.setSq n l).absent = k.absent := rfl
@[simp] theorem Core.setSq_tlb (k : Core) (n : Sq) (l : List SqEnt) : (k.setSq n l).tlb = k.tlb := rfl

@[simp] theorem Core.setReg_occ (k : Core) (r : Reg) (v : Word) : (k.setReg r v).occ = k.occ := by
  unfold Core.setReg; split <;> rfl
@[simp] theorem Core.setReg_out (k : Core) (r : Reg) (v : Word) : (k.setReg r v).out = k.out := by
  unfold Core.setReg; split <;> rfl
@[simp] theorem Core.setReg_stopping (k : Core) (r : Reg) (v : Word) : (k.setReg r v).stopping = k.stopping := by
  unfold Core.setReg; split <;> rfl
@[simp] theorem Core.setReg_info (k : Core) (r : Reg) (v : Word) : (k.setReg r v).info = k.info := by
  unfold Core.setReg; split <;> rfl
@[simp] theorem Core.setReg_x (k : Core) (r : Reg) (v : Word) : (k.setReg r v).x = k.x := by
  unfold Core.setReg; split <;> rfl
@[simp] theorem Core.setReg_q (k : Core) (r : Reg) (v : Word) : (k.setReg r v).q = k.q := by
  unfold Core.setReg; split <;> rfl
@[simp] theorem Core.setReg_ctl (k : Core) (r : Reg) (v : Word) : (k.setReg r v).ctl = k.ctl := by
  unfold Core.setReg; split <;> rfl
@[simp] theorem Core.setReg_eng (k : Core) (r : Reg) (v : Word) : (k.setReg r v).eng = k.eng := by
  unfold Core.setReg; split <;> rfl
@[simp] theorem Core.setReg_spm (k : Core) (r : Reg) (v : Word) : (k.setReg r v).spm = k.spm := by
  unfold Core.setReg; split <;> rfl
@[simp] theorem Core.setReg_hold (k : Core) (r : Reg) (v : Word) : (k.setReg r v).hold = k.hold := by
  unfold Core.setReg; split <;> rfl
@[simp] theorem Core.setReg_atEnd (k : Core) (r : Reg) (v : Word) : (k.setReg r v).atEnd = k.atEnd := by
  unfold Core.setReg; split <;> rfl
@[simp] theorem Core.setReg_save (k : Core) (r : Reg) (v : Word) : (k.setReg r v).save = k.save := by
  unfold Core.setReg; split <;> rfl
@[simp] theorem Core.setReg_errs (k : Core) (r : Reg) (v : Word) : (k.setReg r v).errs = k.errs := by
  unfold Core.setReg; split <;> rfl
@[simp] theorem Core.setReg_absent (k : Core) (r : Reg) (v : Word) : (k.setReg r v).absent = k.absent := by
  unfold Core.setReg; split <;> rfl
@[simp] theorem Core.setReg_tlb (k : Core) (r : Reg) (v : Word) : (k.setReg r v).tlb = k.tlb := by
  unfold Core.setReg; split <;> rfl

@[simp] theorem Core.awaitReg_occ (k : Core) (p : PendLoad) : (k.awaitReg p).occ = k.occ := by
  unfold Core.awaitReg; split <;> rfl
@[simp] theorem Core.awaitReg_out (k : Core) (p : PendLoad) : (k.awaitReg p).out = k.out := by
  unfold Core.awaitReg; split <;> rfl
@[simp] theorem Core.awaitReg_stopping (k : Core) (p : PendLoad) : (k.awaitReg p).stopping = k.stopping := by
  unfold Core.awaitReg; split <;> rfl
@[simp] theorem Core.awaitReg_info (k : Core) (p : PendLoad) : (k.awaitReg p).info = k.info := by
  unfold Core.awaitReg; split <;> rfl
@[simp] theorem Core.awaitReg_x (k : Core) (p : PendLoad) : (k.awaitReg p).x = k.x := by
  unfold Core.awaitReg; split <;> rfl
@[simp] theorem Core.awaitReg_q (k : Core) (p : PendLoad) : (k.awaitReg p).q = k.q := by
  unfold Core.awaitReg; split <;> rfl
@[simp] theorem Core.awaitReg_ctl (k : Core) (p : PendLoad) : (k.awaitReg p).ctl = k.ctl := by
  unfold Core.awaitReg; split <;> rfl
@[simp] theorem Core.awaitReg_eng (k : Core) (p : PendLoad) : (k.awaitReg p).eng = k.eng := by
  unfold Core.awaitReg; split <;> rfl
@[simp] theorem Core.awaitReg_spm (k : Core) (p : PendLoad) : (k.awaitReg p).spm = k.spm := by
  unfold Core.awaitReg; split <;> rfl
@[simp] theorem Core.awaitReg_hold (k : Core) (p : PendLoad) : (k.awaitReg p).hold = k.hold := by
  unfold Core.awaitReg; split <;> rfl
@[simp] theorem Core.awaitReg_atEnd (k : Core) (p : PendLoad) : (k.awaitReg p).atEnd = k.atEnd := by
  unfold Core.awaitReg; split <;> rfl
@[simp] theorem Core.awaitReg_save (k : Core) (p : PendLoad) : (k.awaitReg p).save = k.save := by
  unfold Core.awaitReg; split <;> rfl
@[simp] theorem Core.awaitReg_errs (k : Core) (p : PendLoad) : (k.awaitReg p).errs = k.errs := by
  unfold Core.awaitReg; split <;> rfl
@[simp] theorem Core.awaitReg_absent (k : Core) (p : PendLoad) : (k.awaitReg p).absent = k.absent := by
  unfold Core.awaitReg; split <;> rfl
@[simp] theorem Core.awaitReg_tlb (k : Core) (p : PendLoad) : (k.awaitReg p).tlb = k.tlb := by
  unfold Core.awaitReg; split <;> rfl

@[simp] theorem Core.setV_occ (k : Core) (n : VNo) (v : VReg) : (k.setV n v).occ = k.occ := by
  unfold Core.setV; split <;> rfl
@[simp] theorem Core.setV_out (k : Core) (n : VNo) (v : VReg) : (k.setV n v).out = k.out := by
  unfold Core.setV; split <;> rfl
@[simp] theorem Core.setV_stopping (k : Core) (n : VNo) (v : VReg) : (k.setV n v).stopping = k.stopping := by
  unfold Core.setV; split <;> rfl
@[simp] theorem Core.setV_info (k : Core) (n : VNo) (v : VReg) : (k.setV n v).info = k.info := by
  unfold Core.setV; split <;> rfl
@[simp] theorem Core.setV_a (k : Core) (n : VNo) (v : VReg) : (k.setV n v).a = k.a := by
  unfold Core.setV; split <;> rfl
@[simp] theorem Core.setV_q (k : Core) (n : VNo) (v : VReg) : (k.setV n v).q = k.q := by
  unfold Core.setV; split <;> rfl
@[simp] theorem Core.setV_ctl (k : Core) (n : VNo) (v : VReg) : (k.setV n v).ctl = k.ctl := by
  unfold Core.setV; split <;> rfl
@[simp] theorem Core.setV_eng (k : Core) (n : VNo) (v : VReg) : (k.setV n v).eng = k.eng := by
  unfold Core.setV; split <;> rfl
@[simp] theorem Core.setV_spm (k : Core) (n : VNo) (v : VReg) : (k.setV n v).spm = k.spm := by
  unfold Core.setV; split <;> rfl
@[simp] theorem Core.setV_hold (k : Core) (n : VNo) (v : VReg) : (k.setV n v).hold = k.hold := by
  unfold Core.setV; split <;> rfl
@[simp] theorem Core.setV_atEnd (k : Core) (n : VNo) (v : VReg) : (k.setV n v).atEnd = k.atEnd := by
  unfold Core.setV; split <;> rfl
@[simp] theorem Core.setV_save (k : Core) (n : VNo) (v : VReg) : (k.setV n v).save = k.save := by
  unfold Core.setV; split <;> rfl
@[simp] theorem Core.setV_errs (k : Core) (n : VNo) (v : VReg) : (k.setV n v).errs = k.errs := by
  unfold Core.setV; split <;> rfl
@[simp] theorem Core.setV_absent (k : Core) (n : VNo) (v : VReg) : (k.setV n v).absent = k.absent := by
  unfold Core.setV; split <;> rfl
@[simp] theorem Core.setV_tlb (k : Core) (n : VNo) (v : VReg) : (k.setV n v).tlb = k.tlb := by
  unfold Core.setV; split <;> rfl

@[simp] theorem Core.setP_occ (k : Core) (n : PNo) (v : PReg) : (k.setP n v).occ = k.occ := by
  unfold Core.setP; split <;> rfl
@[simp] theorem Core.setP_out (k : Core) (n : PNo) (v : PReg) : (k.setP n v).out = k.out := by
  unfold Core.setP; split <;> rfl
@[simp] theorem Core.setP_stopping (k : Core) (n : PNo) (v : PReg) : (k.setP n v).stopping = k.stopping := by
  unfold Core.setP; split <;> rfl
@[simp] theorem Core.setP_info (k : Core) (n : PNo) (v : PReg) : (k.setP n v).info = k.info := by
  unfold Core.setP; split <;> rfl
@[simp] theorem Core.setP_a (k : Core) (n : PNo) (v : PReg) : (k.setP n v).a = k.a := by
  unfold Core.setP; split <;> rfl
@[simp] theorem Core.setP_q (k : Core) (n : PNo) (v : PReg) : (k.setP n v).q = k.q := by
  unfold Core.setP; split <;> rfl
@[simp] theorem Core.setP_ctl (k : Core) (n : PNo) (v : PReg) : (k.setP n v).ctl = k.ctl := by
  unfold Core.setP; split <;> rfl
@[simp] theorem Core.setP_eng (k : Core) (n : PNo) (v : PReg) : (k.setP n v).eng = k.eng := by
  unfold Core.setP; split <;> rfl
@[simp] theorem Core.setP_spm (k : Core) (n : PNo) (v : PReg) : (k.setP n v).spm = k.spm := by
  unfold Core.setP; split <;> rfl
@[simp] theorem Core.setP_hold (k : Core) (n : PNo) (v : PReg) : (k.setP n v).hold = k.hold := by
  unfold Core.setP; split <;> rfl
@[simp] theorem Core.setP_atEnd (k : Core) (n : PNo) (v : PReg) : (k.setP n v).atEnd = k.atEnd := by
  unfold Core.setP; split <;> rfl
@[simp] theorem Core.setP_save (k : Core) (n : PNo) (v : PReg) : (k.setP n v).save = k.save := by
  unfold Core.setP; split <;> rfl
@[simp] theorem Core.setP_errs (k : Core) (n : PNo) (v : PReg) : (k.setP n v).errs = k.errs := by
  unfold Core.setP; split <;> rfl
@[simp] theorem Core.setP_absent (k : Core) (n : PNo) (v : PReg) : (k.setP n v).absent = k.absent := by
  unfold Core.setP; split <;> rfl
@[simp] theorem Core.setP_tlb (k : Core) (n : PNo) (v : PReg) : (k.setP n v).tlb = k.tlb := by
  unfold Core.setP; split <;> rfl

/-! ### What the updates of a strand set -/

@[simp] theorem Core.retireA_pc (k : Core) (pc : Word) : (k.retireA pc).a.pc = pc := rfl
@[simp] theorem Core.retireA_s (k : Core) (pc : Word) : (k.retireA pc).a.s = k.a.s := rfl
@[simp] theorem Core.retireA_empty (k : Core) (pc : Word) : (k.retireA pc).a.empty = k.a.empty := rfl
@[simp] theorem Core.retireA_wait (k : Core) (pc : Word) : (k.retireA pc).a.wait = none := rfl
@[simp] theorem Core.retireA_flags (k : Core) (pc : Word) : (k.retireA pc).ctl.flags = k.ctl.flags := rfl
@[simp] theorem Core.retireA_retired (k : Core) (pc : Word) : (k.retireA pc).ctl.retired = k.ctl.retired + 1 := rfl
@[simp] theorem Core.retireX_pc (k : Core) (pc : Word) : (k.retireX pc).x.pc = pc := rfl
@[simp] theorem Core.retireX_v (k : Core) (pc : Word) : (k.retireX pc).x.v = k.x.v := rfl
@[simp] theorem Core.retireX_p (k : Core) (pc : Word) : (k.retireX pc).x.p = k.x.p := rfl
@[simp] theorem Core.stallA_pc (k : Core) (w : Wait) : (k.stallA w).a.pc = k.a.pc := rfl
@[simp] theorem Core.stallA_wait (k : Core) (w : Wait) : (k.stallA w).a.wait = some w := rfl
@[simp] theorem Core.stallX_wait (k : Core) (w : Wait) : (k.stallX w).x.wait = some w := rfl
@[simp] theorem Core.enterTrap_eng (k : Core) (t : Trap) : (k.enterTrap t).eng = k.reopen.eng := rfl
@[simp] theorem Core.enterTrap_pc (k : Core) (t : Trap) : (k.enterTrap t).a.pc = k.ctl.tvec := rfl
@[simp] theorem Core.enterTrap_inTrap (k : Core) (t : Trap) : (k.enterTrap t).a.inTrap = true := rfl
@[simp] theorem Core.enterTrap_tcause (k : Core) (t : Trap) : (k.enterTrap t).ctl.tcause = t.code := rfl
@[simp] theorem Core.leaveTrap_pc (k : Core) : k.leaveTrap.a.pc = k.ctl.tpc := rfl
@[simp] theorem Core.leaveTrap_inTrap (k : Core) : k.leaveTrap.a.inTrap = false := rfl

end Sys2Proof.Machine
end

