-- ==== Sys2Proof/Laws/Operands.lean ====
section
/-! SUPPORT. What the shared operations over operands do, each said once: the moving core, the gate, sources and
destinations, the arithmetic forms, and how an instruction ends. -/
namespace Sys2Proof.Machine

/-! ### The moving core -/

@[simp] theorem State.core_setCore_same (s : State) (c : CoreId) (k : Core) : (s.setCore c k).core c = k := by
  simp [State.core]

theorem State.core_setCore_ne (s : State) {c d : CoreId} (k : Core) (h : d ≠ c) : (s.setCore c k).core d = s.core d := by
  have : d.toNat ≠ c.toNat := fun e => h (BitVec.eq_of_toNat_eq e)
  simp [State.core, Tbl.get_set_ne _ _ _ this]

@[simp] theorem State.core_modCore_same (s : State) (c : CoreId) (f : Core → Core) :
    (s.modCore c f).core c = f (s.core c) := State.core_setCore_same s c _

theorem State.core_modCore_ne (s : State) {c d : CoreId} (f : Core → Core) (h : d ≠ c) :
    (s.modCore c f).core d = s.core d := State.core_setCore_ne s _ h

@[simp] theorem State.here_modHere (s : State) (f : Core → Core) : (s.modHere f).here = f s.here :=
  State.core_modCore_same s s.cur f

theorem State.core_modHere_ne (s : State) {d : CoreId} (f : Core → Core) (h : d ≠ s.cur) :
    (s.modHere f).core d = s.core d := State.core_modCore_ne s f h

@[simp] theorem State.part_setPart_same (s : State) (p : PartId) (P : Part) : (s.setPart p P).part p = P := by
  simp [State.part]

theorem State.part_setPart_ne (s : State) {p q : PartId} (P : Part) (h : q ≠ p) : (s.setPart p P).part q = s.part q := by
  have : q.toNat ≠ p.toNat := fun e => h (BitVec.eq_of_toNat_eq e)
  simp [State.part, Tbl.get_set_ne _ _ _ this]

@[simp] theorem State.part_modPart_same (s : State) (p : PartId) (f : Part → Part) :
    (s.modPart p f).part p = f (s.part p) := State.part_setPart_same s p _

/-! ### Scalar registers -/

@[simp] theorem Core.reg_zero (k : Core) : k.reg 0#6 = 0 := rfl

@[simp] theorem Core.setReg_zero (k : Core) (v : Word) : k.setReg 0#6 v = k := rfl

theorem Core.reg_setReg_same (k : Core) {r : Reg} (h : r ≠ 0#6) (v : Word) : (k.setReg r v).reg r = v := by
  simp [Core.reg, Core.setReg, h]

theorem Core.reg_setReg_ne (k : Core) {r q : Reg} (h : q ≠ r) (v : Word) : (k.setReg r v).reg q = k.reg q := by
  have : q.toNat ≠ r.toNat := fun e => h (BitVec.eq_of_toNat_eq e)
  unfold Core.reg Core.setReg
  split
  · rfl
  · split
    · rfl
    · simp [Tbl.get_set_ne _ _ _ this]

@[simp] theorem Core.reg_retireA (k : Core) (pc : Word) (r : Reg) : (k.retireA pc).reg r = k.reg r := rfl

/-! ### The gate -/

theorem State.find?_isEmpty {k : Core} {l : List Reg} (h : ∀ r ∈ l, k.isEmpty r = false) : l.find? k.isEmpty = none :=
  List.find?_eq_none.2 fun r hr => by simp [h r hr]

/-- Operands that are clear pass the gate. -/
theorem State.gate_clear {s : State} {e : Bool} {srcs dsts : List Reg} (h : s.clear srcs dsts = true) (go : Eff) :
    s.gate e srcs dsts go = go := by
  simp only [State.clear, Bool.and_eq_true, List.all_eq_true, Bool.or_eq_true, Bool.not_eq_true',
    bne_iff_ne, ne_eq, List.mem_append] at h
  obtain ⟨⟨hs, hd⟩, hr⟩ := h
  have h1 : srcs.any (fun r => isPort r && !s.here.portOk false r) = false := by
    rw [List.any_eq_false]; intro r hm; rcases hs r hm with h | h <;> simp [h]
  have h2 : dsts.any (fun r => isPort r && !s.here.portOk true r) = false := by
    rw [List.any_eq_false]; intro r hm; rcases hd r hm with h | h <;> simp [h]
  have h3 : s.here.a.bad.find? (fun b => srcs.contains b.reg || dsts.contains b.reg) = none := by
    rw [List.find?_eq_none]
    intro b hb hc
    simp only [Bool.or_eq_true, List.contains_iff_mem] at hc
    exact absurd rfl ((hr b.reg hc).2 b hb)
  have h4 : srcs.find? s.here.isEmpty = none := State.find?_isEmpty fun r hm => (hr r (.inl hm)).1
  have h5 : dsts.find? s.here.isEmpty = none := State.find?_isEmpty fun r hm => (hr r (.inr hm)).1
  simp only [State.gate, h1, h2, h3, h4, h5, Bool.or_self, Bool.false_eq_true, if_false]

/-- A source that is read goes on with its value. -/
theorem State.rd_reads {s : State} {r : Reg} {x : Word} {t : State} (h : s.Reads r x t) (go : Word → State → Eff) :
    s.rd r go = go x t := by
  unfold State.Reads at h
  unfold State.rd
  split at h
  · next e => simp [e, h]
  · next e => simp [e, h.1, h.2]

/-- A destination that is written goes on. -/
theorem State.wr_writes {s : State} {r : Reg} {v : Word} {t : State} (h : s.Writes r v t) (go : State → Eff) :
    s.wr r v go = go t := by
  unfold State.Writes at h
  unfold State.wr
  split at h
  · next e => obtain ⟨w, h⟩ := h; simp [e, h]
  · next e => simp [e, h]

/-! ### The forms of scalar instructions -/

theorem alu0_ok {s : State} {d : Reg} {v : Word} {t : State} (hc : s.clear [] [d] = true) (hw : s.Writes d v t) :
    alu0 s d v = .ok t := by
  rw [alu0, State.gate_clear hc, State.wr_writes hw]

theorem alu1_ok {s s1 t : State} {d a : Reg} {e : Bool} {f : Word → Word} {x : Word} (hc : s.clear [a] [d] = true)
    (ha : s.Reads a x s1) (hw : s1.Writes d (f x) t) : alu1 s d a e f = .ok t := by
  rw [alu1, State.gate_clear hc, State.rd_reads ha, State.wr_writes hw]

theorem alu2_ok {s s1 s2 t : State} {d a b : Reg} {e : Bool} {f : Word → Word → Word} {x y : Word}
    (hc : s.clear [a, b] [d] = true) (ha : s.Reads a x s1) (hb : s1.Reads b y s2) (hw : s2.Writes d (f x y) t) :
    alu2 s d a b e f = .ok t := by
  rw [alu2, State.gate_clear hc, State.rd_reads ha, State.rd_reads hb, State.wr_writes hw]

theorem alu3_ok {s s1 s2 s3 t : State} {d a b : Reg} {e : Bool} {f : Word → Word → Word → Word} {x y z : Word}
    (hc : s.clear [a, b, d] [d] = true) (ha : s.Reads a x s1) (hb : s1.Reads b y s2) (hd : s2.Reads d z s3)
    (hw : s3.Writes d (f x y z) t) : alu3 s d a b e f = .ok t := by
  rw [alu3, State.gate_clear hc, State.rd_reads ha, State.rd_reads hb, State.rd_reads hd, State.wr_writes hw]

theorem with1_go {s s1 : State} {a : Reg} {e : Bool} {x : Word} (hc : s.clear [a] [] = true) (ha : s.Reads a x s1)
    (go : Word → State → Eff) : with1 s a e go = go x s1 := by
  rw [with1, State.gate_clear hc, State.rd_reads ha]

theorem with2_go {s s1 s2 : State} {a b : Reg} {e : Bool} {x y : Word} (hc : s.clear [a, b] [] = true)
    (ha : s.Reads a x s1) (hb : s1.Reads b y s2) (go : Word → Word → State → Eff) : with2 s a b e go = go x y s2 := by
  rw [with2, State.gate_clear hc, State.rd_reads ha, State.rd_reads hb]

theorem with3_go {s s1 s2 s3 : State} {a b c : Reg} {e : Bool} {x y z : Word} (hc : s.clear [a, b, c] [] = true)
    (ha : s.Reads a x s1) (hb : s1.Reads b y s2) (hz : s2.Reads c z s3) (go : Word → Word → Word → State → Eff) :
    with3 s a b c e go = go x y z s3 := by
  rw [with3, State.gate_clear hc, State.rd_reads ha, State.rd_reads hb, State.rd_reads hz]

/-! ### Vector operands -/

/-- A vector source that is read goes on with its value. -/
theorem State.rdV_reads {s t : State} {e : Bool} {n : VNo} {x : VReg} (h : s.ReadsV n x t) (go : VReg → State → Eff) :
    s.rdV e n go = go x t := by
  unfold State.ReadsV at h
  unfold State.rdV
  split at h
  · next c =>
    obtain ⟨y, l, hl, hg, hb, hx, ht⟩ := h
    simp [c, hl, hg, hb, hx, ht]
  · next c => simp [c, h.1, h.2]

/-- A vector source that is read leaves the rest of the instruction's entries to be found after it. -/
theorem State.notReady_reads {s t : State} {e : Bool} {d : Option VNo} {n : VNo} {l : List VNo} {x : VReg}
    (h : s.ReadsV n x t) : s.notReady e d (n :: l) = t.notReady e d l := by
  unfold State.ReadsV at h
  rw [State.notReady]
  split at h
  · next c =>
    obtain ⟨y, r, hl, hg, hb, hx, ht⟩ := h
    simp [c, hl, hg, ht]
  · next c => simp [c, h.2]

/-- Raising flags changes no queue. -/
theorem State.noRoom_raise (s : State) (f : Flags) (n : VNo) : (s.raise f).noRoom n = s.noRoom n := by
  have e1 : (s.raise f).here.q = s.here.q := by unfold State.raise; rw [State.here_modHere]; rfl
  have e2 : (s.raise f).here.eng = s.here.eng := by unfold State.raise; rw [State.here_modHere]; rfl
  unfold State.noRoom Core.heldSq Core.sq
  rw [e1, e2]

/-- A vector destination that takes its result has room. -/
theorem State.noRoom_writes {s t : State} {n : VNo} {w : Nat} {p : PReg} {v : VReg} (h : s.WritesV n w p v t) :
    s.noRoom n = none := by
  unfold State.WritesV at h
  unfold State.noRoom
  split at h
  · next c => simp [show n.toNat < 60 by omega]
  · split at h
    · exact h.elim
    · next c2 =>
      split at h
      · next c3 => simp [c3, h.1]
      · next c3 => simp [c2, c3, h.1]

/-- Instructions whose entries and room are there begin (R177). -/
theorem State.vgate_one {s s1 t : State} {e : Bool} {a d : VNo} {x v : VReg} {w : Nat} {p : PReg}
    (ha : s.ReadsV a x s1) (ht : s1.WritesV d w p v t) (go : Eff) : s.vgate e [a] (some d) go = go := by
  rw [State.vgate, State.notReady_reads ha, State.notReady, Option.bind_some, State.noRoom_writes ht]
  rfl

theorem State.vgate_two {s s1 s2 t : State} {e : Bool} {a b d : VNo} {x y v : VReg} {w : Nat} {p : PReg}
    (ha : s.ReadsV a x s1) (hb : s1.ReadsV b y s2) (ht : s2.WritesV d w p v t) (go : Eff) :
    s.vgate e [a, b] (some d) go = go := by
  rw [State.vgate, State.notReady_reads ha, State.notReady_reads hb, State.notReady, Option.bind_some,
    State.noRoom_writes ht]
  rfl

theorem State.vgate_src {s s1 : State} {e : Bool} {a : VNo} {x : VReg} (ha : s.ReadsV a x s1) (go : Eff) :
    s.vgate e [a] none go = go := by
  rw [State.vgate, State.notReady_reads ha, State.notReady]
  rfl

theorem State.vgate_srcs {s s1 s2 : State} {e : Bool} {a b : VNo} {x y : VReg} (ha : s.ReadsV a x s1)
    (hb : s1.ReadsV b y s2) (go : Eff) : s.vgate e [a, b] none go = go := by
  rw [State.vgate, State.notReady_reads ha, State.notReady_reads hb, State.notReady]
  rfl

/-- A vector destination that takes its result goes on. -/
theorem State.wrV_writes {s t : State} {n : VNo} {w : Nat} {p : PReg} {v : VReg} (h : s.WritesV n w p v t)
    (go : State → Eff) : s.wrV n w p v go = go t := by
  unfold State.WritesV at h
  unfold State.wrV
  split at h
  · next c => simp [c, h]
  · next c =>
    split at h
    · exact h.elim
    · next c2 =>
      split at h
      · next c3 => simp [c3, h.1, h.2]
      · next c3 => simp [c, c2, c3, h.1, h.2]

/-! ### How an instruction ends -/

theorem issueA_ok (s t : State) : issueA s (.ok t) = .next (s.pastA t 4) := rfl
theorem issueL_ok (s t : State) : issueL s (.ok t) = .next (s.pastA t 8) := rfl
theorem issueA_jump (s t : State) (pc : Word) : issueA s (.jump t pc) = .next (t.jumpA pc) := rfl
theorem issueX_ok (s t : State) : issueX s (.ok t) = .next (s.pastX t) := rfl
theorem issueA_fault (s : State) (f : Flt) : issueA s (.fault f) = .next (s.takeFault s.cur .a f) := rfl
theorem issueA_trap (s : State) (t : Trap) : issueA s (.trap t) = .next (s.takeTrap s.cur t) := rfl
theorem issueA_stall (s : State) (w : Wait) : issueA s (.stall w) = .next (s.modHere (·.stallA w)) := rfl

/-- An instruction of the A-strand goes on, whatever its effect. -/
theorem goesOn_issueA (s : State) (e : Eff) : goesOn (issueA s e) = true := by cases e <;> rfl

end Sys2Proof.Machine
end

