-- ==== Sys2Proof/Laws/Frame.lean ====
section
/-! SUPPORT. What the shared operations leave alone: taking a fault, a trap or an event, pops and pushes of ports, and the
ends of instructions keep every general, vector and predicate register, every flag, every engine and all memory; a window
keeps its descriptor and its frames, and an FLTCLOSE that they leave not begun is undone (R178). -/
namespace Sys2Proof.Machine

/-- What an exception, a stall or a port leaves of a core. -/
structure Core.Kept (k l : Core) : Prop where
  s : l.a.s = k.a.s
  empty : l.a.empty = k.a.empty
  v : l.x.v = k.x.v
  p : l.x.p = k.x.p
  vrb : l.x.vrb = k.x.vrb
  prb : l.x.prb = k.x.prb
  lc : l.x.lc = k.x.lc
  flags : l.ctl.flags = k.ctl.flags
  mode : l.ctl.mode = k.ctl.mode
  eng : { l.eng with win := [] } = { k.eng with win := [] }
  win : ∀ n, (Tbl.find? l.eng.win n).map (fun w => (w.desc, w.frames)) = (Tbl.find? k.eng.win n).map fun w => (w.desc, w.frames)
  info : l.info = k.info
  occ : l.occ = k.occ

theorem Core.Kept.refl (k : Core) : Core.Kept k k := ⟨rfl, rfl, rfl, rfl, rfl, rfl, rfl, rfl, rfl, rfl, fun _ => rfl, rfl, rfl⟩

theorem Core.Kept.trans {k l m : Core} (h : Core.Kept k l) (g : Core.Kept l m) : Core.Kept k m :=
  ⟨g.s.trans h.s, g.empty.trans h.empty, g.v.trans h.v, g.p.trans h.p, g.vrb.trans h.vrb, g.prb.trans h.prb, g.lc.trans h.lc,
    g.flags.trans h.flags, g.mode.trans h.mode, g.eng.trans h.eng, fun n => (g.win n).trans (h.win n), g.info.trans h.info, g.occ.trans h.occ⟩

/-- Registers read alike. -/
theorem Core.Kept.reg {k l : Core} (h : Core.Kept k l) (r : Reg) : l.reg r = k.reg r := by simp only [Core.reg, h.s]

theorem Tbl.find?_mapVal {α : Type} (f : Nat → α → α) (t : Tbl α) (n : Nat) :
    Tbl.find? (Tbl.mapVal f t) n = (Tbl.find? t n).map (f n) := by
  induction t with
  | nil => rfl
  | cons q t ih =>
    simp only [Tbl.mapVal, Tbl.find?]
    split
    · rename_i h; subst h; rfl
    · exact ih

/-- Leaving an FLTCLOSE not begun keeps every window's descriptor and frames. -/
theorem Core.Kept.reopen (k : Core) : Core.Kept k k.reopen :=
  ⟨rfl, rfl, rfl, rfl, rfl, rfl, rfl, rfl, rfl, rfl, fun n => by simp [Core.reopen, Tbl.find?_mapVal, Function.comp_def],
    rfl, rfl⟩

/-- A wait that a fault ends was part of no register. -/
theorem Core.Kept.endWait (k : Core) (st : Strand) (f : Flt) : Core.Kept k (k.endWait st f) := by
  unfold Core.endWait
  split
  · exact ⟨rfl, rfl, rfl, rfl, rfl, rfl, rfl, rfl, rfl, rfl, fun _ => rfl, rfl, rfl⟩
  · exact .refl _

/-- What an exception, a stall or a port leaves of the machine, memory apart. -/
structure State.Kept (s t : State) : Prop where
  cur : t.cur = s.cur
  core : ∀ c, Core.Kept (s.core c) (t.core c)
  mem : t.mem = s.mem
  poison : t.poison = s.poison
  amorr : t.amorr = s.amorr
  power : t.power = s.power
  sl : t.sl = s.sl
  clk : t.clk = s.clk

theorem State.Kept.refl (s : State) : State.Kept s s := ⟨rfl, fun _ => .refl _, rfl, rfl, rfl, rfl, rfl, rfl⟩

theorem State.Kept.trans {s t u : State} (h : State.Kept s t) (g : State.Kept t u) : State.Kept s u :=
  ⟨g.cur.trans h.cur, fun c => (h.core c).trans (g.core c), g.mem.trans h.mem, g.poison.trans h.poison,
    g.amorr.trans h.amorr, g.power.trans h.power, g.sl.trans h.sl, g.clk.trans h.clk⟩

theorem State.Kept.here {s t : State} (h : State.Kept s t) : Core.Kept s.here t.here := by
  unfold State.here; rw [h.cur]; exact h.core _

theorem State.Kept.modCore (s : State) (c : CoreId) (f : Core → Core) (hf : ∀ k, Core.Kept k (f k)) :
    State.Kept s (s.modCore c f) := by
  refine ⟨rfl, fun d => ?_, rfl, rfl, rfl, rfl, rfl, rfl⟩
  by_cases h : d = c
  · subst h; rw [State.core_modCore_same]; exact hf _
  · rw [State.core_modCore_ne s f h]; exact .refl _

theorem State.Kept.modHere (s : State) (f : Core → Core) (hf : ∀ k, Core.Kept k (f k)) : State.Kept s (s.modHere f) :=
  State.Kept.modCore s s.cur f hf

theorem State.Kept.modPart (s : State) (p : PartId) (f : Part → Part) : State.Kept s (s.modPart p f) :=
  ⟨rfl, fun _ => .refl _, rfl, rfl, rfl, rfl, rfl, rfl⟩

theorem State.Kept.modMyPart (s : State) (f : Part → Part) : State.Kept s (s.modMyPart f) := State.Kept.modPart s _ f

theorem State.Kept.queueRecs (s : State) (p : PartId) (l : List RingRec) : State.Kept s (s.queueRecs p l) :=
  State.Kept.modPart s p _

theorem State.Kept.foldl {α : Type} (g : State → α → State) (hg : ∀ s x, State.Kept s (g s x)) (l : List α) (s : State) :
    State.Kept s (l.foldl g s) := by
  induction l generalizing s with
  | nil => exact .refl _
  | cons x l ih => exact (hg s x).trans (ih _)

theorem Core.Kept.hold (k : Core) (h : Option Hold) : Core.Kept k { k with hold := h } :=
  ⟨rfl, rfl, rfl, rfl, rfl, rfl, rfl, rfl, rfl, rfl, fun _ => rfl, rfl, rfl⟩

/-- Holding a task keeps its data: its record goes to the ring (R299). -/
theorem State.Kept.holdTask (s : State) (c : CoreId) (st : Strand) (kind code : BitVec 8) (f : Flt) :
    State.Kept s (s.holdTask c st kind code f) := by
  unfold State.holdTask
  refine State.Kept.trans ?_ (State.Kept.queueRecs _ _ _)
  refine State.Kept.trans (State.Kept.modCore s c
    (fun k => { k.endWait st f with hold := some (ownHold st kind code s.clk) })
    fun k => (Core.Kept.endWait k st f).trans (Core.Kept.hold _ _)) ?_
  refine State.Kept.foldl _ (fun u m => State.Kept.modCore u m _ fun k => ?_) _ _
  split
  · exact .refl _
  · exact Core.Kept.hold k _

theorem State.Kept.stopPart (s : State) (p : PartId) : State.Kept s (s.stopPart p) :=
  ⟨rfl, fun _ => .refl _, rfl, rfl, rfl, rfl, rfl, rfl⟩

/-- Taking an event moves the supervisor core to SVEC and keeps every register (R295). -/
theorem State.Kept.takeEvent (s : State) (p : PartId) (cause : BitVec 8) (pc : Word) :
    State.Kept s (s.takeEvent p cause pc) := by
  unfold State.takeEvent
  exact (State.Kept.modPart s p _).trans
    (State.Kept.modCore _ _ _ fun k => (Core.Kept.reopen k).trans
      ⟨rfl, rfl, rfl, rfl, rfl, rfl, rfl, rfl, rfl, rfl, fun _ => rfl, rfl, rfl⟩)

theorem State.Kept.supFault (s : State) (c : CoreId) (code : BitVec 8) (pc : Word) :
    State.Kept s (s.supFault c code pc) := by
  unfold State.supFault
  split
  · exact .stopPart _ _
  · exact (State.Kept.modPart _ _ _).trans (.takeEvent _ _ _ _)

theorem State.Kept.closeFlt (s : State) (f : Flt) : State.Kept s (s.closeFlt f).2 := by
  unfold State.closeFlt
  split
  · exact ⟨rfl, fun _ => .refl _, rfl, rfl, rfl, rfl, rfl, rfl⟩
  · exact .refl _

theorem State.Kept.replaceFault (s : State) (c : CoreId) (st : Strand) (f : Flt) :
    State.Kept s (s.replaceFault c st f) :=
  (((State.Kept.closeFlt s f).trans (.modCore _ c
      (fun k => { k.endWait st f with hold := some { ownHold st 0 (faultNum f.code) s.clk with
        left := if st == .x then (((s.core c).hold.map (·.left)).getD []).filter (· == .a) else [] } })
      fun k => (Core.Kept.endWait k st f).trans (.hold _ _))).trans (.modPart _ _ _)).trans (.queueRecs _ _ _)

theorem Core.Kept.yieldFault (k : Core) : Core.Kept k k.yieldFault := by
  unfold Core.yieldFault
  split
  · exact .refl _
  · exact ⟨rfl, rfl, rfl, rfl, rfl, rfl, rfl, rfl, rfl, rfl, fun _ => rfl, rfl, rfl⟩

/-- A fault of the clk of an earlier one keeps every register, flag and byte (R299, R303). -/
theorem State.Kept.sameClkFault (s : State) (c : CoreId) (st : Strand) (h : Hold) (f : Flt) :
    State.Kept s (s.sameClkFault c st h f) := by
  unfold State.sameClkFault
  split
  · exact .refl _
  · split
    · exact .replaceFault _ _ _ _
    · exact .refl _
  · split
    · exact .refl _
    · dsimp only
      split
      · exact .refl _
      · split
        · exact (State.Kept.modCore _ _ _ Core.Kept.yieldFault).trans (.replaceFault _ _ _ _)
        · exact .modCore _ _ _ fun _ => .hold _ _

/-- So does a fault on a core that a fault already holds. -/
theorem State.Kept.lateFault (s : State) (c : CoreId) (st : Strand) (h : Hold) (f : Flt) :
    State.Kept s (s.lateFault c st h f) := by
  unfold State.lateFault
  split
  · exact .sameClkFault _ _ _ _ _
  · split
    · exact .modCore _ _ _ fun _ => .hold _ _
    · exact .refl _

/-- Taking a fault keeps every register, flag and byte (R299). -/
theorem State.Kept.takeFault (s : State) (c : CoreId) (st : Strand) (f : Flt) : State.Kept s (s.takeFault c st f) := by
  unfold State.takeFault
  dsimp only
  split
  · split
    · exact .refl _
    · exact .supFault _ _ _ _
  · split
    · exact .lateFault _ _ _ _ _
    · exact (State.Kept.closeFlt s f).trans (State.Kept.holdTask _ _ _ _ _ _)

/-- Taking a user trap keeps every register, flag and byte (R172). -/
theorem State.Kept.takeTrap (s : State) (c : CoreId) (t : Trap) : State.Kept s (s.takeTrap c t) := by
  unfold State.takeTrap
  split
  · unfold State.escalate
    dsimp only
    split
    · exact .supFault _ _ _ _
    · split
      · exact .refl _
      · exact .holdTask _ _ _ _ _ _
  · exact .modCore _ _ _ fun k => (Core.Kept.reopen k).trans
      ⟨rfl, rfl, rfl, rfl, rfl, rfl, rfl, rfl, rfl, rfl, fun _ => rfl, rfl, rfl⟩

theorem State.Kept.leaveEvent (s : State) (p : PartId) : State.Kept s (s.leaveEvent p) := by
  unfold State.leaveEvent
  have h := (State.Kept.modPart s p fun P => { P with sup := { P.sup with inev := false, pend := false, begun := [] } }).trans
    (State.Kept.modCore _ (s.part p).score (fun k => { k with a := { k.a with pc := (s.part p).sup.sepc, begun := (s.part p).sup.begun } })
      fun _ => ⟨rfl, rfl, rfl, rfl, rfl, rfl, rfl, rfl, rfl, rfl, fun _ => rfl, rfl, rfl⟩)
  dsimp only
  split
  · exact h.trans (.takeEvent _ _ _ _)
  · exact h

theorem State.Kept.setLinkX (s : State) (q : BitVec 16) (x : W32) : State.Kept s (s.setLinkX q x) :=
  State.Kept.modMyPart s _

theorem Core.Kept.retireA (k : Core) (pc : Word) : Core.Kept k (k.retireA pc) :=
  ⟨rfl, rfl, rfl, rfl, rfl, rfl, rfl, rfl, rfl, rfl, fun _ => rfl, rfl, rfl⟩
theorem Core.Kept.retireX (k : Core) (pc : Word) : Core.Kept k (k.retireX pc) :=
  ⟨rfl, rfl, rfl, rfl, rfl, rfl, rfl, rfl, rfl, rfl, fun _ => rfl, rfl, rfl⟩
theorem Core.Kept.stallA (k : Core) (w : Wait) : Core.Kept k (k.stallA w) :=
  ⟨rfl, rfl, rfl, rfl, rfl, rfl, rfl, rfl, rfl, rfl, fun _ => rfl, rfl, rfl⟩
theorem Core.Kept.stallX (k : Core) (w : Wait) : Core.Kept k (k.stallX w) :=
  ⟨rfl, rfl, rfl, rfl, rfl, rfl, rfl, rfl, rfl, rfl, fun _ => rfl, rfl, rfl⟩
theorem Core.Kept.clearBad (k : Core) (r : Reg) : Core.Kept k (k.clearBad r) :=
  ⟨rfl, rfl, rfl, rfl, rfl, rfl, rfl, rfl, rfl, rfl, fun _ => rfl, rfl, rfl⟩

theorem State.Kept.faultOnce (s : State) (c : CoreId) (g : Core → Core) (f : Flt) (hg : ∀ k, Core.Kept k (g k)) :
    State.Kept s (s.faultOnce c g f) := by
  unfold State.faultOnce
  dsimp only
  split
  · exact (State.Kept.takeFault s c .a f).trans (.modCore _ _ _ hg)
  · exact .takeFault s c .a f

/-! ### Ports -/

theorem State.Kept.modSpm (s : State) (c : CoreId) (f : Spm → Spm) : State.Kept s (s.modSpm c f) :=
  .modCore _ _ _ fun _ => ⟨rfl, rfl, rfl, rfl, rfl, rfl, rfl, rfl, rfl, rfl, fun _ => rfl, rfl, rfl⟩

theorem State.Kept.notePop (s : State) : State.Kept s s.notePop := by
  unfold State.notePop
  split
  · exact .modMyPart _ _
  · exact .refl _

theorem State.Kept.deliver (s : State) (qid : BitVec 16) (q : Queue) (d : Word) (i : QItem) :
    State.Kept s (s.deliver qid q d i).1 := by
  unfold State.deliver
  dsimp only
  split
  · exact (State.Kept.modMyPart s _).trans (.modSpm _ _ _)
  · exact .modMyPart s _

/-- A pop of a port keeps every register, flag and byte of memory (R37, R160). -/
theorem State.Kept.popPort {s t : State} {r : Reg} {w : Word} (h : s.popPort r = .val w t) : State.Kept s t := by
  unfold State.popPort at h
  dsimp only at h
  split at h
  · split at h
    · cases h
    · cases h; exact .modHere _ _ fun _ => ⟨rfl, rfl, rfl, rfl, rfl, rfl, rfl, rfl, rfl, rfl, fun _ => rfl, rfl, rfl⟩
  · split at h
    · cases h
    · split at h
      · cases h
      · unfold State.popQueue at h
        split at h
        · cases h
        · split at h
          · cases h
          · split at h
            · cases h
            · split at h
              · cases h
              · split at h
                · cases h
                · dsimp only at h
                  cases h
                  split
                  · exact (State.Kept.deliver _ _ _ _ _).trans (.notePop _)
                  · exact .deliver _ _ _ _ _

theorem State.Kept.pushRill {s t : State} {n : BitVec 3} {d v w : Word} {q : Queue}
    (h : s.pushRill n d v q = .val w t) : State.Kept s t := by
  unfold State.pushRill at h
  dsimp only at h
  split at h
  · cases h
  · split at h
    · split at h
      · cases h
      · split at h
        · split at h
          · cases h
          · cases h; exact .modMyPart _ _
        · cases h
    · split at h
      · cases h
      · split at h
        · cases h
        · split at h
          · cases h
          · cases h; exact .modMyPart _ _

/-- A push to a port keeps every register, flag and byte of memory (R37, R160). -/
theorem State.Kept.pushPort {s t : State} {r : Reg} {v w : Word} (h : s.pushPort r v = .val w t) : State.Kept s t := by
  unfold State.pushPort at h
  dsimp only at h
  split at h
  · cases h
  · split at h
    · cases h
    · split at h
      · unfold State.pushQueue at h
        split at h
        · cases h
        · split at h
          · exact .pushRill h
          · split at h
            · cases h
            · split at h
              · cases h
              · cases h; exact .modMyPart _ _
      · cases h

/-- A source read keeps every register, flag and byte of memory. -/
theorem State.Reads.kept {s t : State} {r : Reg} {x : Word} (h : s.Reads r x t) : State.Kept s t := by
  unfold State.Reads at h
  split at h
  · exact .popPort h
  · rw [h.2]; exact .refl _

/-! ### How an instruction's end keeps what it has not written -/

/-- An A-strand instruction that does not complete keeps every register, flag and byte. -/
theorem State.Kept.unfinished {len : Word} {s t : State} {e : Eff} (h : finishA len s e = .next t)
    (h1 : ∀ u, e ≠ .ok u) (h2 : ∀ u pc, e ≠ .jump u pc) (h3 : ∀ u w, e ≠ .stallIn u w) : State.Kept s t := by
  cases e with
  | ok u => exact absurd rfl (h1 u)
  | jump u pc => exact absurd rfl (h2 u pc)
  | stallIn u w => exact absurd rfl (h3 u w)
  | stall w => cases h; exact .modHere _ _ fun k => Core.Kept.stallA k w
  | fault f => cases h; exact .takeFault _ _ _ _
  | faultReg r f => cases h; exact .faultOnce _ _ _ _ fun k => Core.Kept.clearBad k r
  | trap x => cases h; exact .takeTrap _ _ _
  | trapX q x y => cases h; exact (State.Kept.setLinkX _ _ _).trans (.takeTrap _ _ _)

/-- The gate goes on or does not begin. -/
theorem State.gate_cases (s : State) (e : Bool) (srcs dsts : List Reg) (go : Eff) :
    s.gate e srcs dsts go = go ∨ (∃ f, s.gate e srcs dsts go = .fault f) ∨ (∃ r f, s.gate e srcs dsts go = .faultReg r f) ∨
      (∃ t, s.gate e srcs dsts go = .trap t) ∨ (∃ w, s.gate e srcs dsts go = .stall w) := by
  unfold State.gate
  dsimp only
  repeat' split
  all_goals simp

/-- A source is read, or the instruction does not begin. -/
theorem State.rd_cases (s : State) (r : Reg) (go : Word → State → Eff) :
    (∃ x t, s.Reads r x t ∧ s.rd r go = go x t) ∨ (∃ f, s.rd r go = .fault f) ∨ (∃ w, s.rd r go = .stall w) ∨
      (∃ q x t, s.rd r go = .trapX q x t) := by
  by_cases h : isPort r = true
  · simp only [State.rd, State.Reads, h, if_true]
    cases s.popPort r with
    | val w t => exact .inl ⟨w, t, rfl, rfl⟩
    | wait w => exact .inr (.inr (.inl ⟨w, rfl⟩))
    | flt f => exact .inr (.inl ⟨f, rfl⟩)
    | trap q x t => exact .inr (.inr (.inr ⟨q, x, t, rfl⟩))
  · exact .inl ⟨_, _, by rw [State.Reads, if_neg h]; exact ⟨rfl, rfl⟩, by rw [State.rd, if_neg h]⟩

/-- A destination is written, or the instruction does not begin. -/
theorem State.wr_cases (s : State) (r : Reg) (v : Word) (go : State → Eff) :
    (∃ t, s.Writes r v t ∧ s.wr r v go = go t) ∨ (∃ f, s.wr r v go = .fault f) ∨ (∃ w, s.wr r v go = .stall w) ∨
      (∃ q x t, s.wr r v go = .trapX q x t) := by
  by_cases h : isPort r = true
  · simp only [State.wr, State.Writes, h, if_true]
    cases s.pushPort r v with
    | val w t => exact .inl ⟨t, ⟨w, rfl⟩, rfl⟩
    | wait w => exact .inr (.inr (.inl ⟨w, rfl⟩))
    | flt f => exact .inr (.inl ⟨f, rfl⟩)
    | trap q x t => exact .inr (.inr (.inr ⟨q, x, t, rfl⟩))
  · exact .inl ⟨_, by rw [State.Writes, if_neg h], by rw [State.wr, if_neg h]⟩

end Sys2Proof.Machine
end

