-- ==== Sys2Proof/Laws/PerInstr.lean ====
section
/-! SUPPORT. Per instruction: the encoder gives no word just for a hardware step, and at most two words otherwise (R120, R121). -/

/-- The encoder gives words just for the instructions that have an encoding, one or two of them. -/
def Sys2Proof.Laws.WordCount.Statement (i : Sys2Proof.Instr) : Prop :=
  (Sys2Proof.encode i).isEmpty = Sys2Proof.isEvent i ∧ (Sys2Proof.encode i).length ≤ 2

/-- How a constructor meets it: both sides compute. -/
theorem Sys2Proof.Laws.WordCount.of (i : Sys2Proof.Instr) (h : (Sys2Proof.encode i).isEmpty = Sys2Proof.isEvent i)
    (n : Nat.ble (Sys2Proof.encode i).length 2 = true) : Sys2Proof.Laws.WordCount.Statement i := ⟨h, Nat.le_of_ble_eq_true n⟩

namespace Sys2Proof.Laws.WordCount
open Sys2Proof

theorem add (d : Reg) (a : Reg) (b : Reg) (e : Bool) : Statement (.add d a b e) := of _ rfl rfl
theorem sub (d : Reg) (a : Reg) (b : Reg) (e : Bool) : Statement (.sub d a b e) := of _ rfl rfl
theorem mul (d : Reg) (a : Reg) (b : Reg) (e : Bool) : Statement (.mul d a b e) := of _ rfl rfl
theorem mulh (d : Reg) (a : Reg) (b : Reg) (e : Bool) : Statement (.mulh d a b e) := of _ rfl rfl
theorem mulhu (d : Reg) (a : Reg) (b : Reg) (e : Bool) : Statement (.mulhu d a b e) := of _ rfl rfl
theorem divu (d : Reg) (a : Reg) (b : Reg) (e : Bool) : Statement (.divu d a b e) := of _ rfl rfl
theorem remu (d : Reg) (a : Reg) (b : Reg) (e : Bool) : Statement (.remu d a b e) := of _ rfl rfl
theorem and (d : Reg) (a : Reg) (b : Reg) (e : Bool) : Statement (.and d a b e) := of _ rfl rfl
theorem or (d : Reg) (a : Reg) (b : Reg) (e : Bool) : Statement (.or d a b e) := of _ rfl rfl
theorem xor (d : Reg) (a : Reg) (b : Reg) (e : Bool) : Statement (.xor d a b e) := of _ rfl rfl
theorem andn (d : Reg) (a : Reg) (b : Reg) (e : Bool) : Statement (.andn d a b e) := of _ rfl rfl
theorem orn (d : Reg) (a : Reg) (b : Reg) (e : Bool) : Statement (.orn d a b e) := of _ rfl rfl
theorem shl (d : Reg) (a : Reg) (b : Reg) (e : Bool) : Statement (.shl d a b e) := of _ rfl rfl
theorem shr (d : Reg) (a : Reg) (b : Reg) (e : Bool) : Statement (.shr d a b e) := of _ rfl rfl
theorem sar (d : Reg) (a : Reg) (b : Reg) (e : Bool) : Statement (.sar d a b e) := of _ rfl rfl
theorem rotr (d : Reg) (a : Reg) (b : Reg) (e : Bool) : Statement (.rotr d a b e) := of _ rfl rfl
theorem min (d : Reg) (a : Reg) (b : Reg) (e : Bool) : Statement (.min d a b e) := of _ rfl rfl
theorem max (d : Reg) (a : Reg) (b : Reg) (e : Bool) : Statement (.max d a b e) := of _ rfl rfl
theorem minu (d : Reg) (a : Reg) (b : Reg) (e : Bool) : Statement (.minu d a b e) := of _ rfl rfl
theorem maxu (d : Reg) (a : Reg) (b : Reg) (e : Bool) : Statement (.maxu d a b e) := of _ rfl rfl
theorem slt (d : Reg) (a : Reg) (b : Reg) (e : Bool) : Statement (.slt d a b e) := of _ rfl rfl
theorem sltu (d : Reg) (a : Reg) (b : Reg) (e : Bool) : Statement (.sltu d a b e) := of _ rfl rfl
theorem seq (d : Reg) (a : Reg) (b : Reg) (e : Bool) : Statement (.seq d a b e) := of _ rfl rfl
theorem sne (d : Reg) (a : Reg) (b : Reg) (e : Bool) : Statement (.sne d a b e) := of _ rfl rfl
theorem clz (d : Reg) (a : Reg) (e : Bool) : Statement (.clz d a e) := of _ rfl rfl
theorem ctz (d : Reg) (a : Reg) (e : Bool) : Statement (.ctz d a e) := of _ rfl rfl
theorem popc (d : Reg) (a : Reg) (e : Bool) : Statement (.popc d a e) := of _ rfl rfl
theorem bfx (d : Reg) (a : Reg) (b : Reg) (e : Bool) : Statement (.bfx d a b e) := of _ rfl rfl
theorem bfxu (d : Reg) (a : Reg) (b : Reg) (e : Bool) : Statement (.bfxu d a b e) := of _ rfl rfl
theorem bfi (d : Reg) (a : Reg) (b : Reg) (e : Bool) : Statement (.bfi d a b e) := of _ rfl rfl
theorem selnz (d : Reg) (a : Reg) (b : Reg) (e : Bool) : Statement (.selnz d a b e) := of _ rfl rfl
theorem addi (d : Reg) (a : Reg) (i : BitVec 13) : Statement (.addi d a i) := of _ rfl rfl
theorem andi (d : Reg) (a : Reg) (i : BitVec 13) : Statement (.andi d a i) := of _ rfl rfl
theorem ori (d : Reg) (a : Reg) (i : BitVec 13) : Statement (.ori d a i) := of _ rfl rfl
theorem xori (d : Reg) (a : Reg) (i : BitVec 13) : Statement (.xori d a i) := of _ rfl rfl
theorem shli (d : Reg) (a : Reg) (c : BitVec 6) : Statement (.shli d a c) := of _ rfl rfl
theorem shri (d : Reg) (a : Reg) (c : BitVec 6) : Statement (.shri d a c) := of _ rfl rfl
theorem sari (d : Reg) (a : Reg) (c : BitVec 6) : Statement (.sari d a c) := of _ rfl rfl
theorem slti (d : Reg) (a : Reg) (i : BitVec 13) : Statement (.slti d a i) := of _ rfl rfl
theorem lih (d : Reg) (i : BitVec 19) : Statement (.lih d i) := of _ rfl rfl
theorem ldb (d : Reg) (a : Reg) (c : BitVec 4) (o : BitVec 9) : Statement (.ldb d a c o) := of _ rfl rfl
theorem ldbu (d : Reg) (a : Reg) (c : BitVec 4) (o : BitVec 9) : Statement (.ldbu d a c o) := of _ rfl rfl
theorem ldh (d : Reg) (a : Reg) (c : BitVec 4) (o : BitVec 9) : Statement (.ldh d a c o) := of _ rfl rfl
theorem ldhu (d : Reg) (a : Reg) (c : BitVec 4) (o : BitVec 9) : Statement (.ldhu d a c o) := of _ rfl rfl
theorem ldw (d : Reg) (a : Reg) (c : BitVec 4) (o : BitVec 9) : Statement (.ldw d a c o) := of _ rfl rfl
theorem ldwu (d : Reg) (a : Reg) (c : BitVec 4) (o : BitVec 9) : Statement (.ldwu d a c o) := of _ rfl rfl
theorem ldd (d : Reg) (a : Reg) (c : BitVec 4) (o : BitVec 9) : Statement (.ldd d a c o) := of _ rfl rfl
theorem stb (d : Reg) (a : Reg) (c : BitVec 4) (o : BitVec 9) : Statement (.stb d a c o) := of _ rfl rfl
theorem sth (d : Reg) (a : Reg) (c : BitVec 4) (o : BitVec 9) : Statement (.sth d a c o) := of _ rfl rfl
theorem stw (d : Reg) (a : Reg) (c : BitVec 4) (o : BitVec 9) : Statement (.stw d a c o) := of _ rfl rfl
theorem std (d : Reg) (a : Reg) (c : BitVec 4) (o : BitVec 9) : Statement (.std d a c o) := of _ rfl rfl
theorem amo (d : Reg) (a : Reg) (b : Reg) (op : AmoOp) (sc : Scope) : Statement (.amo d a b op sc) := of _ rfl rfl
theorem amorr (d : Reg) (a : Reg) (b : Reg) (op : AmoOp) (sc : Scope) : Statement (.amorr d a b op sc) := of _ rfl rfl
theorem ldacq (d : Reg) (a : Reg) (c : BitVec 4) (sc : Scope) (o : BitVec 6) : Statement (.ldacq d a c sc o) := of _ rfl rfl
theorem strel (d : Reg) (a : Reg) (c : BitVec 4) (sc : Scope) (o : BitVec 6) : Statement (.strel d a c sc o) := of _ rfl rfl
theorem fence (m : BitVec 16) (sc : Scope) : Statement (.fence m sc) := of _ rfl rfl
theorem spldb (d : Reg) (a : Reg) (b : Reg) (e : Bool) : Statement (.spldb d a b e) := of _ rfl rfl
theorem spldh (d : Reg) (a : Reg) (b : Reg) (e : Bool) : Statement (.spldh d a b e) := of _ rfl rfl
theorem spldw (d : Reg) (a : Reg) (b : Reg) (e : Bool) : Statement (.spldw d a b e) := of _ rfl rfl
theorem spldd (d : Reg) (a : Reg) (b : Reg) (e : Bool) : Statement (.spldd d a b e) := of _ rfl rfl
theorem spstb (d : Reg) (a : Reg) (b : Reg) (e : Bool) : Statement (.spstb d a b e) := of _ rfl rfl
theorem spsth (d : Reg) (a : Reg) (b : Reg) (e : Bool) : Statement (.spsth d a b e) := of _ rfl rfl
theorem spstw (d : Reg) (a : Reg) (b : Reg) (e : Bool) : Statement (.spstw d a b e) := of _ rfl rfl
theorem spstd (d : Reg) (a : Reg) (b : Reg) (e : Bool) : Statement (.spstd d a b e) := of _ rfl rfl
theorem spmarkf (a : Reg) (b : Reg) (e : Bool) : Statement (.spmarkf a b e) := of _ rfl rfl
theorem spmarke (a : Reg) (b : Reg) (e : Bool) : Statement (.spmarke a b e) := of _ rfl rfl
theorem sptestf (d : Reg) (a : Reg) (b : Reg) (e : Bool) : Statement (.sptestf d a b e) := of _ rfl rfl
theorem vld (q : BitVec 2) (a : Reg) (b : Reg) (e : Bool) : Statement (.vld q a b e) := of _ rfl rfl
theorem vldDec (q : BitVec 2) (a : Reg) (b : Reg) (e : Bool) : Statement (.vldDec q a b e) := of _ rfl rfl
theorem vldf (q : BitVec 2) (a : Reg) (b : Reg) (e : Bool) : Statement (.vldf q a b e) := of _ rfl rfl
theorem vldfc (q : BitVec 2) (a : Reg) (b : Reg) (e : Bool) : Statement (.vldfc q a b e) := of _ rfl rfl
theorem vst (q : Sq) (a : Reg) (b : Reg) (e : Bool) : Statement (.vst q a b e) := of _ rfl rfl
theorem vstf (q : Sq) (a : Reg) (b : Reg) (e : Bool) : Statement (.vstf q a b e) := of _ rfl rfl
theorem vgth (q : BitVec 2) (a : Reg) (m : BitVec 3) (e : Bool) : Statement (.vgth q a m e) := of _ rfl rfl
theorem vsct (q : Sq) (a : Reg) (m : BitVec 3) (e : Bool) : Statement (.vsct q a m e) := of _ rfl rfl
theorem vldg (q : BitVec 2) (a : Reg) (b : Reg) (e : Bool) : Statement (.vldg q a b e) := of _ rfl rfl
theorem vstg (q : Sq) (a : Reg) (b : Reg) (e : Bool) : Statement (.vstg q a b e) := of _ rfl rfl
theorem qbind (d : Reg) (a : Reg) (e : Bool) : Statement (.qbind d a e) := of _ rfl rfl
theorem qunbind (d : Reg) (e : Bool) : Statement (.qunbind d e) := of _ rfl rfl
theorem qwait (d : Reg) (a : Reg) (e : Bool) : Statement (.qwait d a e) := of _ rfl rfl
theorem qstat (d : Reg) (a : Reg) (e : Bool) : Statement (.qstat d a e) := of _ rfl rfl
theorem lrpatch (d : Reg) (a : Reg) (b : Reg) (e : Bool) : Statement (.lrpatch d a b e) := of _ rfl rfl
theorem lrarm (a : Reg) (e : Bool) : Statement (.lrarm a e) := of _ rfl rfl
theorem lrstat (d : Reg) (a : Reg) (b : Reg) (e : Bool) : Statement (.lrstat d a b e) := of _ rfl rfl
theorem jdec (a : Reg) (e : Bool) : Statement (.jdec a e) := of _ rfl rfl
theorem tself (d : Reg) (e : Bool) : Statement (.tself d e) := of _ rfl rfl
theorem gbar (d : Reg) (a : Reg) (e : Bool) : Statement (.gbar d a e) := of _ rfl rfl
theorem garr (d : Reg) (e : Bool) : Statement (.garr d e) := of _ rfl rfl
theorem gwait (d : Reg) (a : Reg) (e : Bool) : Statement (.gwait d a e) := of _ rfl rfl
theorem gpeer (d : Reg) (a : Reg) (e : Bool) : Statement (.gpeer d a e) := of _ rfl rfl
theorem finc (d : Reg) (a : Reg) (e : Bool) : Statement (.finc d a e) := of _ rfl rfl
theorem fwait (d : Reg) (a : Reg) (b : Reg) (e : Bool) : Statement (.fwait d a b e) := of _ rfl rfl
theorem frd (d : Reg) (a : Reg) (e : Bool) : Statement (.frd d a e) := of _ rfl rfl
theorem fclr (d : Reg) (e : Bool) : Statement (.fclr d e) := of _ rfl rfl
theorem twait (d : Reg) (a : Reg) (e : Bool) : Statement (.twait d a e) := of _ rfl rfl
theorem ttest (d : Reg) (a : Reg) (e : Bool) : Statement (.ttest d a e) := of _ rfl rfl
theorem fork (a : Reg) (e : Bool) : Statement (.fork a e) := of _ rfl rfl
theorem slip (i : BitVec 12) (e : Bool) : Statement (.slip i e) := of _ rfl rfl
theorem frame (a : Reg) (e : Bool) : Statement (.frame a e) := of _ rfl rfl
theorem gpush (a : Reg) (e : Bool) : Statement (.gpush a e) := of _ rfl rfl
theorem gpop (d : Reg) (e : Bool) : Statement (.gpop d e) := of _ rfl rfl
theorem gtop (d : Reg) (e : Bool) : Statement (.gtop d e) := of _ rfl rfl
theorem gdepth (d : Reg) (e : Bool) : Statement (.gdepth d e) := of _ rfl rfl
theorem maskf (d : Reg) (a : Reg) (b : Reg) (e : Bool) : Statement (.maskf d a b e) := of _ rfl rfl
theorem mxw (d : Reg) (i : BitVec 12) (e : Bool) : Statement (.mxw d i e) := of _ rfl rfl
theorem mxr (d : Reg) (i : BitVec 12) (e : Bool) : Statement (.mxr d i e) := of _ rfl rfl
theorem meMode (a : Reg) (b : Reg) (e : Bool) (x : Ext) : Statement (.meMode a b e x) := of _ rfl rfl
theorem meMsk (a : Reg) (e : Bool) (x : Ext) : Statement (.meMsk a e x) := of _ rfl rfl
theorem oclaim (pair : Bool) (n : BitVec 3) (e : Bool) : Statement (.oclaim pair n e) := of _ rfl rfl
theorem orels (n : BitVec 3) (e : Bool) : Statement (.orels n e) := of _ rfl rfl
theorem ostat (d : Reg) (e : Bool) : Statement (.ostat d e) := of _ rfl rfl
theorem ceGo (d : Reg) (a : Reg) (e : Bool) (x : Ext) : Statement (.ceGo d a e x) := of _ rfl rfl
theorem ceAbort (d : Reg) (e : Bool) : Statement (.ceAbort d e) := of _ rfl rfl
theorem ceStat (d : Reg) (a : Reg) (e : Bool) : Statement (.ceStat d a e) := of _ rfl rfl
theorem seIns (a : Reg) (b : Reg) (e : Bool) (x : Ext) : Statement (.seIns a b e x) := of _ rfl rfl
theorem seDel (a : Reg) (e : Bool) : Statement (.seDel a e) := of _ rfl rfl
theorem seAge (a : Reg) (b : Reg) (e : Bool) : Statement (.seAge a b e) := of _ rfl rfl
theorem seSel (a : Reg) (e : Bool) (x : Ext) : Statement (.seSel a e x) := of _ rfl rfl
theorem seCnt (d : Reg) (a : Reg) (e : Bool) : Statement (.seCnt d a e) := of _ rfl rfl
theorem seQuota (d : Reg) (a : Reg) (e : Bool) : Statement (.seQuota d a e) := of _ rfl rfl
theorem spermit (d : Reg) (a : Reg) (e : Bool) : Statement (.spermit d a e) := of _ rfl rfl
theorem spret (a : Reg) (e : Bool) : Statement (.spret a e) := of _ rfl rfl
theorem fltarm (d : Reg) (a : Reg) (e : Bool) (x : Ext) : Statement (.fltarm d a e x) := of _ rfl rfl
theorem fltclose (d : Reg) (e : Bool) : Statement (.fltclose d e) := of _ rfl rfl
theorem trap (i : BitVec 12) (e : Bool) : Statement (.trap i e) := of _ rfl rfl
theorem scall (i : BitVec 12) (e : Bool) : Statement (.scall i e) := of _ rfl rfl
theorem rdctl (d : Reg) (i : BitVec 12) (e : Bool) : Statement (.rdctl d i e) := of _ rfl rfl
theorem wrctl (d : Reg) (i : BitVec 12) (e : Bool) : Statement (.wrctl d i e) := of _ rfl rfl
theorem iflush (a : Reg) (b : Reg) (e : Bool) : Statement (.iflush a b e) := of _ rfl rfl
theorem srdctl (d : Reg) (i : BitVec 12) (e : Bool) : Statement (.srdctl d i e) := of _ rfl rfl
theorem swrctl (d : Reg) (i : BitVec 12) (e : Bool) : Statement (.swrctl d i e) := of _ rfl rfl
theorem tlbinv (a : Reg) (b : Reg) (e : Bool) : Statement (.tlbinv a b e) := of _ rfl rfl
theorem sespall (a : Reg) (e : Bool) : Statement (.sespall a e) := of _ rfl rfl
theorem snapt (d : Reg) (a : Reg) (e : Bool) : Statement (.snapt d a e) := of _ rfl rfl
theorem corestop (d : Reg) (a : Reg) (e : Bool) : Statement (.corestop d a e) := of _ rfl rfl
theorem beq (a : Reg) (b : Reg) (o : BitVec 13) : Statement (.beq a b o) := of _ rfl rfl
theorem bne (a : Reg) (b : Reg) (o : BitVec 13) : Statement (.bne a b o) := of _ rfl rfl
theorem blt (a : Reg) (b : Reg) (o : BitVec 13) : Statement (.blt a b o) := of _ rfl rfl
theorem bge (a : Reg) (b : Reg) (o : BitVec 13) : Statement (.bge a b o) := of _ rfl rfl
theorem bltu (a : Reg) (b : Reg) (o : BitVec 13) : Statement (.bltu a b o) := of _ rfl rfl
theorem bgeu (a : Reg) (b : Reg) (o : BitVec 13) : Statement (.bgeu a b o) := of _ rfl rfl
theorem jal (d : Reg) (o : BitVec 19) : Statement (.jal d o) := of _ rfl rfl
theorem jalr (d : Reg) (a : Reg) (i : BitVec 13) : Statement (.jalr d a i) := of _ rfl rfl
theorem loop (d : Reg) (o : BitVec 13) : Statement (.loop d o) := of _ rfl rfl
theorem vaddF32 (d : VNo) (a : VNo) (b : VNo) (p : PNo) (e : Bool) : Statement (.vaddF32 d a b p e) := of _ rfl rfl
theorem vsubF32 (d : VNo) (a : VNo) (b : VNo) (p : PNo) (e : Bool) : Statement (.vsubF32 d a b p e) := of _ rfl rfl
theorem vmulF32 (d : VNo) (a : VNo) (b : VNo) (p : PNo) (e : Bool) : Statement (.vmulF32 d a b p e) := of _ rfl rfl
theorem vminF32 (d : VNo) (a : VNo) (b : VNo) (p : PNo) (e : Bool) : Statement (.vminF32 d a b p e) := of _ rfl rfl
theorem vmaxF32 (d : VNo) (a : VNo) (b : VNo) (p : PNo) (e : Bool) : Statement (.vmaxF32 d a b p e) := of _ rfl rfl
theorem vfmaF32 (d : VNo) (a : VNo) (b : VNo) (p : PNo) (e : Bool) : Statement (.vfmaF32 d a b p e) := of _ rfl rfl
theorem vfnmaF32 (d : VNo) (a : VNo) (b : VNo) (p : PNo) (e : Bool) : Statement (.vfnmaF32 d a b p e) := of _ rfl rfl
theorem vcpsgnF32 (d : VNo) (a : VNo) (b : VNo) (p : PNo) (e : Bool) : Statement (.vcpsgnF32 d a b p e) := of _ rfl rfl
theorem vaddF16 (d : VNo) (a : VNo) (b : VNo) (p : PNo) (e : Bool) : Statement (.vaddF16 d a b p e) := of _ rfl rfl
theorem vsubF16 (d : VNo) (a : VNo) (b : VNo) (p : PNo) (e : Bool) : Statement (.vsubF16 d a b p e) := of _ rfl rfl
theorem vmulF16 (d : VNo) (a : VNo) (b : VNo) (p : PNo) (e : Bool) : Statement (.vmulF16 d a b p e) := of _ rfl rfl
theorem vminF16 (d : VNo) (a : VNo) (b : VNo) (p : PNo) (e : Bool) : Statement (.vminF16 d a b p e) := of _ rfl rfl
theorem vmaxF16 (d : VNo) (a : VNo) (b : VNo) (p : PNo) (e : Bool) : Statement (.vmaxF16 d a b p e) := of _ rfl rfl
theorem vfmaF16 (d : VNo) (a : VNo) (b : VNo) (p : PNo) (e : Bool) : Statement (.vfmaF16 d a b p e) := of _ rfl rfl
theorem vfnmaF16 (d : VNo) (a : VNo) (b : VNo) (p : PNo) (e : Bool) : Statement (.vfnmaF16 d a b p e) := of _ rfl rfl
theorem vcpsgnF16 (d : VNo) (a : VNo) (b : VNo) (p : PNo) (e : Bool) : Statement (.vcpsgnF16 d a b p e) := of _ rfl rfl
theorem vaddBF16 (d : VNo) (a : VNo) (b : VNo) (p : PNo) (e : Bool) : Statement (.vaddBF16 d a b p e) := of _ rfl rfl
theorem vsubBF16 (d : VNo) (a : VNo) (b : VNo) (p : PNo) (e : Bool) : Statement (.vsubBF16 d a b p e) := of _ rfl rfl
theorem vmulBF16 (d : VNo) (a : VNo) (b : VNo) (p : PNo) (e : Bool) : Statement (.vmulBF16 d a b p e) := of _ rfl rfl
theorem vminBF16 (d : VNo) (a : VNo) (b : VNo) (p : PNo) (e : Bool) : Statement (.vminBF16 d a b p e) := of _ rfl rfl
theorem vmaxBF16 (d : VNo) (a : VNo) (b : VNo) (p : PNo) (e : Bool) : Statement (.vmaxBF16 d a b p e) := of _ rfl rfl
theorem vfmaBF16 (d : VNo) (a : VNo) (b : VNo) (p : PNo) (e : Bool) : Statement (.vfmaBF16 d a b p e) := of _ rfl rfl
theorem vfnmaBF16 (d : VNo) (a : VNo) (b : VNo) (p : PNo) (e : Bool) : Statement (.vfnmaBF16 d a b p e) := of _ rfl rfl
theorem vcpsgnBF16 (d : VNo) (a : VNo) (b : VNo) (p : PNo) (e : Bool) : Statement (.vcpsgnBF16 d a b p e) := of _ rfl rfl
theorem vaddI32 (d : VNo) (a : VNo) (b : VNo) (p : PNo) (e : Bool) : Statement (.vaddI32 d a b p e) := of _ rfl rfl
theorem vsubI32 (d : VNo) (a : VNo) (b : VNo) (p : PNo) (e : Bool) : Statement (.vsubI32 d a b p e) := of _ rfl rfl
theorem vmulI32 (d : VNo) (a : VNo) (b : VNo) (p : PNo) (e : Bool) : Statement (.vmulI32 d a b p e) := of _ rfl rfl
theorem vmulhI32 (d : VNo) (a : VNo) (b : VNo) (p : PNo) (e : Bool) : Statement (.vmulhI32 d a b p e) := of _ rfl rfl
theorem vminI32 (d : VNo) (a : VNo) (b : VNo) (p : PNo) (e : Bool) : Statement (.vminI32 d a b p e) := of _ rfl rfl
theorem vmaxI32 (d : VNo) (a : VNo) (b : VNo) (p : PNo) (e : Bool) : Statement (.vmaxI32 d a b p e) := of _ rfl rfl
theorem vminUI32 (d : VNo) (a : VNo) (b : VNo) (p : PNo) (e : Bool) : Statement (.vminUI32 d a b p e) := of _ rfl rfl
theorem vmaxUI32 (d : VNo) (a : VNo) (b : VNo) (p : PNo) (e : Bool) : Statement (.vmaxUI32 d a b p e) := of _ rfl rfl
theorem vaddI16 (d : VNo) (a : VNo) (b : VNo) (p : PNo) (e : Bool) : Statement (.vaddI16 d a b p e) := of _ rfl rfl
theorem vsubI16 (d : VNo) (a : VNo) (b : VNo) (p : PNo) (e : Bool) : Statement (.vsubI16 d a b p e) := of _ rfl rfl
theorem vaddsI16 (d : VNo) (a : VNo) (b : VNo) (p : PNo) (e : Bool) : Statement (.vaddsI16 d a b p e) := of _ rfl rfl
theorem vsubsI16 (d : VNo) (a : VNo) (b : VNo) (p : PNo) (e : Bool) : Statement (.vsubsI16 d a b p e) := of _ rfl rfl
theorem vaddI8 (d : VNo) (a : VNo) (b : VNo) (p : PNo) (e : Bool) : Statement (.vaddI8 d a b p e) := of _ rfl rfl
theorem vsubI8 (d : VNo) (a : VNo) (b : VNo) (p : PNo) (e : Bool) : Statement (.vsubI8 d a b p e) := of _ rfl rfl
theorem vaddsI8 (d : VNo) (a : VNo) (b : VNo) (p : PNo) (e : Bool) : Statement (.vaddsI8 d a b p e) := of _ rfl rfl
theorem vsubsI8 (d : VNo) (a : VNo) (b : VNo) (p : PNo) (e : Bool) : Statement (.vsubsI8 d a b p e) := of _ rfl rfl
theorem vand (d : VNo) (a : VNo) (b : VNo) (p : PNo) (e : Bool) : Statement (.vand d a b p e) := of _ rfl rfl
theorem vor (d : VNo) (a : VNo) (b : VNo) (p : PNo) (e : Bool) : Statement (.vor d a b p e) := of _ rfl rfl
theorem vxor (d : VNo) (a : VNo) (b : VNo) (p : PNo) (e : Bool) : Statement (.vxor d a b p e) := of _ rfl rfl
theorem vandn (d : VNo) (a : VNo) (b : VNo) (p : PNo) (e : Bool) : Statement (.vandn d a b p e) := of _ rfl rfl
theorem vshl (d : VNo) (a : VNo) (b : VNo) (p : PNo) (e : Bool) : Statement (.vshl d a b p e) := of _ rfl rfl
theorem vshr (d : VNo) (a : VNo) (b : VNo) (p : PNo) (e : Bool) : Statement (.vshr d a b p e) := of _ rfl rfl
theorem vsar (d : VNo) (a : VNo) (b : VNo) (p : PNo) (e : Bool) : Statement (.vsar d a b p e) := of _ rfl rfl
theorem vnot (d : VNo) (a : VNo) (p : PNo) (e : Bool) : Statement (.vnot d a p e) := of _ rfl rfl
theorem veqF32 (d : PNo) (a : VNo) (b : VNo) (p : PNo) (e : Bool) : Statement (.veqF32 d a b p e) := of _ rfl rfl
theorem vltF32 (d : PNo) (a : VNo) (b : VNo) (p : PNo) (e : Bool) : Statement (.vltF32 d a b p e) := of _ rfl rfl
theorem vleF32 (d : PNo) (a : VNo) (b : VNo) (p : PNo) (e : Bool) : Statement (.vleF32 d a b p e) := of _ rfl rfl
theorem vunF32 (d : PNo) (a : VNo) (b : VNo) (p : PNo) (e : Bool) : Statement (.vunF32 d a b p e) := of _ rfl rfl
theorem veqI32 (d : PNo) (a : VNo) (b : VNo) (p : PNo) (e : Bool) : Statement (.veqI32 d a b p e) := of _ rfl rfl
theorem vltI32 (d : PNo) (a : VNo) (b : VNo) (p : PNo) (e : Bool) : Statement (.vltI32 d a b p e) := of _ rfl rfl
theorem vltUI32 (d : PNo) (a : VNo) (b : VNo) (p : PNo) (e : Bool) : Statement (.vltUI32 d a b p e) := of _ rfl rfl
theorem vneI32 (d : PNo) (a : VNo) (b : VNo) (p : PNo) (e : Bool) : Statement (.vneI32 d a b p e) := of _ rfl rfl
theorem vsel (d : VNo) (a : VNo) (b : VNo) (p : PNo) (e : Bool) : Statement (.vsel d a b p e) := of _ rfl rfl
theorem vmov (d : VNo) (a : VNo) (p : PNo) (e : Bool) : Statement (.vmov d a p e) := of _ rfl rfl
theorem vbcl (d : VNo) (a : VNo) (b : VNo) (p : PNo) (e : Bool) : Statement (.vbcl d a b p e) := of _ rfl rfl
theorem vperm (d : VNo) (a : VNo) (b : VNo) (p : PNo) (e : Bool) : Statement (.vperm d a b p e) := of _ rfl rfl
theorem vslup (d : VNo) (a : VNo) (b : VNo) (p : PNo) (e : Bool) : Statement (.vslup d a b p e) := of _ rfl rfl
theorem vsldn (d : VNo) (a : VNo) (b : VNo) (p : PNo) (e : Bool) : Statement (.vsldn d a b p e) := of _ rfl rfl
theorem vtoa (a : VNo) (e : Bool) : Statement (.vtoa a e) := of _ rfl rfl
theorem vrand (d : VNo) (a : VNo) (p : PNo) (e : Bool) : Statement (.vrand d a p e) := of _ rfl rfl
theorem vcvt (d : VNo) (a : VNo) (sat : Bool) (t : Elem) (u : Elem) (r : Rmode) (e : Bool) : Statement (.vcvt d a sat t u r e) := of _ rfl rfl
theorem vqnt (d : VNo) (a : VNo) (f : Elem) (r : Rmode) (e : Bool) : Statement (.vqnt d a f r e) := of _ rfl rfl
theorem vdqnt (d : VNo) (a : VNo) (f : Elem) (e : Bool) : Statement (.vdqnt d a f e) := of _ rfl rfl
theorem vpack (d : VNo) (a : VNo) (f : Elem) (e : Bool) : Statement (.vpack d a f e) := of _ rfl rfl
theorem vunpk (d : VNo) (a : VNo) (f : Elem) (e : Bool) : Statement (.vunpk d a f e) := of _ rfl rfl
theorem vsgn (d : VNo) (a : VNo) (e : Bool) : Statement (.vsgn d a e) := of _ rfl rfl
theorem vham (d : VNo) (a : VNo) (e : Bool) : Statement (.vham d a e) := of _ rfl rfl
theorem vexp2 (d : VNo) (a : VNo) (p : PNo) (e : Bool) : Statement (.vexp2 d a p e) := of _ rfl rfl
theorem vlog2 (d : VNo) (a : VNo) (p : PNo) (e : Bool) : Statement (.vlog2 d a p e) := of _ rfl rfl
theorem vrcp (d : VNo) (a : VNo) (p : PNo) (e : Bool) : Statement (.vrcp d a p e) := of _ rfl rfl
theorem vrsq (d : VNo) (a : VNo) (p : PNo) (e : Bool) : Statement (.vrsq d a p e) := of _ rfl rfl
theorem vsqrt (d : VNo) (a : VNo) (p : PNo) (e : Bool) : Statement (.vsqrt d a p e) := of _ rfl rfl
theorem vdiv (d : VNo) (a : VNo) (b : VNo) (p : PNo) (e : Bool) : Statement (.vdiv d a b p e) := of _ rfl rfl
theorem vrsumF32 (d : VNo) (a : VNo) (p : PNo) (e : Bool) : Statement (.vrsumF32 d a p e) := of _ rfl rfl
theorem vrmaxF32 (d : VNo) (a : VNo) (p : PNo) (e : Bool) : Statement (.vrmaxF32 d a p e) := of _ rfl rfl
theorem vrminF32 (d : VNo) (a : VNo) (p : PNo) (e : Bool) : Statement (.vrminF32 d a p e) := of _ rfl rfl
theorem vrmaxiF32 (d : VNo) (a : VNo) (p : PNo) (e : Bool) : Statement (.vrmaxiF32 d a p e) := of _ rfl rfl
theorem vrminiF32 (d : VNo) (a : VNo) (p : PNo) (e : Bool) : Statement (.vrminiF32 d a p e) := of _ rfl rfl
theorem vrsumI32 (d : VNo) (a : VNo) (p : PNo) (e : Bool) : Statement (.vrsumI32 d a p e) := of _ rfl rfl
theorem vrmaxI32 (d : VNo) (a : VNo) (p : PNo) (e : Bool) : Statement (.vrmaxI32 d a p e) := of _ rfl rfl
theorem vrmaxiI32 (d : VNo) (a : VNo) (p : PNo) (e : Bool) : Statement (.vrmaxiI32 d a p e) := of _ rfl rfl
theorem pand (d : PNo) (a : PNo) (b : PNo) (e : Bool) : Statement (.pand d a b e) := of _ rfl rfl
theorem por (d : PNo) (a : PNo) (b : PNo) (e : Bool) : Statement (.por d a b e) := of _ rfl rfl
theorem pxor (d : PNo) (a : PNo) (b : PNo) (e : Bool) : Statement (.pxor d a b e) := of _ rfl rfl
theorem pnot (d : PNo) (a : PNo) (e : Bool) : Statement (.pnot d a e) := of _ rfl rfl
theorem ppopc (d : VNo) (a : PNo) (e : Bool) : Statement (.ppopc d a e) := of _ rfl rfl
theorem pffs (d : VNo) (a : PNo) (e : Bool) : Statement (.pffs d a e) := of _ rfl rfl
theorem pmov (d : PNo) (a : PNo) (e : Bool) : Statement (.pmov d a e) := of _ rfl rfl
theorem vfromp (d : VNo) (a : PNo) (e : Bool) : Statement (.vfromp d a e) := of _ rfl rfl
theorem accrd (d : VNo) (c : BitVec 2) (r : BitVec 7) (p : PNo) (e : Bool) : Statement (.accrd d c r p e) := of _ rfl rfl
theorem accwr (a : VNo) (c : BitVec 2) (r : BitVec 7) (p : PNo) (e : Bool) : Statement (.accwr a c r p e) := of _ rfl rfl
theorem accz (m : BitVec 8) (c : BitVec 2) (e : Bool) : Statement (.accz m c e) := of _ rfl rfl
theorem xloop (o : BitVec 18) (e : Bool) : Statement (.xloop o e) := of _ rfl rfl
theorem xbr (o : BitVec 18) (p : PNo) (e : Bool) : Statement (.xbr o p e) := of _ rfl rfl
theorem xj (o : BitVec 18) (e : Bool) : Statement (.xj o e) := of _ rfl rfl
theorem xsetlc (a : VNo) (e : Bool) : Statement (.xsetlc a e) := of _ rfl rfl
theorem endTask : Statement .endTask := of _ rfl rfl
theorem rdv : Statement .rdv := of _ rfl rfl
theorem gclr : Statement .gclr := of _ rfl rfl
theorem meGo : Statement .meGo := of _ rfl rfl
theorem nop : Statement .nop := of _ rfl rfl
theorem tret : Statement .tret := of _ rfl rfl
theorem isync : Statement .isync := of _ rfl rfl
theorem sret : Statement .sret := of _ rfl rfl
theorem xrdv : Statement .xrdv := of _ rfl rfl
theorem taskDispatch : Statement .taskDispatch := of _ rfl rfl
theorem gangStart : Statement .gangStart := of _ rfl rfl
theorem stageTaskStart : Statement .stageTaskStart := of _ rfl rfl
theorem taskRestore : Statement .taskRestore := of _ rfl rfl
theorem backgroundFill : Statement .backgroundFill := of _ rfl rfl
theorem endCommit : Statement .endCommit := of _ rfl rfl
theorem gangCommit : Statement .gangCommit := of _ rfl rfl
theorem stallRelease : Statement .stallRelease := of _ rfl rfl
theorem loadReturn : Statement .loadReturn := of _ rfl rfl
theorem amorrReturn : Statement .amorrReturn := of _ rfl rfl
theorem gatherScatterLane : Statement .gatherScatterLane := of _ rfl rfl
theorem xTrapTake : Statement .xTrapTake := of _ rfl rfl
theorem faultRecordWrite : Statement .faultRecordWrite := of _ rfl rfl
theorem taskTimeout : Statement .taskTimeout := of _ rfl rfl
theorem qtimeout : Statement .qtimeout := of _ rfl rfl
theorem fwaitTimeout : Statement .fwaitTimeout := of _ rfl rfl
theorem twaitTimeout : Statement .twaitTimeout := of _ rfl rfl
theorem gwaitTimeout : Statement .gwaitTimeout := of _ rfl rfl
theorem stampIssue : Statement .stampIssue := of _ rfl rfl
theorem stampOverrun : Statement .stampOverrun := of _ rfl rfl
theorem pageWalk : Statement .pageWalk := of _ rfl rfl
theorem meCommandStart : Statement .meCommandStart := of _ rfl rfl
theorem meTileStep : Statement .meTileStep := of _ rfl rfl
theorem ceChainStart : Statement .ceChainStart := of _ rfl rfl
theorem ceRecord : Statement .ceRecord := of _ rfl rfl
theorem seCommandRun : Statement .seCommandRun := of _ rfl rfl
theorem filterResult : Statement .filterResult := of _ rfl rfl
theorem tierPageIn : Statement .tierPageIn := of _ rfl rfl
theorem tierPageOut : Statement .tierPageOut := of _ rfl rfl
theorem weirInterval : Statement .weirInterval := of _ rfl rfl
theorem breezeTokenPass : Statement .breezeTokenPass := of _ rfl rfl
theorem breezeForcedPass : Statement .breezeForcedPass := of _ rfl rfl
theorem capLevelRaise : Statement .capLevelRaise := of _ rfl rfl
theorem capLevelLower : Statement .capLevelLower := of _ rfl rfl
theorem thermalCap : Statement .thermalCap := of _ rfl rfl
theorem thermalShutdown : Statement .thermalShutdown := of _ rfl rfl
theorem preemptStop : Statement .preemptStop := of _ rfl rfl
theorem saveImageWrite : Statement .saveImageWrite := of _ rfl rfl
theorem exportBlockWrite : Statement .exportBlockWrite := of _ rfl rfl
theorem supervisorEvent : Statement .supervisorEvent := of _ rfl rfl
theorem supervisorFault : Statement .supervisorFault := of _ rfl rfl
theorem memoryErrorReport : Statement .memoryErrorReport := of _ rfl rfl
theorem onChipError : Statement .onChipError := of _ rfl rfl
theorem scrub : Statement .scrub := of _ rfl rfl
theorem ccmdResume : Statement .ccmdResume := of _ rfl rfl
theorem ccmdAbandon : Statement .ccmdAbandon := of _ rfl rfl
theorem ccmdSave : Statement .ccmdSave := of _ rfl rfl
theorem ccmdReturn : Statement .ccmdReturn := of _ rfl rfl
theorem lrBuild : Statement .lrBuild := of _ rfl rfl
theorem lrUnbuild : Statement .lrUnbuild := of _ rfl rfl
theorem lrDrain : Statement .lrDrain := of _ rfl rfl
theorem queueOpen : Statement .queueOpen := of _ rfl rfl
theorem queueClose : Statement .queueClose := of _ rfl rfl
theorem evSuspend : Statement .evSuspend := of _ rfl rfl
theorem evResume : Statement .evResume := of _ rfl rfl
theorem evExport : Statement .evExport := of _ rfl rfl
theorem evImport : Statement .evImport := of _ rfl rfl
theorem ctxCreate : Statement .ctxCreate := of _ rfl rfl
theorem ctxDestroy : Statement .ctxDestroy := of _ rfl rfl
theorem groupBuild : Statement .groupBuild := of _ rfl rfl
theorem groupUnbuild : Statement .groupUnbuild := of _ rfl rfl
theorem registerWrite : Statement .registerWrite := of _ rfl rfl
theorem slbaseWrite : Statement .slbaseWrite := of _ rfl rfl
theorem enable : Statement .enable := of _ rfl rfl
theorem disable : Statement .disable := of _ rfl rfl
theorem vload : Statement .vload := of _ rfl rfl
theorem vunload : Statement .vunload := of _ rfl rfl
theorem prune : Statement .prune := of _ rfl rfl
theorem packetReceive : Statement .packetReceive := of _ rfl rfl
theorem requestReceive : Statement .requestReceive := of _ rfl rfl
theorem acceptReply : Statement .acceptReply := of _ rfl rfl
theorem admission : Statement .admission := of _ rfl rfl
theorem outputEntryPop : Statement .outputEntryPop := of _ rfl rfl
theorem relqPush : Statement .relqPush := of _ rfl rfl
theorem hsemAcquire : Statement .hsemAcquire := of _ rfl rfl
theorem hsemRelease : Statement .hsemRelease := of _ rfl rfl
theorem fwload : Statement .fwload := of _ rfl rfl
theorem bringupTraining : Statement .bringupTraining := of _ rfl rfl
theorem setup : Statement .setup := of _ rfl rfl
theorem teardown : Statement .teardown := of _ rfl rfl
theorem warmreset : Statement .warmreset := of _ rfl rfl
theorem coldReset : Statement .coldReset := of _ rfl rfl
theorem perstWarmReset : Statement .perstWarmReset := of _ rfl rfl
theorem cxlLinkDown : Statement .cxlLinkDown := of _ rfl rfl
theorem snapFire : Statement .snapFire := of _ rfl rfl
theorem snapLockFree : Statement .snapLockFree := of _ rfl rfl
theorem snapPinEdge : Statement .snapPinEdge := of _ rfl rfl
theorem hostMemoryWrite : Statement .hostMemoryWrite := of _ rfl rfl
theorem hostMemoryRead : Statement .hostMemoryRead := of _ rfl rfl
theorem lossOfPower : Statement .lossOfPower := of _ rfl rfl
theorem singleDieOrStackFailure : Statement .singleDieOrStackFailure := of _ rfl rfl

end Sys2Proof.Laws.WordCount
end

