-- ==== Sys2Proof/Laws/Vector.lean ====
section
/-! SUPPORT. The forms of X-strand instructions, each said once: given their sources' values and the delivery of their
result, they go on with the state that the delivery leaves. -/
namespace Sys2Proof.Machine

theorem lanesOf_eq (w n : Nat) (v : VReg) : lanesOf w n v = (List.range n).map (lane w v) := rfl

theorem zipWith_range_map {α β : Type} (n : Nat) (g : Nat → α → β) (h : Nat → α) :
    (List.range n).zipWith g ((List.range n).map h) = (List.range n).map fun k => g k (h k) := by
  rw [List.zipWith_map_right]
  exact List.zipWith_self

theorem zip_map_range {α β : Type} (n : Nat) (g : Nat → α) (h : Nat → β) :
    ((List.range n).map g).zip ((List.range n).map h) = (List.range n).map fun k => (g k, h k) := by
  rw [List.zip_map, List.zip_eq_zipWith, List.zipWith_self, List.map_map]
  rfl

theorem packV_map (w : Nat) (f : Nat → Nat) : packV w ((List.range (4096 / w)).map f) = ofElems w f := rfl

/-- Lanes that agree give the same register. -/
theorem ofElems_congr (w : Nat) {f g : Nat → Nat} (h : ∀ k, k < 4096 / w → f k = g k) : ofElems w f = ofElems w g := by
  unfold ofElems
  congr 1
  exact List.map_congr_left fun k hk => h k (List.mem_range.1 hk)

/-- No lane raises a flag. -/
theorem laneFlags_zero (w : Nat) (p : PReg) (rs : List (Nat × Flags)) (h : ∀ r ∈ rs, r.2 = 0#6) : laneFlags w p rs = 0#6 := by
  unfold laneFlags
  have key : ∀ (l : List ((Nat × Flags) × Nat)), (∀ r ∈ l, r.1.2 = 0#6) → ∀ f : Flags, f = 0#6 →
      l.foldl (fun f r => if active p w r.2 then f ||| r.1.2 else f) f = 0#6 := by
    intro l
    induction l with
    | nil => intro _ f hf; exact hf
    | cons x l ih =>
      intro hl f hf
      refine ih (fun r hr => hl r (List.mem_cons_of_mem _ hr)) _ ?_
      dsimp only
      rw [hl x (List.mem_cons_self ..), hf]
      split <;> rfl
  refine key _ (fun r hr => h _ ?_) 0#6 rfl
  exact (List.of_mem_zip hr).1

/-- A unary lane function (R95, R176). -/
theorem vec1_ok {s s1 t : State} {w : Nat} {d a : VNo} {p : PNo} {e : Bool} {f : Nat → Nat → Nat × Flags} {x : VReg}
    (ha : s.ReadsV a x s1)
    (ht : (s1.raise (laneFlags w (s.here.preg p) ((List.range (4096 / w)).map fun k => f k (lane w x k)))).WritesV d
      w (s.here.preg p) (ofElems w fun k => (f k (lane w x k)).1) t) : vec1 s w d a p e f = .ok t := by
  rw [vec1]
  dsimp only
  have hr := State.noRoom_writes ht
  rw [State.noRoom_raise] at hr
  rw [State.vgate, State.notReady_reads ha, State.notReady, Option.bind_some, hr, Option.getD_none]
  rw [State.rdV_reads ha, lanesOf_eq, zipWith_range_map, List.map_map]
  exact State.wrV_writes ht _

/-- A binary lane function. -/
theorem vec2_ok {s s1 s2 t : State} {w : Nat} {d a b : VNo} {p : PNo} {e : Bool} {f : Nat → Nat → Nat → Nat × Flags}
    {x y : VReg} (ha : s.ReadsV a x s1) (hb : s1.ReadsV b y s2)
    (ht : (s2.raise (laneFlags w (s.here.preg p) ((List.range (4096 / w)).map fun k => f k (lane w x k) (lane w y k)))).WritesV d
      w (s.here.preg p) (ofElems w fun k => (f k (lane w x k) (lane w y k)).1) t) : vec2 s w d a b p e f = .ok t := by
  rw [vec2]
  dsimp only
  have hr := State.noRoom_writes ht
  rw [State.noRoom_raise] at hr
  rw [State.vgate, State.notReady_reads ha, State.notReady_reads hb, State.notReady, Option.bind_some, hr, Option.getD_none]
  rw [State.rdV_reads ha, State.rdV_reads hb, lanesOf_eq, lanesOf_eq, zip_map_range, zipWith_range_map, List.map_map]
  exact State.wrV_writes ht _

/-- A ternary lane function. -/
theorem vec3_ok {s s1 s2 s3 t : State} {w : Nat} {d a b : VNo} {p : PNo} {e : Bool}
    {f : Nat → Nat → Nat → Nat → Nat × Flags} {x y z : VReg} (ha : s.ReadsV a x s1) (hb : s1.ReadsV b y s2)
    (hd : s2.ReadsV d z s3)
    (ht : (s3.raise (laneFlags w (s.here.preg p) ((List.range (4096 / w)).map fun k =>
        f k (lane w x k) (lane w y k) (lane w z k)))).WritesV d w (s.here.preg p)
      (ofElems w fun k => (f k (lane w x k) (lane w y k) (lane w z k)).1) t) : vec3 s w d a b p e f = .ok t := by
  rw [vec3]
  dsimp only
  have hr := State.noRoom_writes ht
  rw [State.noRoom_raise] at hr
  rw [State.vgate, State.notReady_reads ha, State.notReady_reads hb, State.notReady_reads hd, State.notReady,
    Option.bind_some, hr, Option.getD_none]
  rw [State.rdV_reads ha, State.rdV_reads hb, State.rdV_reads hd, lanesOf_eq, lanesOf_eq, lanesOf_eq, zip_map_range,
    zip_map_range, zipWith_range_map, List.map_map]
  exact State.wrV_writes ht _

/-- A binary lane function without flags. -/
theorem int2_ok {s s1 s2 t : State} {w : Nat} {d a b : VNo} {p : PNo} {e : Bool} {f : Nat → Nat → Nat} {x y : VReg}
    (ha : s.ReadsV a x s1) (hb : s1.ReadsV b y s2)
    (ht : (s2.raise 0#6).WritesV d w (s.here.preg p) (ofElems w fun k => f (lane w x k) (lane w y k)) t) :
    int2 s w d a b p e f = .ok t := by
  refine vec2_ok ha hb ?_
  rw [laneFlags_zero]
  · exact ht
  · simp only [List.mem_map]
    rintro r ⟨k, -, rfl⟩
    rfl

/-- A whole-register function. -/
theorem whole1_ok {s s1 t : State} {d a : VNo} {e : Bool} {f : VReg → VReg × Flags} {x : VReg} (ha : s.ReadsV a x s1)
    (ht : (s1.raise (f x).2).WritesV d 8 allOn (f x).1 t) : whole1 s d a e f = .ok t := by
  have hr := State.noRoom_writes ht
  rw [State.noRoom_raise] at hr
  rw [whole1, State.vgate, State.notReady_reads ha, State.notReady, Option.bind_some, hr, Option.getD_none,
    State.rdV_reads ha]
  exact State.wrV_writes ht _

/-- A reduction. -/
theorem reduce_ok {s s1 t : State} {d a : VNo} {p : PNo} {e : Bool} {f : PReg → VReg → List Nat × Flags} {x : VReg}
    (ha : s.ReadsV a x s1) (ht : (s1.raise (f (s.here.preg p) x).2).WritesV d 8 allOn (packV 32 (f (s.here.preg p) x).1) t) :
    reduce s d a p e f = .ok t := by
  rw [reduce]
  dsimp only
  have hr := State.noRoom_writes ht
  rw [State.noRoom_raise] at hr
  rw [State.vgate, State.notReady_reads ha, State.notReady, Option.bind_some, hr, Option.getD_none]
  rw [State.rdV_reads ha]
  exact State.wrV_writes ht _

/-- A permute. -/
theorem permute_ok {s s1 s2 t : State} {d a b : VNo} {p : PNo} {e : Bool} {f : List Nat → VReg → Nat → Nat} {x y : VReg}
    (ha : s.ReadsV a x s1) (hb : s1.ReadsV b y s2)
    (ht : s2.WritesV d 32 (s.here.preg p) (ofElems 32 (f (lanesOf 32 128 x) y)) t) : permute s d a b p e f = .ok t := by
  rw [permute]
  rw [State.vgate_two ha hb ht, State.rdV_reads ha, State.rdV_reads hb]
  exact State.wrV_writes ht _

end Sys2Proof.Machine
end

