-- ==== Sys2Proof/Tests/Slice0.lean ====
section
/-! SUPPORT. Tests: ill-formed terms that WellFormed refuses, words that decode, one-step results worked out from the spec,
and for every statement with hypotheses a concrete state and operands that meet them together. -/
namespace Sys2Proof.Tests
open Sys2Proof Sys2Proof.Machine
set_option Elab.async false

/-! ### Small states -/

/-- One partition whose page tables map the low 512 MiB onto themselves, and task core 1 of context 1 standing at 0x1000. -/
def st0 : State := { State.reset.placeWord 0 with cur := 1 }
/-- st0 with registers s5 and s6. -/
def stAB (x y : Word) : State := (st0.modHere (·.setReg 5 x)).modHere (·.setReg 6 y)
/-- st0 with its core changed. -/
def stK (f : Core → Core) : State := st0.modHere f
/-- A state whose supervisor core runs. -/
def stSup : State := { st0 with cur := 0 }

theorem ok_of {α β : Type} {e : Except α β} {x : β} (h : e.toOption = some x) : e = .ok x := by
  cases e with
  | error _ => cases h
  | ok y => cases h; rfl

theorem reads_reg {s : State} {r : Reg} (h : isPort r = false) : s.Reads r (s.here.reg r) s := by
  unfold State.Reads; rw [if_neg (by simp [h])]; exact ⟨rfl, rfl⟩

theorem writes_reg {s : State} {r : Reg} {v : Word} (h : isPort r = false) : s.Writes r v (s.modHere (·.setReg r v)) := by
  unfold State.Writes; rw [if_neg (by simp [h])]

theorem readsV_reg {s : State} {n : VNo} (h : isPopV n = false) : s.ReadsV n (s.here.vreg n) s := by
  unfold State.ReadsV; rw [if_neg (by simp [h])]; exact ⟨rfl, rfl⟩

/-! ### WellFormed refuses -/

theorem test_wf_refuses_load_queue_destination : (Instr.vaddF32 56#6 1#6 2#6 0#4 false).wf = false := by decide
theorem test_wf_refuses_integer_destination : (Instr.vaddI8 59#6 1#6 2#6 0#4 false).wf = false := by decide
theorem test_wf_refuses_logic_destination : (Instr.vnot 57#6 1#6 0#4 false).wf = false := by decide
theorem test_wf_refuses_conversion_destination : (Instr.vcvt 58#6 1#6 false .fp32 .fp16 .rne false).wf = false := by decide
theorem test_wf_refuses_reduction_destination : (Instr.vrsumF32 56#6 1#6 0#4 false).wf = false := by decide
theorem test_wf_refuses_predicate_count_destination : (Instr.ppopc 59#6 1#4 false).wf = false := by decide
theorem test_wf_refuses_accumulator_read_destination : (Instr.accrd 56#6 0#2 0#7 0#4 false).wf = false := by decide
theorem test_wf_refuses_odd_quantise_destination : (Instr.vqnt 5#6 1#6 .int8 .rne false).wf = false := by decide
theorem test_wf_refuses_quantise_to_fp32 : (Instr.vqnt 4#6 1#6 .fp32 .rne false).wf = false := by decide
theorem test_wf_refuses_quantise_to_bin1 : (Instr.vqnt 4#6 1#6 .bin1 .rne false).wf = false := by decide
theorem test_wf_refuses_dequantise_of_fp32 : (Instr.vdqnt 4#6 1#6 .fp32 false).wf = false := by decide

/-! ### Decoding: one word of every encoded row -/

/-- Words of major 0x00, their fields filled in by the bits that spec/opcode_table.json gives them. -/
theorem test_decode_major_00 :
    decodeTableWord 32 0x645C02 = some (.add 6#6 17#6 28#6 true) ∧
    decodeTableWord 32 0xB5A104 = some (.sub 11#6 22#6 33#6 false) ∧
    decodeTableWord 32 0x106E60A = some (.mul 16#6 27#6 38#6 true) ∧
    decodeTableWord 32 0x1582B0C = some (.mulh 21#6 32#6 43#6 false) ∧
    decodeTableWord 32 0x1A97012 = some (.mulhu 26#6 37#6 48#6 true) ∧
    decodeTableWord 32 0x1FAB514 = some (.divu 31#6 42#6 53#6 false) ∧
    decodeTableWord 32 0x24BFA1A = some (.remu 36#6 47#6 58#6 true) ∧
    decodeTableWord 32 0x29D3F1C = some (.and 41#6 52#6 63#6 false) ∧
    decodeTableWord 32 0x2EE4422 = some (.or 46#6 57#6 4#6 true) ∧
    decodeTableWord 32 0x33F8924 = some (.xor 51#6 62#6 9#6 false) ∧
    decodeTableWord 32 0x380CE2A = some (.andn 56#6 3#6 14#6 true) ∧
    decodeTableWord 32 0x3D2132C = some (.orn 61#6 8#6 19#6 false) ∧
    decodeTableWord 32 0x235832 = some (.shl 2#6 13#6 24#6 true) ∧
    decodeTableWord 32 0x749D34 = some (.shr 7#6 18#6 29#6 false) ∧
    decodeTableWord 32 0xC5E23A = some (.sar 12#6 23#6 34#6 true) ∧
    decodeTableWord 32 0x117273C = some (.rotr 17#6 28#6 39#6 false) ∧
    decodeTableWord 32 0x1686C42 = some (.min 22#6 33#6 44#6 true) ∧
    decodeTableWord 32 0x1B9B144 = some (.max 27#6 38#6 49#6 false) ∧
    decodeTableWord 32 0x20AF64A = some (.minu 32#6 43#6 54#6 true) ∧
    decodeTableWord 32 0x25C3B4C = some (.maxu 37#6 48#6 59#6 false) ∧
    decodeTableWord 32 0x2AD4052 = some (.slt 42#6 53#6 0#6 true) ∧
    decodeTableWord 32 0x2FE8554 = some (.sltu 47#6 58#6 5#6 false) ∧
    decodeTableWord 32 0x34FCA5A = some (.seq 52#6 63#6 10#6 true) ∧
    decodeTableWord 32 0x3910F5C = some (.sne 57#6 4#6 15#6 false) ∧
    decodeTableWord 32 0x3E24060 = some (.clz 62#6 9#6 false) ∧
    decodeTableWord 32 0x338066 = some (.ctz 3#6 14#6 true) ∧
    decodeTableWord 32 0x84C068 = some (.popc 8#6 19#6 false) ∧
    decodeTableWord 32 0xD6236C = some (.bfx 13#6 24#6 35#6 false) ∧
    decodeTableWord 32 0x1276872 = some (.bfxu 18#6 29#6 40#6 true) ∧
    decodeTableWord 32 0x178AD74 = some (.bfi 23#6 34#6 45#6 false) ∧
    decodeTableWord 32 0x1C9F27A = some (.selnz 28#6 39#6 50#6 true) := by
  refine ⟨rfl, rfl, rfl, rfl, rfl, rfl, rfl, rfl, rfl, rfl, rfl, rfl, rfl, rfl, rfl, rfl, rfl, rfl, rfl, rfl, rfl, rfl, rfl, rfl, rfl, rfl, rfl, rfl, rfl, rfl, rfl⟩

/-- Words of major 0x01, their fields filled in by the bits that spec/opcode_table.json gives them. -/
theorem test_decode_major_01 :
    decodeTableWord 32 0x61B016E = some (.addi 33#6 44#6 183#13) := by
  rfl

/-- Words of major 0x02, their fields filled in by the bits that spec/opcode_table.json gives them. -/
theorem test_decode_major_02 :
    decodeTableWord 32 0xA6C4178 = some (.andi 38#6 49#6 188#13) := by
  rfl

/-- Words of major 0x03, their fields filled in by the bits that spec/opcode_table.json gives them. -/
theorem test_decode_major_03 :
    decodeTableWord 32 0xEBD8182 = some (.ori 43#6 54#6 193#13) := by
  rfl

/-- Words of major 0x04, their fields filled in by the bits that spec/opcode_table.json gives them. -/
theorem test_decode_major_04 :
    decodeTableWord 32 0x130EC18C = some (.xori 48#6 59#6 198#13) := by
  rfl

/-- Words of major 0x05, their fields filled in by the bits that spec/opcode_table.json gives them. -/
theorem test_decode_major_05 :
    decodeTableWord 32 0x17500016 = some (.shli 53#6 0#6 11#6) := by
  rfl

/-- Words of major 0x06, their fields filled in by the bits that spec/opcode_table.json gives them. -/
theorem test_decode_major_06 :
    decodeTableWord 32 0x1BA14020 = some (.shri 58#6 5#6 16#6) := by
  rfl

/-- Words of major 0x07, their fields filled in by the bits that spec/opcode_table.json gives them. -/
theorem test_decode_major_07 :
    decodeTableWord 32 0x1FF2802A = some (.sari 63#6 10#6 21#6) := by
  rfl

/-- Words of major 0x08, their fields filled in by the bits that spec/opcode_table.json gives them. -/
theorem test_decode_major_08 :
    decodeTableWord 32 0x2043C1B4 = some (.slti 4#6 15#6 218#13) := by
  rfl

/-- Words of major 0x09, their fields filled in by the bits that spec/opcode_table.json gives them. -/
theorem test_decode_major_09 :
    decodeTableWord 32 0x249001A8 = some (.lih 9#6 212#19) := by
  rfl

/-- Words of major 0x0A, their fields filled in by the bits that spec/opcode_table.json gives them. -/
theorem test_decode_major_0a :
    decodeTableWord 32 0x28E651DE = some (.ldb 14#6 25#6 4#4 239#9) := by
  rfl

/-- Words of major 0x0B, their fields filled in by the bits that spec/opcode_table.json gives them. -/
theorem test_decode_major_0b :
    decodeTableWord 32 0x2D37A5E8 = some (.ldbu 19#6 30#6 9#4 244#9) := by
  rfl

/-- Words of major 0x0C, their fields filled in by the bits that spec/opcode_table.json gives them. -/
theorem test_decode_major_0c :
    decodeTableWord 32 0x3188F9F2 = some (.ldh 24#6 35#6 14#4 249#9) := by
  rfl

/-- Words of major 0x0D, their fields filled in by the bits that spec/opcode_table.json gives them. -/
theorem test_decode_major_0d :
    decodeTableWord 32 0x35DA0DFC = some (.ldhu 29#6 40#6 3#4 254#9) := by
  rfl

/-- Words of major 0x0E, their fields filled in by the bits that spec/opcode_table.json gives them. -/
theorem test_decode_major_0e :
    decodeTableWord 32 0x3A2B6206 = some (.ldw 34#6 45#6 8#4 259#9) := by
  rfl

/-- Words of major 0x0F, their fields filled in by the bits that spec/opcode_table.json gives them. -/
theorem test_decode_major_0f :
    decodeTableWord 32 0x3E7CB610 = some (.ldwu 39#6 50#6 13#4 264#9) := by
  rfl

/-- Words of major 0x10, their fields filled in by the bits that spec/opcode_table.json gives them. -/
theorem test_decode_major_10 :
    decodeTableWord 32 0x42CDCA1A = some (.ldd 44#6 55#6 2#4 269#9) := by
  rfl

/-- Words of major 0x11, their fields filled in by the bits that spec/opcode_table.json gives them. -/
theorem test_decode_major_11 :
    decodeTableWord 32 0x471F1E24 = some (.stb 49#6 60#6 7#4 274#9) := by
  rfl

/-- Words of major 0x12, their fields filled in by the bits that spec/opcode_table.json gives them. -/
theorem test_decode_major_12 :
    decodeTableWord 32 0x4B60722E = some (.sth 54#6 1#6 12#4 279#9) := by
  rfl

/-- Words of major 0x13, their fields filled in by the bits that spec/opcode_table.json gives them. -/
theorem test_decode_major_13 :
    decodeTableWord 32 0x4FB18638 = some (.stw 59#6 6#6 1#4 284#9) := by
  rfl

/-- Words of major 0x14, their fields filled in by the bits that spec/opcode_table.json gives them. -/
theorem test_decode_major_14 :
    decodeTableWord 32 0x5002DA42 = some (.std 0#6 11#6 6#4 289#9) := by
  rfl

/-- Words of major 0x15, their fields filled in by the bits that spec/opcode_table.json gives them. -/
theorem test_decode_major_15 :
    decodeTableWord 32 0x54541B12 = some (.amo 5#6 16#6 27#6 .and .group) := by
  rfl

/-- Words of major 0x16, their fields filled in by the bits that spec/opcode_table.json gives them. -/
theorem test_decode_major_16 :
    decodeTableWord 32 0x58A56024 = some (.amorr 10#6 21#6 32#6 .or .die) := by
  rfl

/-- Words of major 0x17, their fields filled in by the bits that spec/opcode_table.json gives them. -/
theorem test_decode_major_17 :
    decodeTableWord 32 0x5CF695F6 = some (.ldacq 15#6 26#6 5#4 .pkg 59#6) := by
  rfl

/-- Words of major 0x18, their fields filled in by the bits that spec/opcode_table.json gives them. -/
theorem test_decode_major_18 :
    decodeTableWord 32 0x6147EA00 = some (.strel 20#6 31#6 10#4 .sys 0#6) := by
  rfl

/-- Words of major 0x19, their fields filled in by the bits that spec/opcode_table.json gives them. -/
theorem test_decode_major_19 :
    decodeTableWord 32 0x64046400 = some (.fence 281#16 .core) := by
  rfl

/-- Words of major 0x1A, their fields filled in by the bits that spec/opcode_table.json gives them. -/
theorem test_decode_major_1a :
    decodeTableWord 32 0x69EA7402 = some (.spldb 30#6 41#6 52#6 true) ∧
    decodeTableWord 32 0x6A3BB904 = some (.spldh 35#6 46#6 57#6 false) ∧
    decodeTableWord 32 0x6A8CFE0A = some (.spldw 40#6 51#6 62#6 true) ∧
    decodeTableWord 32 0x6ADE030C = some (.spldd 45#6 56#6 3#6 false) ∧
    decodeTableWord 32 0x6B2F4812 = some (.spstb 50#6 61#6 8#6 true) ∧
    decodeTableWord 32 0x6B708D14 = some (.spsth 55#6 2#6 13#6 false) ∧
    decodeTableWord 32 0x6BC1D21A = some (.spstw 60#6 7#6 18#6 true) ∧
    decodeTableWord 32 0x6813171C = some (.spstd 1#6 12#6 23#6 false) ∧
    decodeTableWord 32 0x68019120 = some (.spmarkf 6#6 17#6 false) ∧
    decodeTableWord 32 0x6802D626 = some (.spmarke 11#6 22#6 true) ∧
    decodeTableWord 32 0x6906E62A = some (.sptestf 16#6 27#6 38#6 true) := by
  refine ⟨rfl, rfl, rfl, rfl, rfl, rfl, rfl, rfl, rfl, rfl, rfl⟩

/-- Words of major 0x1B, their fields filled in by the bits that spec/opcode_table.json gives them. -/
theorem test_decode_major_1b :
    decodeTableWord 32 0x6C482B00 = some (.vld 1#2 32#6 43#6 false) ∧
    decodeTableWord 32 0x6C997002 = some (.vldDec 2#2 37#6 48#6 true) ∧
    decodeTableWord 32 0x6CCAB504 = some (.vldf 3#2 42#6 53#6 false) ∧
    decodeTableWord 32 0x6C0BFA0A = some (.vldfc 0#2 47#6 58#6 true) ∧
    decodeTableWord 32 0x6D8D3F0C = some (.vst .sq2 52#6 63#6 false) ∧
    decodeTableWord 32 0x6D0E4412 = some (.vstf .sq0 57#6 4#6 true) ∧
    decodeTableWord 32 0x6CCF8114 = some (.vgth 3#2 62#6 1#3 false) ∧
    decodeTableWord 32 0x6D80C61A = some (.vsct .sq2 3#6 6#3 true) ∧
    decodeTableWord 32 0x6C42131C = some (.vldg 1#2 8#6 19#6 false) ∧
    decodeTableWord 32 0x6D435822 = some (.vstg .sq1 13#6 24#6 true) := by
  refine ⟨rfl, rfl, rfl, rfl, rfl, rfl, rfl, rfl, rfl, rfl⟩

/-- Words of major 0x1C, their fields filled in by the bits that spec/opcode_table.json gives them. -/
theorem test_decode_major_1c :
    decodeTableWord 32 0x70748002 = some (.qbind 7#6 18#6 true) ∧
    decodeTableWord 32 0x70C00006 = some (.qunbind 12#6 true) ∧
    decodeTableWord 32 0x7117000A = some (.qwait 17#6 28#6 true) ∧
    decodeTableWord 32 0x7168400C = some (.qstat 22#6 33#6 false) := by
  refine ⟨rfl, rfl, rfl, rfl⟩

/-- Words of major 0x1D, their fields filled in by the bits that spec/opcode_table.json gives them. -/
theorem test_decode_major_1d :
    decodeTableWord 32 0x75B9B100 = some (.lrpatch 27#6 38#6 49#6 false) ∧
    decodeTableWord 32 0x74080006 = some (.lrarm 32#6 true) ∧
    decodeTableWord 32 0x765C3B08 = some (.lrstat 37#6 48#6 59#6 false) ∧
    decodeTableWord 32 0x740A800E = some (.jdec 42#6 true) ∧
    decodeTableWord 32 0x74000012 = some (.endTask) ∧
    decodeTableWord 32 0x77400016 = some (.tself 52#6 true) := by
  refine ⟨rfl, rfl, rfl, rfl, rfl, rfl⟩

/-- Words of major 0x1E, their fields filled in by the bits that spec/opcode_table.json gives them. -/
theorem test_decode_major_1e :
    decodeTableWord 32 0x7B910002 = some (.gbar 57#6 4#6 true) ∧
    decodeTableWord 32 0x7BE00006 = some (.garr 62#6 true) ∧
    decodeTableWord 32 0x7833800A = some (.gwait 3#6 14#6 true) ∧
    decodeTableWord 32 0x7884C00C = some (.gpeer 8#6 19#6 false) ∧
    decodeTableWord 32 0x78D60012 = some (.finc 13#6 24#6 true) ∧
    decodeTableWord 32 0x79276816 = some (.fwait 18#6 29#6 40#6 true) ∧
    decodeTableWord 32 0x7978801A = some (.frd 23#6 34#6 true) ∧
    decodeTableWord 32 0x79C0001E = some (.fclr 28#6 true) ∧
    decodeTableWord 32 0x7A1B0022 = some (.twait 33#6 44#6 true) ∧
    decodeTableWord 32 0x7A6C4024 = some (.ttest 38#6 49#6 false) ∧
    decodeTableWord 32 0x780AC028 = some (.fork 43#6 false) ∧
    decodeTableWord 32 0x7800002C = some (.rdv) ∧
    decodeTableWord 32 0x7801F530 = some (.slip 501#12 false) ∧
    decodeTableWord 32 0x780E8036 = some (.frame 58#6 true) := by
  refine ⟨rfl, rfl, rfl, rfl, rfl, rfl, rfl, rfl, rfl, rfl, rfl, rfl, rfl, rfl⟩

/-- Words of major 0x1F, their fields filled in by the bits that spec/opcode_table.json gives them. -/
theorem test_decode_major_1f :
    decodeTableWord 32 0x7C0FC000 = some (.gpush 63#6 false) ∧
    decodeTableWord 32 0x7C400006 = some (.gpop 4#6 true) ∧
    decodeTableWord 32 0x7C900008 = some (.gtop 9#6 false) ∧
    decodeTableWord 32 0x7CE0000E = some (.gdepth 14#6 true) ∧
    decodeTableWord 32 0x7C000012 = some (.gclr) ∧
    decodeTableWord 32 0x7D88EE16 = some (.maskf 24#6 35#6 46#6 true) := by
  refine ⟨rfl, rfl, rfl, rfl, rfl, rfl⟩

/-- Words of major 0x20, their fields filled in by the bits that spec/opcode_table.json gives them. -/
theorem test_decode_major_20 :
    decodeTableWord 32 0x81D22802 = some (.mxw 29#6 552#12 true) ∧
    decodeTableWord 32 0x82222D04 = some (.mxr 34#6 557#12 false) ∧
    decodeTableWord 32 0x80000A16 = some (.oclaim true 2#3 true) ∧
    decodeTableWord 32 0x8000041A = some (.orels 4#3 true) ∧
    decodeTableWord 32 0x8310001C = some (.ostat 49#6 false) := by
  refine ⟨rfl, rfl, rfl, rfl, rfl⟩

/-- Words of major 0x21, their fields filled in by the bits that spec/opcode_table.json gives them. -/
theorem test_decode_major_21 :
    decodeTableWord 32 0x87600006 = some (.ceAbort 54#6 true) ∧
    decodeTableWord 32 0x87B1800A = some (.ceStat 59#6 6#6 true) := by
  refine ⟨rfl, rfl⟩

/-- Words of major 0x22, their fields filled in by the bits that spec/opcode_table.json gives them. -/
theorem test_decode_major_22 :
    decodeTableWord 32 0x88000006 = some (.seDel 0#6 true) ∧
    decodeTableWord 32 0x8801500A = some (.seAge 5#6 16#6 true) ∧
    decodeTableWord 32 0x88A54010 = some (.seCnt 10#6 21#6 false) ∧
    decodeTableWord 32 0x88F68016 = some (.seQuota 15#6 26#6 true) := by
  refine ⟨rfl, rfl, rfl, rfl⟩

/-- Words of major 0x23, their fields filled in by the bits that spec/opcode_table.json gives them. -/
theorem test_decode_major_23 :
    decodeTableWord 32 0x8D47C000 = some (.spermit 20#6 31#6 false) ∧
    decodeTableWord 32 0x8C064004 = some (.spret 25#6 false) ∧
    decodeTableWord 32 0x8DE0000E = some (.fltclose 30#6 true) := by
  refine ⟨rfl, rfl, rfl⟩

/-- Words of major 0x24, their fields filled in by the bits that spec/opcode_table.json gives them. -/
theorem test_decode_major_24 :
    decodeTableWord 32 0x90000002 = some (.nop) ∧
    decodeTableWord 32 0x90026806 = some (.trap 616#12 true) ∧
    decodeTableWord 32 0x9000000A = some (.tret) ∧
    decodeTableWord 32 0x9002720E = some (.scall 626#12 true) ∧
    decodeTableWord 32 0x93728212 = some (.rdctl 55#6 642#12 true) ∧
    decodeTableWord 32 0x93C28714 = some (.wrctl 60#6 647#12 false) ∧
    decodeTableWord 32 0x9000001A = some (.isync) ∧
    decodeTableWord 32 0x9001911C = some (.iflush 6#6 17#6 false) ∧
    decodeTableWord 32 0x90000022 = some (.sret) ∧
    decodeTableWord 32 0x91029B24 = some (.srdctl 16#6 667#12 false) ∧
    decodeTableWord 32 0x9152A02A = some (.swrctl 21#6 672#12 true) ∧
    decodeTableWord 32 0x9006A52C = some (.tlbinv 26#6 37#6 false) ∧
    decodeTableWord 32 0x9007C030 = some (.sespall 31#6 false) ∧
    decodeTableWord 32 0x924BC034 = some (.snapt 36#6 47#6 false) ∧
    decodeTableWord 32 0x929D003A = some (.corestop 41#6 52#6 true) := by
  refine ⟨rfl, rfl, rfl, rfl, rfl, rfl, rfl, rfl, rfl, rfl, rfl, rfl, rfl, rfl, rfl⟩

/-- Words of major 0x25, their fields filled in by the bits that spec/opcode_table.json gives them. -/
theorem test_decode_major_25 :
    decodeTableWord 32 0x96EE4588 = some (.beq 46#6 57#6 708#13) := by
  rfl

/-- Words of major 0x26, their fields filled in by the bits that spec/opcode_table.json gives them. -/
theorem test_decode_major_26 :
    decodeTableWord 32 0x9B3F8592 = some (.bne 51#6 62#6 713#13) := by
  rfl

/-- Words of major 0x27, their fields filled in by the bits that spec/opcode_table.json gives them. -/
theorem test_decode_major_27 :
    decodeTableWord 32 0x9F80C59C = some (.blt 56#6 3#6 718#13) := by
  rfl

/-- Words of major 0x28, their fields filled in by the bits that spec/opcode_table.json gives them. -/
theorem test_decode_major_28 :
    decodeTableWord 32 0xA3D205A6 = some (.bge 61#6 8#6 723#13) := by
  rfl

/-- Words of major 0x29, their fields filled in by the bits that spec/opcode_table.json gives them. -/
theorem test_decode_major_29 :
    decodeTableWord 32 0xA42345B0 = some (.bltu 2#6 13#6 728#13) := by
  rfl

/-- Words of major 0x2A, their fields filled in by the bits that spec/opcode_table.json gives them. -/
theorem test_decode_major_2a :
    decodeTableWord 32 0xA87485BA = some (.bgeu 7#6 18#6 733#13) := by
  rfl

/-- Words of major 0x2B, their fields filled in by the bits that spec/opcode_table.json gives them. -/
theorem test_decode_major_2b :
    decodeTableWord 32 0xACC005AE = some (.jal 12#6 727#19) := by
  rfl

/-- Words of major 0x2C, their fields filled in by the bits that spec/opcode_table.json gives them. -/
theorem test_decode_major_2c :
    decodeTableWord 32 0xB11705CE = some (.jalr 17#6 28#6 743#13) := by
  rfl

/-- Words of major 0x2D, their fields filled in by the bits that spec/opcode_table.json gives them. -/
theorem test_decode_major_2d :
    decodeTableWord 32 0xB56005C2 = some (.loop 22#6 737#13) := by
  rfl

/-- Words of major 0x30, their fields filled in by the bits that spec/opcode_table.json gives them. -/
theorem test_decode_major_30 :
    decodeTableWord 32 0xC129B119 = some (.vaddF32 18#6 38#6 49#6 12#4 true) ∧
    decodeTableWord 32 0xC14AF622 = some (.vsubF32 20#6 43#6 54#6 1#4 false) ∧
    decodeTableWord 32 0xC16C3B4D = some (.vmulF32 22#6 48#6 59#6 6#4 true) ∧
    decodeTableWord 32 0xC18D4076 = some (.vminF32 24#6 53#6 0#6 11#4 false) ∧
    decodeTableWord 32 0xC1AE8581 = some (.vmaxF32 26#6 58#6 5#6 0#4 true) ∧
    decodeTableWord 32 0xC1CFCAAA = some (.vfmaF32 28#6 63#6 10#6 5#4 false) ∧
    decodeTableWord 32 0xC1E10FD5 = some (.vfnmaF32 30#6 4#6 15#6 10#4 true) ∧
    decodeTableWord 32 0xC20254FE = some (.vcpsgnF32 32#6 9#6 20#6 15#4 false) := by
  refine ⟨rfl, rfl, rfl, rfl, rfl, rfl, rfl, rfl⟩

/-- Words of major 0x31, their fields filled in by the bits that spec/opcode_table.json gives them. -/
theorem test_decode_major_31 :
    decodeTableWord 32 0xC6239909 = some (.vaddF16 34#6 14#6 25#6 4#4 true) ∧
    decodeTableWord 32 0xC644DE32 = some (.vsubF16 36#6 19#6 30#6 9#4 false) ∧
    decodeTableWord 32 0xC666235D = some (.vmulF16 38#6 24#6 35#6 14#4 true) ∧
    decodeTableWord 32 0xC6876866 = some (.vminF16 40#6 29#6 40#6 3#4 false) ∧
    decodeTableWord 32 0xC6A8AD91 = some (.vmaxF16 42#6 34#6 45#6 8#4 true) ∧
    decodeTableWord 32 0xC6C9F2BA = some (.vfmaF16 44#6 39#6 50#6 13#4 false) ∧
    decodeTableWord 32 0xC6EB37C5 = some (.vfnmaF16 46#6 44#6 55#6 2#4 true) ∧
    decodeTableWord 32 0xC70C7CEE = some (.vcpsgnF16 48#6 49#6 60#6 7#4 false) := by
  refine ⟨rfl, rfl, rfl, rfl, rfl, rfl, rfl, rfl⟩

/-- Words of major 0x32, their fields filled in by the bits that spec/opcode_table.json gives them. -/
theorem test_decode_major_32 :
    decodeTableWord 32 0xCB2D8119 = some (.vaddBF16 50#6 54#6 1#6 12#4 true) ∧
    decodeTableWord 32 0xCB4EC622 = some (.vsubBF16 52#6 59#6 6#6 1#4 false) ∧
    decodeTableWord 32 0xCB600B4D = some (.vmulBF16 54#6 0#6 11#6 6#4 true) ∧
    decodeTableWord 32 0xC8015076 = some (.vminBF16 0#6 5#6 16#6 11#4 false) ∧
    decodeTableWord 32 0xC8229581 = some (.vmaxBF16 2#6 10#6 21#6 0#4 true) ∧
    decodeTableWord 32 0xC843DAAA = some (.vfmaBF16 4#6 15#6 26#6 5#4 false) ∧
    decodeTableWord 32 0xC8651FD5 = some (.vfnmaBF16 6#6 20#6 31#6 10#4 true) ∧
    decodeTableWord 32 0xC88664FE = some (.vcpsgnBF16 8#6 25#6 36#6 15#4 false) := by
  refine ⟨rfl, rfl, rfl, rfl, rfl, rfl, rfl, rfl⟩

/-- Words of major 0x33, their fields filled in by the bits that spec/opcode_table.json gives them. -/
theorem test_decode_major_33 :
    decodeTableWord 32 0xCCA7A909 = some (.vaddI32 10#6 30#6 41#6 4#4 true) ∧
    decodeTableWord 32 0xCCC8EE32 = some (.vsubI32 12#6 35#6 46#6 9#4 false) ∧
    decodeTableWord 32 0xCCEA335D = some (.vmulI32 14#6 40#6 51#6 14#4 true) ∧
    decodeTableWord 32 0xCD0B7866 = some (.vmulhI32 16#6 45#6 56#6 3#4 false) ∧
    decodeTableWord 32 0xCD2CBD91 = some (.vminI32 18#6 50#6 61#6 8#4 true) ∧
    decodeTableWord 32 0xCD4DC2BA = some (.vmaxI32 20#6 55#6 2#6 13#4 false) ∧
    decodeTableWord 32 0xCD6F07C5 = some (.vminUI32 22#6 60#6 7#6 2#4 true) ∧
    decodeTableWord 32 0xCD804CEE = some (.vmaxUI32 24#6 1#6 12#6 7#4 false) := by
  refine ⟨rfl, rfl, rfl, rfl, rfl, rfl, rfl, rfl⟩

/-- Words of major 0x34, their fields filled in by the bits that spec/opcode_table.json gives them. -/
theorem test_decode_major_34 :
    decodeTableWord 32 0xD1A19119 = some (.vaddI16 26#6 6#6 17#6 12#4 true) ∧
    decodeTableWord 32 0xD1C2D622 = some (.vsubI16 28#6 11#6 22#6 1#4 false) ∧
    decodeTableWord 32 0xD1E41B4D = some (.vaddsI16 30#6 16#6 27#6 6#4 true) ∧
    decodeTableWord 32 0xD2056076 = some (.vsubsI16 32#6 21#6 32#6 11#4 false) ∧
    decodeTableWord 32 0xD226A581 = some (.vaddI8 34#6 26#6 37#6 0#4 true) ∧
    decodeTableWord 32 0xD247EAAA = some (.vsubI8 36#6 31#6 42#6 5#4 false) ∧
    decodeTableWord 32 0xD2692FD5 = some (.vaddsI8 38#6 36#6 47#6 10#4 true) ∧
    decodeTableWord 32 0xD28A74FE = some (.vsubsI8 40#6 41#6 52#6 15#4 false) := by
  refine ⟨rfl, rfl, rfl, rfl, rfl, rfl, rfl, rfl⟩

/-- Words of major 0x35, their fields filled in by the bits that spec/opcode_table.json gives them. -/
theorem test_decode_major_35 :
    decodeTableWord 32 0xD6ABB909 = some (.vand 42#6 46#6 57#6 4#4 true) ∧
    decodeTableWord 32 0xD6CCFE32 = some (.vor 44#6 51#6 62#6 9#4 false) ∧
    decodeTableWord 32 0xD6EE035D = some (.vxor 46#6 56#6 3#6 14#4 true) ∧
    decodeTableWord 32 0xD70F4866 = some (.vandn 48#6 61#6 8#6 3#4 false) ∧
    decodeTableWord 32 0xD7208D91 = some (.vshl 50#6 2#6 13#6 8#4 true) ∧
    decodeTableWord 32 0xD741D2BA = some (.vshr 52#6 7#6 18#6 13#4 false) ∧
    decodeTableWord 32 0xD76317C5 = some (.vsar 54#6 12#6 23#6 2#4 true) ∧
    decodeTableWord 32 0xD40440F9 = some (.vnot 0#6 17#6 12#4 true) := by
  refine ⟨rfl, rfl, rfl, rfl, rfl, rfl, rfl, rfl⟩

/-- Words of major 0x36, their fields filled in by the bits that spec/opcode_table.json gives them. -/
theorem test_decode_major_36 :
    decodeTableWord 32 0xD8B5A119 = some (.veqF32 11#4 22#6 33#6 12#4 true) ∧
    decodeTableWord 32 0xD806E622 = some (.vltF32 0#4 27#6 38#6 1#4 false) ∧
    decodeTableWord 32 0xD8582B4D = some (.vleF32 5#4 32#6 43#6 6#4 true) ∧
    decodeTableWord 32 0xD8A97076 = some (.vunF32 10#4 37#6 48#6 11#4 false) ∧
    decodeTableWord 32 0xD8FAB581 = some (.veqI32 15#4 42#6 53#6 0#4 true) ∧
    decodeTableWord 32 0xD84BFAAA = some (.vltI32 4#4 47#6 58#6 5#4 false) ∧
    decodeTableWord 32 0xD89D3FD5 = some (.vltUI32 9#4 52#6 63#6 10#4 true) ∧
    decodeTableWord 32 0xD8EE44FE = some (.vneI32 14#4 57#6 4#6 15#4 false) := by
  refine ⟨rfl, rfl, rfl, rfl, rfl, rfl, rfl, rfl⟩

/-- Words of major 0x37, their fields filled in by the bits that spec/opcode_table.json gives them. -/
theorem test_decode_major_37 :
    decodeTableWord 32 0xDD2F8909 = some (.vsel 18#6 62#6 9#6 4#4 true) ∧
    decodeTableWord 32 0xDD40C03D = some (.vmov 20#6 3#6 14#4 true) ∧
    decodeTableWord 32 0xDD62135D = some (.vbcl 22#6 8#6 19#6 14#4 true) ∧
    decodeTableWord 32 0xDD835866 = some (.vperm 24#6 13#6 24#6 3#4 false) ∧
    decodeTableWord 32 0xDDA49D91 = some (.vslup 26#6 18#6 29#6 8#4 true) ∧
    decodeTableWord 32 0xDDC5E2BA = some (.vsldn 28#6 23#6 34#6 13#4 false) ∧
    decodeTableWord 32 0xDC0440C0 = some (.vtoa 17#6 false) ∧
    decodeTableWord 32 0xDE0840F9 = some (.vrand 32#6 33#6 12#4 true) := by
  refine ⟨rfl, rfl, rfl, rfl, rfl, rfl, rfl, rfl⟩

/-- Words of major 0x38, their fields filled in by the bits that spec/opcode_table.json gives them. -/
theorem test_decode_major_38 :
    decodeTableWord 32 0xE229AA6B = some (.vcvt 34#6 38#6 true .e3m2 .e2m3 .sr true) := by
  rfl

/-- Words of major 0x39, their fields filled in by the bits that spec/opcode_table.json gives them. -/
theorem test_decode_major_39 :
    decodeTableWord 32 0xE64AE200 = some (.vqnt 36#6 43#6 .fp16 .rne false) ∧
    decodeTableWord 32 0xE66C2440 = some (.vdqnt 38#6 48#6 .bf16 false) ∧
    decodeTableWord 32 0xE68D4681 = some (.vpack 40#6 53#6 .e4m3 true) ∧
    decodeTableWord 32 0xE6AE88C0 = some (.vunpk 42#6 58#6 .e5m2 false) ∧
    decodeTableWord 32 0xE6CFC100 = some (.vsgn 44#6 63#6 false) ∧
    decodeTableWord 32 0xE6E10141 = some (.vham 46#6 4#6 true) := by
  refine ⟨rfl, rfl, rfl, rfl, rfl, rfl⟩

/-- Words of major 0x3A, their fields filled in by the bits that spec/opcode_table.json gives them. -/
theorem test_decode_major_3a :
    decodeTableWord 32 0xEB024009 = some (.vexp2 48#6 9#6 4#4 true) ∧
    decodeTableWord 32 0xEB238032 = some (.vlog2 50#6 14#6 9#4 false) ∧
    decodeTableWord 32 0xEB44C05D = some (.vrcp 52#6 19#6 14#4 true) ∧
    decodeTableWord 32 0xEB660066 = some (.vrsq 54#6 24#6 3#4 false) ∧
    decodeTableWord 32 0xE8074091 = some (.vsqrt 0#6 29#6 8#4 true) ∧
    decodeTableWord 32 0xE828ADB1 = some (.vdiv 2#6 34#6 45#6 8#4 true) := by
  refine ⟨rfl, rfl, rfl, rfl, rfl, rfl⟩

/-- Words of major 0x3B, their fields filled in by the bits that spec/opcode_table.json gives them. -/
theorem test_decode_major_3b :
    decodeTableWord 32 0xEC49C005 = some (.vrsumF32 4#6 39#6 2#4 true) ∧
    decodeTableWord 32 0xEC6B002E = some (.vrmaxF32 6#6 44#6 7#4 false) ∧
    decodeTableWord 32 0xEC8C4059 = some (.vrminF32 8#6 49#6 12#4 true) ∧
    decodeTableWord 32 0xECAD8062 = some (.vrmaxiF32 10#6 54#6 1#4 false) ∧
    decodeTableWord 32 0xECCEC08D = some (.vrminiF32 12#6 59#6 6#4 true) ∧
    decodeTableWord 32 0xECE000B6 = some (.vrsumI32 14#6 0#6 11#4 false) ∧
    decodeTableWord 32 0xED0140C1 = some (.vrmaxI32 16#6 5#6 0#4 true) ∧
    decodeTableWord 32 0xED2280EA = some (.vrmaxiI32 18#6 10#6 5#4 false) := by
  refine ⟨rfl, rfl, rfl, rfl, rfl, rfl, rfl, rfl⟩

/-- Words of major 0x3C, their fields filled in by the bits that spec/opcode_table.json gives them. -/
theorem test_decode_major_3c :
    decodeTableWord 32 0xF043CA01 = some (.pand 4#4 15#4 10#4 true) ∧
    decodeTableWord 32 0xF0910F20 = some (.por 9#4 4#4 15#4 false) ∧
    decodeTableWord 32 0xF0E24441 = some (.pxor 14#4 9#4 4#4 true) ∧
    decodeTableWord 32 0xF0338061 = some (.pnot 3#4 14#4 true) ∧
    decodeTableWord 32 0xF1C0C080 = some (.ppopc 28#6 3#4 false) ∧
    decodeTableWord 32 0xF1E200A1 = some (.pffs 30#6 8#4 true) ∧
    decodeTableWord 32 0xF02340C0 = some (.pmov 2#4 13#4 false) ∧
    decodeTableWord 32 0xF22080E1 = some (.vfromp 34#6 2#4 true) := by
  refine ⟨rfl, rfl, rfl, rfl, rfl, rfl, rfl, rfl⟩

/-- Words of major 0x3D, their fields filled in by the bits that spec/opcode_table.json gives them. -/
theorem test_decode_major_3d :
    decodeTableWord 32 0xF64E101A = some (.accrd 36#6 3#2 66#7 13#4 false) ∧
    decodeTableWord 32 0xF7123825 = some (.accwr 49#6 0#2 71#7 2#4 true) ∧
    decodeTableWord 32 0xF6D90040 = some (.accz 182#8 1#2 false) ∧
    decodeTableWord 32 0xF404BB60 = some (.xloop 1211#18 false) ∧
    decodeTableWord 32 0xF404C096 = some (.xbr 1216#18 11#4 false) ∧
    decodeTableWord 32 0xF404C5A0 = some (.xj 1221#18 false) ∧
    decodeTableWord 32 0xF40000C0 = some (.xrdv) ∧
    decodeTableWord 32 0xF403C0E0 = some (.xsetlc 15#6 false) := by
  refine ⟨rfl, rfl, rfl, rfl, rfl, rfl, rfl, rfl⟩

/-! ### Witnesses: registers, branches, memory -/

/-- ADD s7, s5, s6 (IntegerResults); DIVU by zero takes its own value. -/
theorem wit_integer : ∃ (s s1 s2 t : State) (x y v : Word), s.clear [5#6, 6#6] [7#6] = true ∧ s.Reads 5 x s1 ∧ s1.Reads 6 y s2 ∧
    s2.Writes 7 v t ∧ v = x + y ∧ x = 3 ∧ y = 4 :=
  ⟨stAB 3 4, _, _, _, _, _, 7, by decide, reads_reg rfl, reads_reg rfl, writes_reg rfl, by decide, by decide, by decide⟩

theorem wit_integer_by_zero : ∃ (s s1 s2 t : State) (x y v : Word), s.clear [5#6, 6#6] [7#6] = true ∧ s.Reads 5 x s1 ∧
    s1.Reads 6 y s2 ∧ s2.Writes 7 v t ∧ y = 0 ∧ v = BitVec.allOnes 64 :=
  ⟨stAB 3 0, _, _, _, _, _, _, by decide, reads_reg rfl, reads_reg rfl, writes_reg rfl, by decide, rfl⟩

/-- CLZ, CTZ and POPC of 0 give 64, 64 and 0 (R141). -/
theorem wit_bit_counts : ∃ (s s1 t : State) (x : Word), s.clear [5#6] [7#6] = true ∧ s.Reads 5 x s1 ∧
    s1.Writes 7 (.ofNat 64 64) t ∧ x = 0 ∧ (∀ k, 64 - 64 ≤ k → k < 64 → x.getLsbD k = false) :=
  ⟨stAB 0 0, _, _, _, by decide, reads_reg rfl, writes_reg rfl, by decide, fun k _ _ => by rw [show (stAB 0 0).here.reg 5 = 0 from rfl]; simp⟩

/-- The spec's worked BFXU: s5 = 0xDEAD_BEEF, s6 = 0x0810 gives 0xAD (chapter 07). -/
theorem wit_bit_field : ∃ (s s1 s2 t : State) (x y : Word), s.clear [5#6, 6#6, 7#6] [7#6] = true ∧ s.Reads 5 x s1 ∧ s1.Reads 6 y s2 ∧
    s2.Writes 7 0xAD t ∧ y.toNat % 64 = 16 ∧ y.toNat / 256 % 64 = 8 ∧
    ∀ k, k < 64 → (0xAD#64).getLsbD k = (decide (k < 8) && x.getLsbD (16 + k)) :=
  ⟨stAB 0xDEADBEEF 0x0810, _, _, _, _, _, by decide, reads_reg rfl, reads_reg rfl, writes_reg rfl, by decide, by decide, by decide⟩

theorem wit_immediate : ∃ (s s1 t : State) (x : Word), s.clear [5#6] [7#6] = true ∧ s.Reads 5 x s1 ∧
    s1.Writes 7 (x + (0x1FFF#13).signExtend 64) t ∧ s.clear [] [7#6] = true :=
  ⟨stAB 0 0, _, _, _, by decide, reads_reg rfl, writes_reg rfl, by decide⟩

/-- SHLI with imm13[12:6] = 1. -/
theorem wit_reserved_shift : fMajor 0x14000080#32 = 5 ∧ fld 0x14000080#32 7 7 ≠ 0#7 := by decide

theorem wit_branch_taken : ∃ (s s1 s2 : State) (x y : Word), s.clear [5#6, 6#6] [] = true ∧ s.Reads 5 x s1 ∧ s1.Reads 6 y s2 ∧ x = y :=
  ⟨stAB 1 1, _, _, _, _, by decide, reads_reg rfl, reads_reg rfl, by decide⟩

theorem wit_branch_waits : ∃ s : State, (∀ q ∈ [5#6, 6#6], isPort q = true → s.here.portOk false q = true) ∧
    (∀ q ∈ s.here.a.bad, q.reg ≠ 5#6 ∧ q.reg ≠ 6#6) ∧ [5#6, 6#6].find? s.here.isEmpty = some 6#6 :=
  ⟨stK (·.awaitReg { reg := 6, val := 1, pc := 0x1000 }), by decide, by decide, by decide⟩

theorem wit_jump_aligned : ∃ (s s1 : State) (x : Word), s.clear [5#6] [7#6] = true ∧ s.Reads 5 x s1 ∧ (x + (1#13).signExtend 64 * 4).toNat % 4 = 0 :=
  ⟨stAB 8 0, _, _, by decide, reads_reg rfl, by decide⟩
theorem wit_jump_misaligned : ∃ (s s1 : State) (x : Word), s.clear [5#6] [7#6] = true ∧ s.Reads 5 x s1 ∧ (x + (1#13).signExtend 64 * 4).toNat % 4 ≠ 0 :=
  ⟨stAB 9 0, _, _, by decide, reads_reg rfl, by decide⟩
theorem wit_loop_ends : ∃ (s s1 t : State) (x : Word), s.clear [5#6] [5#6] = true ∧ s.Reads 5 x s1 ∧ s1.Writes 5 (x - 1) t ∧ x = 1 :=
  ⟨stAB 1 0, _, _, _, by decide, reads_reg rfl, writes_reg rfl, by decide⟩

/-- The leaf of the small state's page tables. -/
def xl0 (a : Nat) : Xl := { pa := a, pte := 0xE7#128 }

theorem wit_load : ∃ (s s1 : State) (x : Word), s.clear [5#6] [7#6] = true ∧ s.Reads 5 x s1 ∧
    s1.xlate s1.cur s1.here.ctx .read (x + (1#9).signExtend 64 * 8) 8 = .ok (xl0 0x2008) :=
  ⟨stAB 0x2000 0, _, _, by decide, reads_reg rfl, rfl⟩

theorem wit_load_return : ∃ (s : State) (p : PendLoad), s.ev.core = 1 ∧ s.ev.n.setWidth 6 = 6#6 ∧
    (s.core 1).a.pend.find? (·.reg == 6#6) = some p :=
  ⟨{ stK (·.awaitReg { reg := 6, val := 1, pc := 0x1000 }) with ev := { core := 1, n := 6 } }, _, by decide, by decide, rfl⟩

theorem wit_store : ∃ (s s1 s2 : State) (x y : Word), s.clear [5#6, 6#6] [] = true ∧ s.Reads 5 x s1 ∧ s1.Reads 6 y s2 ∧
    s2.xlate s2.cur s2.here.ctx .write (x + (0x1FF#9).signExtend 64 * 4) 4 = .ok (xl0 0x1FFC) ∧ s2.mem.wf = true ∧ s2.linkDown 0x1FFC 4 = false :=
  ⟨stAB 0x2000 7, _, _, _, _, by decide, reads_reg rfl, reads_reg rfl, rfl, by decide, by decide +kernel⟩

theorem wit_atomic : ∃ (s s1 s2 : State) (x y : Word), s.here.a.begun = [] ∧ s.clear [5#6, 6#6] [7#6] = true ∧ s.Reads 5 x s1 ∧
    s1.Reads 6 y s2 ∧ s2.xlate s2.cur s2.here.ctx .atomic x 8 = .ok (xl0 0x2000) ∧
    ¬(pteTier (xl0 0x2000).pte = 1 ∧ pteRsd (xl0 0x2000).pte = false) ∧ s2.poisoned (xl0 0x2000).pa = false :=
  ⟨stAB 0x2000 7, _, _, _, _, rfl, by decide, reads_reg rfl, reads_reg rfl, rfl, by decide, by decide⟩

theorem wit_atomic_poisoned : ∃ (s : State), s.here.a.begun = [] ∧ s.poisoned (xl0 0x2000).pa = true :=
  ⟨{ stAB 0x2000 7 with poison := [0x40] }, rfl, by decide⟩

/-- AMORR.add [s5], s6 with a descriptor in s7 that names the own core, address 8 and flag 3. -/
theorem wit_amorr : ∃ (s s1 s2 s3 : State) (x y d : Word), s.here.a.begun = [] ∧ s.clear [5#6, 6#6, 7#6] [] = true ∧
    s.Reads 5 x s1 ∧ s1.Reads 6 y s2 ∧ s2.Reads 7 d s3 ∧ s3.amorrCheck d = none ∧
    s3.xlate s3.cur s3.here.ctx .atomic x 8 = .ok (xl0 0x2000) :=
  ⟨(stAB 0x2000 1).modHere (·.setReg 7 0x0000000103000008#64), _, _, _, _, _, _, rfl, by decide, reads_reg rfl, reads_reg rfl,
    reads_reg rfl, by decide, rfl⟩

theorem wit_amorr_return : ∃ (s : State) (r : AmorrRet), s.amorr = [r] ∧ r.bad = false ∧ (s.core r.core).absent = [] ∧ (s.core r.core).occ = .task ∧
    (s.core r.core).holder = r.task :=
  ⟨{ st0 with amorr := [{ core := 1, task := st0.here.holder, addr := 8, flag := 3, val := 5 }] }, _, rfl, rfl, rfl, rfl, rfl⟩

theorem wit_spm_load_own : ∃ (s s1 s2 t : State) (x y : Word), s.clear [5#6, 6#6] [7#6] = true ∧ s.Reads 5 x s1 ∧ s1.Reads 6 y s2 ∧
    s2.here.route 5 (x + y) = .local_ ∧ (x + y).toNat + 8 ≤ 0x80000 ∧ (x + y).toNat % 8 = 0 ∧
    s2.here.spm.badIn (x + y).toNat 8 = false ∧ s2.Writes 7 (.ofNat 64 (s2.here.spm.mem.get (x + y).toNat 8)) t :=
  ⟨stAB 0x7FFF0 8, _, _, _, _, _, by decide, reads_reg rfl, reads_reg rfl, by decide, by decide, by decide, by decide, writes_reg rfl⟩

/-- Below SPCO through sp the window gives global memory. -/
theorem wit_spm_load_window : ∃ (s s1 s2 : State) (x y : Word), s.clear [63#6, 6#6] [7#6] = true ∧ s.Reads 63 x s1 ∧ s1.Reads 6 y s2 ∧
    (x + y).toNat < s2.here.spco.toNat ∧
    s2.xlate s2.cur s2.here.ctx .read (s2.here.ctl.spovf + (x + y)) 8 = .ok (xl0 0x2000) ∧ s2.poisoned 0x2000 = false :=
  ⟨(stK fun k => { k with ctl := { k.ctl with spovf := 0x2000 } }), _, _, _, _, by decide, reads_reg rfl,
    reads_reg rfl, by decide, rfl, by decide⟩

theorem wit_spm_store : ∃ (s s1 s2 s3 : State) (x y z : Word), s.clear [5#6, 6#6, 7#6] [] = true ∧ s.Reads 5 x s1 ∧ s1.Reads 6 y s2 ∧
    s2.Reads 7 z s3 ∧ s3.here.route 5 (x + y) = .local_ ∧ (x + y).toNat + 8 ≤ 0x80000 ∧ (x + y).toNat % 8 = 0 ∧
    s3.here.spm.badIn (x + y).toNat 8 = false :=
  ⟨stAB 0x7FFF0 8, _, _, _, _, _, _, by decide, reads_reg rfl, reads_reg rfl, reads_reg rfl, by decide, by decide, by decide, by decide⟩

theorem wit_full_bits : ∃ (s s1 s2 : State) (x y : Word), s.clear [5#6, 6#6] [] = true ∧ s.Reads 5 x s1 ∧ s1.Reads 6 y s2 ∧
    s2.here.route 5 x = .local_ ∧ x.toNat < 0x80000 ∧ x.toNat % 128 = 0 ∧ x.toNat / 128 + y.toNat ≤ 4096 ∧ y ≠ 0 :=
  ⟨stAB 0x7FF80 1, _, _, _, _, by decide, reads_reg rfl, reads_reg rfl, by decide, by decide, by decide, by decide, by decide⟩

/-! ### Witnesses: vector loads and stores -/

/-- VLD lq0 of the last 512 bytes of the scratchpad, with an effective address of 0x7FE00. -/
theorem wit_vector_load : ∃ (s s1 s2 : State) (x y : Word) (bs : List Byte) (bad : Option Word),
    s.here.a.handoff ≠ some (0#2, s.here.a.pc) ∧ (s.here.lq 0).length < max s.here.ctl.slipd.toNat 1 ∧
    s.clear [5#6, 6#6] [] = true ∧ s.Reads 5 x s1 ∧ s1.Reads 6 y s2 ∧
    s2.readLines ((List.range 4).map fun i => .sp s2.cur (0x7FE00 + 128 * i)) = .ok (bs, bad) ∧ (x + y).toNat = 0x7FE00 ∧
    s2.vecLines .read 5 (x + y) true = .ok ((List.range 4).map fun i => .sp s2.cur (0x7FE00 + 128 * i)) :=
  ⟨stAB 0x7FC00 0x200, _, _, _, _, _, _, by decide, by decide, by decide, reads_reg rfl, reads_reg rfl, rfl, by decide, rfl⟩

/-- The lines of a VLDG of 0x2000. -/
def gl4 : List LineAt :=
  [.glob 0x2000 0x2000, .glob 0x2080 0x2080, .glob 0x2100 0x2100, .glob 0x2180 0x2180]

theorem wit_vector_load_global : ∃ (s s1 s2 : State) (x y : Word) (r : List Byte × Option Word),
    s.here.ctl.slipd = 0#3 ∧ (s.here.lq 3).length < max s.here.ctl.slipd.toNat 1 ∧ s.Reads 5 x s1 ∧ s1.Reads 6 y s2 ∧
    s2.globLines .read [x + y, x + y + 128, x + y + 256, x + y + 384] = .ok gl4 ∧ s2.readLines gl4 = .ok r :=
  ⟨stAB 0x2000 0, _, _, _, _, _, by decide, by decide, reads_reg rfl, reads_reg rfl, rfl, rfl⟩

theorem wit_vector_load_full : ∃ (s : State), s.fullLines .read 5 0x200 = .ok 0x200 ∧
    ∀ n, n < 4 → s.here.spm.full.getLsbD (0x200 / 128 + n) = true :=
  ⟨stK fun k => { k with spm := { full := BitVec.allOnes 4096 } }, rfl, fun n h => by
    show (BitVec.allOnes 4096).getLsbD _ = true
    rw [BitVec.getLsbD_allOnes]; simp; omega⟩

theorem wit_own_vector_address : ((0x7FE00 : Word).toNat % 128 = 0 ∧ (0x7FE00 : Word).toNat + 512 ≤ 0x80000) ∧ 5#6 ≠ 63#6 := by decide

theorem wit_vector_store : ∃ (s s1 s2 : State) (x y : Word) (z : SqEnt), s.clear [5#6, 6#6] [] = true ∧ s.Reads 5 x s1 ∧
    s1.Reads 6 y s2 ∧ s2.here.sq .sq2 = [z] ∧
    s2.vecLines .write 5 (x + y) false = .ok ((List.range 4).map fun i => .sp s2.cur (0x200 + 128 * i)) :=
  ⟨(stAB 0x200 0).modHere fun k => k.setSq .sq2 [{ data := 7, en := 1 }], _, _, _, _, _, by decide, reads_reg rfl, reads_reg rfl,
    rfl, rfl⟩

theorem wit_vector_store_sound_lines : (stAB 0x200 0).badLines [.sp 1 0x200] (entBytes { data := 7, en := 1 }) = none := by decide

theorem wit_vector_store_empty_lines : ∃ s : State, s.fullLines .write 5 0x200 = .ok 0x200 ∧
    ∀ n, n < 4 → s.here.spm.full.getLsbD (0x200 / 128 + n) = false :=
  ⟨st0, rfl, fun n _ => by show (0#4096).getLsbD _ = false; simp⟩

/-- VLD.DEC of 128 unscaled INT8 codes at 0x100. -/
theorem wit_decode_load : ∃ (s s1 s2 : State) (x desc : Word) (c : CoreId) (o : Nat),
    s.clear [5#6, 6#6] [] = true ∧ s.Reads 5 x s1 ∧ s1.Reads 6 desc s2 ∧ bits desc 63 34 = 0 ∧ desc.getLsbD 5 = true ∧
    Elem.ofCode (desc.setWidth 4) = some .int8 ∧ s2.decSource 5 x (16 * elemWidth .int8) = .ok (c, o) ∧
    (s2.core c).spm.badIn o (16 * elemWidth .int8) = false ∧ s2.here.spm.badIn (128 * bits desc 33 22) 128 = false ∧
    s2.here.ctl.slipd ≠ 0#3 ∧ (s.here.lq 0).length < max s.here.ctl.slipd.toNat 1 :=
  ⟨(stAB 0x100 0x29).modHere fun k => { k with ctl := { k.ctl with slipd := 4 } }, _, _, _, _, 1, 0x100, by decide, reads_reg rfl, reads_reg rfl,
    by decide, by decide, rfl, rfl, by decide, by decide, by decide, by decide⟩

theorem wit_gather_issue : ∃ (s s1 : State) (x : Word) (n : IqEnt), s.clear [5#6] [] = true ∧ s.Reads 5 x s1 ∧ x.toNat % 4 = 0 ∧
    Tbl.find? s1.here.eng.gs 3 = none ∧ s1.here.q.iq = [n] ∧ (s1.here.lq 2).length < max s1.here.ctl.slipd.toNat 1 ∧
    ∃ z, s1.here.sq .sq0 = [z] :=
  ⟨(stAB 0x2000 0).modHere fun k => ({ k with q := { k.q with iq := [{ idx := 0, mask := BitVec.allOnes 128 }] } }).setSq .sq0
    [{ data := 0, en := 0 }], _, _, _, by decide, reads_reg rfl, by decide, rfl, rfl, by decide, _, rfl⟩

/-- A gather or scatter under way with bitmap 3, all its lanes active. -/
def gs3 (scatter : Bool) : Gs :=
  { base := 0x2000, scatter := scatter, lq := 0, sq := .sq0, iq := ⟨0, BitVec.allOnes 128⟩, data := ⟨0, BitVec.allOnes 512⟩, pc := 0x1000 }

/-- Its lane 127 is next, and the last. -/
def stG (scatter : Bool) : State :=
  let t := stK fun k => ({ k with eng := { k.eng with gs := [(3, gs3 scatter)] } } : Core).setCb 3 (BitVec.allOnes 128 >>> 1)
  { t with ev := { core := 1, n := 3, lane := 127 } }

theorem wit_gather_lane : ∃ s : State, Tbl.find? (s.core 1).eng.gs 3 = some (gs3 false) ∧ s.engineOn 1 = true ∧ (s.core 1).hold = none ∧
    ((s.core 1).cbOf 3).getLsbD 127 = false ∧ (gs3 false).iq.mask.getLsbD 127 = true ∧
    s.xlate 1 (s.core 1).ctx .read ((gs3 false).base + .ofNat 64 (lane 32 (gs3 false).iq.idx 127 * 4)) 4 = .ok (xl0 0x2000) ∧
    s.poisoned (xl0 0x2000).pa = false :=
  ⟨stG false, by decide +kernel, by decide +kernel, by decide +kernel, by decide +kernel, by decide +kernel, ok_of (by decide +kernel), by decide +kernel⟩

theorem wit_scatter_lane : ∃ s : State, Tbl.find? (s.core 1).eng.gs 3 = some (gs3 true) ∧
    (∀ j, j < 127 → ((s.core 1).cbOf 3).getLsbD j = true) ∧
    s.xlate 1 (s.core 1).ctx .write ((gs3 true).base + .ofNat 64 (lane 32 (gs3 true).iq.idx 127 * 4)) 4 = .ok (xl0 0x2000) :=
  ⟨stG true, by decide +kernel, by decide +kernel, ok_of (by decide +kernel)⟩

/-- Lanes 126 and 127 are left, on the same bytes: lane 127 waits. -/
theorem wit_scatter_waits : ∃ s : State, Tbl.find? (s.core 1).eng.gs 3 = some (gs3 true) ∧ s.ev.lane = 127 ∧
    ((s.core 1).cbOf 3).getLsbD 126 = false ∧ (gs3 true).iq.mask.getLsbD 126 = true ∧
    s.xlate 1 (s.core 1).ctx .write ((gs3 true).base + .ofNat 64 (lane 32 (gs3 true).iq.idx 126 * 4)) 4 = .ok (xl0 0x2000) :=
  ⟨(stG true).modCore 1 (·.setCb 3 (BitVec.allOnes 128 >>> 2)), by decide +kernel, by decide, by decide +kernel, by decide +kernel,
    ok_of (by decide +kernel)⟩

theorem wit_last_lane : ((stG false).core 1).cbOf 3 ||| 1#128 <<< 127 = BitVec.allOnes 128 := by decide

/-! ### Witnesses: ports, records, groups, flags, tokens -/

/-- A table queue 9 open to context 1 in both directions. -/
def q9 : Queue := { kind := .taskq, elog := 0, depth := 4, ctxA := 1, rightA := 3, ctxB := 0, rightB := 0 }
/-- st0 with queue 9, and s5. -/
def stQ (x : Word) : State := (stAB x 0).modPart 0 fun P => P.setQueue 9 q9

theorem wit_qbind : ∃ (s s1 : State) (x : Word), s.clear [5#6] [] = true ∧ s.Reads 5 x s1 ∧ s1.bindCheck x = none :=
  ⟨stQ 0x10009, _, _, by decide, reads_reg rfl, by decide +kernel⟩

theorem wit_qbind_not_open : ∃ (s s1 : State) (x : Word), s.clear [5#6] [] = true ∧ s.Reads 5 x s1 ∧ bits x 63 37 = 0 ∧
    s1.myPart.queue (descQid x) = none :=
  ⟨stQ 8, _, _, by decide, reads_reg rfl, by decide, by decide +kernel⟩

theorem wit_qstat : ∃ (s t : State) (q : Queue), s.clear [] [7#6] = true ∧ Tbl.find? s.here.a.ports (48 - 48) = some 9 ∧
    s.myPart.queue (descQid 9) = some q ∧ s.Writes 7 (s.portStat (portNo 48)) t :=
  ⟨(stQ 0).modHere fun k => { k with a := { k.a with ports := [(0, 9)] } }, _, q9, by decide, rfl, by decide +kernel, writes_reg rfl⟩

/-- Port q1 pushes into queue 9, which has room. -/
theorem wit_qwait : ((stQ 0).modHere fun k => { k with a := { k.a with ports := [(1, 0x10009)] } }).portReady (portNo 49) = true := by
  decide +kernel

/-- st0 with launch record 3 of its context, in state st, and s5 to s7. -/
def stR (st : LSt) (x f v : Word) : State :=
  ((stAB x f).modHere (·.setReg 7 v)).modPart 0 fun P => { P with recs := [(3, { st := st, ctx := 1, pceil := 3 })] }

theorem wit_lrpatch : ∃ (s s1 s2 s3 : State) (x f v : Word), s.Reads 5 x s1 ∧ s.clear [5#6, 6#6, 7#6] [] = true ∧ s1.Reads 6 f s2 ∧
    s2.Reads 7 v s3 ∧ x = (3#12).setWidth 64 ∧ s3.here.isSup = false ∧ (s3.myPart.lrec 3).ctx = s3.here.ctx ∧
    f = 9 ∧ v.toNat ≤ (s3.myPart.lrec 3).pceil.toNat ∧ (s3.myPart.lrec 3).st = .idle :=
  ⟨stR .idle 3 9 3, _, _, _, _, _, _, reads_reg rfl, by decide, reads_reg rfl, reads_reg rfl, by decide, by decide, by decide +kernel,
    by decide, by decide +kernel, by decide +kernel⟩

theorem wit_jdec : (stR .armed 3 0 0).myPart.lrec 3 = { st := .armed, ctx := 1, pceil := 3 } := by decide +kernel
theorem wit_lrec_of_another_context : ∃ s : State, (s.myPart.lrec 3).st ≠ .unbuilt ∧ (s.myPart.lrec 3).ctx ≠ s.here.ctx ∧ s.here.isSup = false :=
  ⟨st0.modPart 0 fun P => { P with recs := [(3, { st := .idle, ctx := 2 })] }, by decide +kernel, by decide +kernel, by decide +kernel⟩
theorem wit_lrstat_word : ∃ (s s1 s2 : State) (x f : Word), s.Reads 5 x s1 ∧ s.clear [5#6, 6#6] [7#6] = true ∧ s1.Reads 6 f s2 ∧
    f = 4 ∧ x = (3#12).setWidth 64 ∧ (s2.myPart.lrec 3).kind ≠ 2#2 ∧ (s2.myPart.lrec 3).st ≠ .unbuilt :=
  ⟨stR .queued 3 4 0, _, _, _, _, reads_reg rfl, by decide, reads_reg rfl, by decide, by decide, by decide +kernel, by decide +kernel⟩
theorem wit_supervisor_record : ∃ (s s1 : State) (x : Word), s.Reads 5 x s1 ∧ x = (3#12).setWidth 64 ∧ s1.here.isSup = true ∧
    (s1.myPart.lrec 3).st = .idle ∧ s.clear [5#6, 6#6, 7#6] [] = true :=
  ⟨(({ stR .idle 0 0 0 with cur := 0 } : State).modHere (·.setReg 5 3)), _, _, reads_reg rfl, by decide, by decide +kernel,
    by decide +kernel, by decide +kernel⟩

/-- Group 7 of a kind with members 1 and 2, in the task's slot 0. -/
def stGrp (kind : BitVec 2) (arr ph : Nat) (x : Word) : State :=
  ((stAB x 0).modHere fun k => { k with info := { k.info with cont := { k.info.cont with gvalid := 1, gids := 7 } } }).modPart 0
    fun P => { P with groups := [(7, { built := true, kind := kind, mask := 6, arrivals := arr, phase := ph })] }

theorem wit_barrier : ∃ (s s1 : State) (x : Word) (G : Group), s.Reads 5 x s1 ∧ s1.slotGroup 0 1#2 = some (7, G) ∧
    s1.here.phaseOf 0 ≤ G.phase ∧ s.here.a.gbar = none ∧ G.arrivals + 1 = G.size :=
  ⟨stGrp 1 1 0 100, _, _, { built := true, kind := 1, mask := 6, arrivals := 1 }, reads_reg rfl, by decide +kernel, by decide +kernel, rfl, by decide +kernel⟩
theorem wit_peer : ∃ (s : State) (G : Group), s.slotGroup 0 2#2 = some (7, G) ∧ G.mask.getLsbD ((2 : Word).toNat % 256) = true :=
  ⟨stGrp 2 0 0 2, { built := true, kind := 2, mask := 6 }, by decide +kernel, by decide⟩
/-- A wait for the phase of an arrival that has not completed. -/
theorem wit_barrier_waits : ∃ (s : State) (G : Group), s.slotGroup 0 1#2 = some (7, G) ∧ G.phase < s.here.phaseOf 0 :=
  ⟨(stGrp 1 1 0 100).modHere fun k => { k with a := { k.a with phase := [(0, 1)] } }, { built := true, kind := 1, mask := 6, arrivals := 1 },
    by decide +kernel, by decide +kernel⟩

theorem wit_fwait : ∃ (s s1 s2 : State) (x y : Word), s.clear [5#6, 6#6] [] = true ∧ s.Reads 5 x s1 ∧ s1.Reads 6 y s2 ∧
    x.toNat % 2 ^ 32 ≤ (s2.here.flag 3).toNat :=
  ⟨(stAB 2 100).modHere (·.setFlag 3 2), _, _, _, _, by decide, reads_reg rfl, reads_reg rfl, by decide +kernel⟩
theorem wit_fwait_waits : ∃ (s s1 s2 : State) (x y : Word), s.Reads 5 x s1 ∧ s1.Reads 6 y s2 ∧ (s2.here.flag 3).toNat < x.toNat % 2 ^ 32 :=
  ⟨stAB 2 100, _, _, _, _, reads_reg rfl, reads_reg rfl, by decide +kernel⟩
theorem wit_token : ((st0.here.tok 31).st = .idle ∧ ((stK (·.setTok 31 { st := .faulted, sub := 7 })).here.tok 31).st = .faulted) ∧
    ((stK (·.setTok 1 { st := .pending })).here.tok 1).st = .pending := by decide +kernel

theorem wit_fork : ∃ (s s1 : State) (x : Word), s.clear [5#6] [] = true ∧ s.Reads 5 x s1 ∧ x.toNat % 4 = 0 ∧ s1.here.x.run = .idle :=
  ⟨stAB 0x1000 0, _, _, by decide, reads_reg rfl, by decide, rfl⟩
theorem wit_fork_waits : ∃ s : State, s.here.x.run = .running ∧ s.here.x.trap = none :=
  ⟨stK fun k => { k with x := { k.x with run := .running } }, rfl, rfl⟩
theorem wit_grammar : ((stK fun k => { k with eng := { k.eng with gstk := [7] } }).here.eng.gstk = 7 :: []) ∧
    8 ≤ (stK fun k => { k with eng := { k.eng with gstk := [1, 2, 3, 4, 5, 6, 7, 8] } }).here.eng.gstk.length ∧ st0.here.eng.gstk = [] := by
  decide +kernel

/-- MASKF of slice 1 of state 2 of a table of 4 slices at 0x2000 into 0x40. -/
theorem wit_maskf : ∃ (s s1 s2 s3 : State) (base key dst : Word), s.clear [5#6, 6#6, 7#6] [] = true ∧ s.Reads 5 base s1 ∧ s1.Reads 6 key s2 ∧
    s2.Reads 7 dst s3 ∧ bits key 31 26 = 0 ∧ bits key 63 42 = 0 ∧ 0 < bits key 41 32 ∧ bits key 41 32 ≤ 512 ∧
    bits key 25 16 < bits key 41 32 ∧ bits base 63 56 = 0 ∧ base.toNat % 64 = 0 ∧ dst.toNat + 64 ≤ 0x80000 ∧ dst.toNat % 64 = 0 ∧
    s3.xlate s3.cur s3.here.ctx .read (base + .ofNat 64 ((bits key 15 0 * bits key 41 32 + bits key 25 16) * 64)) 64 = .ok (xl0 0x2240) ∧
    s3.poisoned 0x2240 = false ∧ s3.here.spm.badIn dst.toNat 64 = false :=
  ⟨(stAB 0x2000 0x0000000400010002).modHere (·.setReg 7 0x40), _, _, _, _, _, _, by decide, reads_reg rfl, reads_reg rfl, reads_reg rfl,
    by decide, by decide, by decide, by decide, by decide, by decide, by decide, by decide, by decide, ok_of (by decide +kernel),
    by decide +kernel, by decide +kernel⟩

theorem wit_permits : ∃ (s s1 t : State) (x : Word), s.Reads 5 x s1 ∧ s.clear [5#6] [7#6] = true ∧ x.toNat ≤ 16 ∧
    (s1.addPermits (s1.grant x.toNat)).Writes 7 (.ofNat 64 (s1.grant x.toNat)) t :=
  ⟨stAB 16 0, _, _, _, reads_reg rfl, by decide, by decide, writes_reg rfl⟩

/-! ### Witnesses: the matrix, copy and search engines and filter windows -/

/-- No tokens, no stamp. -/
def ext0 : Ext := ⟨0xFFF#12, 0#5, 0#5, 0#5, 0#5⟩
/-- Produces token 4. -/
def ext4 : Ext := ⟨0xFFF#12, 4#5, 0#5, 0#5, 0#5⟩
/-- Tokens of a command that consumes none. -/
def tk4 : Toks := { ext := ext4 }
/-- MXCFG with ASET os0 and BSET os1; NEST0 of two steps. -/
def nest : List Word := [1, 0, 0, 0, 0, 0, 0x02010001, 0]
/-- An 8 x 8 tile of INT8 zeros in a FULL slot. -/
def tile8 : Slot := { st := .full, fmt := 9, rlog := 3, clog := 3, codes := List.replicate 64 0 }
/-- A core whose nest of `nest` stands before its first step, its slots FULL and its cluster holding a token. -/
def stNest (run : Option MeRun) : State :=
  let k (k : Core) : Core := ({ k with eng := { k.eng with me := { k.eng.me with cmds := [{ op := .go nest 0, tok := tk4 }], run := run } } } : Core)
  let t := stK fun c => ((k c).setSlot 0 tile8).setSlot 1 tile8
  { t with ev := { core := 1 }, power := { rings := [(0, { holders := 1 })] } }

theorem wit_mxw : ∃ (s s1 t : State) (x : Word), s.clear [5#6] [] = true ∧ s.Reads 5 x s1 ∧ s.clear [] [7#6] = true ∧
    s.Writes 7 (Tbl.get 0 s.here.eng.me.shadow 7) t ∧ s.Writes 7 s.mxst t :=
  ⟨stAB 7 0, _, _, _, by decide, reads_reg rfl, by decide, writes_reg rfl, writes_reg rfl⟩
theorem wit_oclaim : (st0.here.slot 6).st = .free ∧ (st0.here.slot (6 + 1)).st = .free ∧ ((stNest none).here.slot 0).st ≠ .free := by
  decide +kernel
theorem wit_orels_named : ((stNest none).here.slot 0).st = .full ∧ ∃ m ∈ (stNest none).here.slotGroup 0, (stNest none).here.slotNamed m = true :=
  ⟨by decide +kernel, 0, by decide +kernel, by decide +kernel⟩
theorem wit_orels_free : ∃ s : State, (s.here.slot 0).st = .full ∧ ∀ m ∈ s.here.slotGroup 0, s.here.slotNamed m = false :=
  ⟨stK (·.setSlot 0 tile8), by decide +kernel, by decide +kernel⟩

theorem wit_me_go : ∃ s : State, s.here.eng.me.cmds.length < 2 ∧ ext4 = Ext.ofWord s.here.a.ext ∧ s.accepts ext4 = true ∧
    s.here.goCheck s.here.shadowAll = none :=
  ⟨stK fun k => { k with a := { k.a with ext := 0xFFF20000 }, eng := { k.eng with me := { k.eng.me with shadow := [(6, 0x02010000)] } } },
    by decide +kernel, by decide +kernel, by decide +kernel, by decide +kernel⟩
theorem wit_me_mode : ∃ (s s1 s2 : State) (v w : Word), s.clear [5#6, 6#6] [] = true ∧ s.Reads 5 v s1 ∧ s1.Reads 6 w s2 ∧
    s2.accepts ext4 = true ∧ v.toNat < 8 ∧ Rmode.ofCode (v.setWidth 3) = some .sr :=
  ⟨stAB 5 9, _, _, _, _, by decide, reads_reg rfl, reads_reg rfl, by decide +kernel, by decide, rfl⟩
theorem wit_me_msk : ∃ (s s1 : State) (v : Word), s.clear [5#6] [] = true ∧ s.Reads 5 v s1 ∧ s1.accepts ext4 = true ∧
    v.toNat + 2048 ≤ 0x80000 ∧ v.toNat % 128 = 0 :=
  ⟨stAB 0x7F800 0, _, _, by decide, reads_reg rfl, by decide +kernel, by decide, by decide⟩
theorem wit_me_start : ∃ s : State, s.ev.core = 1 ∧ s.engineOn 1 = true ∧ (s.core 1).eng.me.run = none ∧ (s.core 1).hold = none ∧
    (s.core 1).eng.me.cmds = [{ op := .go nest 0, tok := tk4 }] ∧ (s.core 1).mayStart tk4 = .go :=
  ⟨stNest none, by decide, by decide +kernel, by decide +kernel, by decide +kernel, by decide +kernel, by decide +kernel⟩
theorem wit_me_start_failed : ∃ k : Core, k.mayStart { ext := ⟨0xFFF#12, 4#5, 3#5, 0#5, 0#5⟩ } = .fail 7 :=
  ⟨({} : Core).setTok 3 { st := .faulted, sub := 7 }, by decide +kernel⟩
theorem wit_tile_step_pair_check : ((stNest (some { ix := [0, 0, 0, 0, 0, 0] })).core 1).badPair nest = none := by decide +kernel
theorem wit_tile_step : ∃ (s : State) (n : MeRun), (s.core 1).eng.me.run = some n ∧ n.checked = true ∧
    (s.core 1).splitMode nest = .off ∧ ((s.core 1).slot (stepAt nest n.ix).sa).ready = true ∧
    ((s.core 1).slot (stepAt nest n.ix).sb).ready = true ∧ ((s.core 1).slot (stepAt nest n.ix).sa).bad = false ∧
    s.mayStep 1 = true ∧ (s.core 1).stepCheck nest (stepAt nest n.ix) = none ∧ n.ix.length = 6 ∧ n.ix.getD 0 0 ≠ nestTrip nest 0 :=
  ⟨stNest (some { ix := [0, 0, 0, 0, 0, 0], checked := true }), _, rfl, rfl, by decide +kernel, by decide +kernel, by decide +kernel,
    by decide +kernel, by decide +kernel, by decide +kernel, rfl, by decide +kernel⟩

theorem wit_ce_go : ∃ (s s1 : State) (v : Word), s.clear [5#6] [] = true ∧ s.Reads 5 v s1 ∧ v.toNat < 2 ^ 56 ∧ v.toNat % 64 = 0 ∧
    (s1.here.chan 3).held.length < 2 ∧ s1.accepts ext4 = true :=
  ⟨stAB 0x2000 0, _, _, by decide, reads_reg rfl, by decide, by decide, by decide +kernel, by decide +kernel⟩
theorem wit_ce_go_bad_address : (2 : Nat) ^ 56 ≤ (0x100000000000000 : Word).toNat ∧ (0x2020 : Word).toNat % 64 ≠ 0 := by decide

/-- A COPY record at 0x2000 from 0x3000 to 0x4000 of 64 bytes, owned, the last of its chain. -/
def rec0 : Rec := 1#512 <<< 64 ||| 0x3000#512 <<< 128 ||| 0x4000#512 <<< 192 ||| 63#512 <<< 256
/-- Channel 2 with one chain, running or not. -/
def stCe (run : Bool) : State :=
  let t := st0.physWrite 0x2000 (leBytes 64 rec0.toNat)
  { t.modHere fun k => k.setChan 2 { held := [{ first := 0x2000, tok := tk4 }], running := run, next := 0x2000 } with ev := { core := 1, n := 2 } }

theorem wit_chain_start : ∃ s : State, s.engineOn 1 = true ∧ (s.core 1).hold = none ∧ (s.core 1).mayStart tk4 = .go ∧
    ((s.core 1).chan 2).held = [{ first := 0x2000, tok := tk4 }] ∧ ((s.core 1).chan 2).running = false :=
  ⟨stCe false, by decide +kernel, by decide +kernel, by decide +kernel, by decide +kernel, by decide +kernel⟩

theorem wit_chain_record : ∃ (s : State), ((s.core 1).chan 2).running = true ∧
    s.xlate 1 (s.core 1).ctx .read ((s.core 1).chan 2).next 64 = .ok (xl0 0x2000) ∧ pteTier (xl0 0x2000).pte = 0 ∧
    s.poisoned (xl0 0x2000).pa = false ∧ rec0 = .ofNat 512 (s.mem.get (xl0 0x2000).pa 64) ∧ rOwn rec0 = true ∧ rNext rec0 = 0 :=
  ⟨stCe true, by decide +kernel, ok_of (by decide +kernel), by decide, by decide +kernel, by decide +kernel, by decide +kernel, by decide +kernel⟩

/-- The record is performed without a fault. -/
theorem wit_copy_record : (match (State.perform { stCe true with cur := 1 } rec0 0).1 with
      | .ok _ n => n == 0
      | _ => false) = true ∧ rKind rec0 = 0 ∧ rDkind rec0 = 0 ∧ rSkind rec0 = false ∧ rN1 rec0 = 1 ∧ rN2 rec0 = 1 ∧ rN0 rec0 = 64 ∧
    (rSadr rec0).toNat % 65536 + rN0 rec0 ≤ 65536 ∧ (rDadr rec0).toNat % 65536 + rN0 rec0 ≤ 65536 := by decide +kernel

theorem wit_copy_ranges : (stCe true).xlate 1 1 .read (rSadr rec0) 1 = .ok (xl0 0x3000) ∧
    (stCe true).xlate 1 1 .write (rDadr rec0) 1 = .ok (xl0 0x4000) :=
  ⟨ok_of (by decide +kernel), ok_of (by decide +kernel)⟩

theorem wit_se_ins : ∃ (s s1 s2 : State) (v key : Word), s.clear [5#6, 6#6] [] = true ∧ s.Reads 5 v s1 ∧ s1.Reads 6 key s2 ∧
    bits key 62 42 = 0 ∧ key.getLsbD 63 = false ∧ s2.here.eng.se.length < 4 ∧ v.toNat + 32 ≤ 0x80000 ∧ v.toNat % 32 = 0 ∧
    s2.accepts ext4 = true :=
  ⟨stAB 0x7FFE0 0x3FF00000001, _, _, _, _, by decide, reads_reg rfl, reads_reg rfl, by decide, by decide, by decide, by decide, by decide,
    by decide +kernel⟩
theorem wit_se_del_sel : bits (0x8000000100000002 : Word) 62 42 = 0 ∧ (0x7FFC0 : Word).toNat + 64 ≤ 0x80000 ∧ (0x7FFC0 : Word).toNat % 64 = 0 := by
  decide
theorem wit_se_quota : ∃ (s s1 t : State) (v : Word), s.clear [5#6] [7#6] = true ∧ s.Reads 5 v s1 ∧ v.toNat < 2 ^ 13 ∧
    State.Writes (s1.modHere fun k => ({ k with ctl := { k.ctl with sequota := .ofNat 13 (min v.toNat (s1.myPart.ctx s1.here.ctx).siggrant.toNat) } } : Core).seAdd
      .quota noToks) 7 (.ofNat 64 (min v.toNat (s1.myPart.ctx s1.here.ctx).siggrant.toNat)) t :=
  ⟨stAB 8191 0, _, _, _, by decide, reads_reg rfl, by decide, writes_reg rfl⟩
theorem wit_se_run : ∃ s : State, s.ev.core = 1 ∧ s.engineOn 1 = true ∧ (s.core 1).eng.se = [{ op := .del 3 7 true, tok := noToks }] ∧
    (s.core 1).mayStart noToks = .go ∧ (s.core 1).ctx = 1 :=
  ⟨{ stK fun k => { k with eng := { k.eng with se := [{ op := .del 3 7 true, tok := noToks }] } } with ev := { core := 1 } },
    by decide, by decide +kernel, by decide +kernel, by decide +kernel, by decide +kernel⟩

/-- A window of one row of one logit at 0x20000, its result block at 0x30000. -/
def win0 : Window := { desc := 0x20000#512 ||| 1#512 <<< 64 ||| 1#512 <<< 96 ||| 1#512 <<< 112 ||| 0x30000#512 <<< 320, frames := [(2, 0x20000)] }
/-- Page tables whose leaf is filter-enabled with unscaled INT8 tiles of 8 by 8, and the descriptor in the scratchpad. -/
def stWin (w : Option Window) : State :=
  let t := { st0 with mem := Mem.put st0.mem bootL2 16 (bootLeafEntry + 0x1000 + 0x6E9 * 2 ^ 64) }
  let t := t.modHere fun k => { (k.setReg 5 0x40) with spm := k.spm.write 0x40 (leBytes 64 win0.desc.toNat) }
  let t := t.modHere fun k => match w with
    | none => k
    | some w => k.setWindow 1 w
  { t with ev := { core := 1, n := 1, lane := 0 } }

theorem wit_filter_arm : ∃ (s s1 : State) (v : Word), s.clear [5#6] [] = true ∧ s.Reads 5 v s1 ∧ s1.accepts ext4 = true ∧
    (s1.armCheck 1 v).toOption = some win0 :=
  ⟨stWin none, _, _, by decide, reads_reg rfl, by decide +kernel, by decide +kernel⟩
theorem wit_filter_close : (Tbl.find? (stWin none).here.eng.win 1 = none) ∧ Tbl.find? (stWin (some win0)).here.eng.win 1 = some win0 ∧
    ({ win0 with closing := true, done := 1 } : Window).allDone = true := by decide +kernel
theorem wit_filter_result : ∃ (s : State) (w : Window) (xs : List Nat) (ms : List Bool), (s.core 1).window? 1 = some w ∧ s.engineOn 1 = true ∧
    w.closing = true ∧ 0 < winRows w.desc ∧ w.done.getLsbD 0 = false ∧ s.winMaskBits 1 w.desc = some ms ∧ s.winRow w 0 = some xs ∧
    (s.putBlock 1 (winRbase w.desc + 0 * winBlock w.desc) (winResult w.desc xs ms)).isSome = true :=
  ⟨stWin (some { win0 with closing := true }), _, [0], [true], rfl, by decide +kernel, rfl, by decide +kernel, rfl, by decide +kernel, by decide +kernel,
    by decide +kernel⟩

/-! ### Witnesses: system instructions, traps, control registers -/

theorem wit_iflush : ∃ (s s1 s2 : State) (x y : Word), s.clear [5#6, 6#6] [] = true ∧ s.Reads 5 x s1 ∧ s1.Reads 6 y s2 ∧ x.toNat < 2 ^ 56 :=
  ⟨stAB 0x2000 64, _, _, _, _, by decide, reads_reg rfl, reads_reg rfl, by decide⟩
theorem wit_iflush_bad_address : (2 : Nat) ^ 56 ≤ (0x100000000000000 : Word).toNat := by decide
theorem wit_end : st0.here.isSup = false ∧ st0.here.info.stage = none ∧ st0.here.quiet = true ∧ stSup.here.isSup = true := by decide +kernel
theorem wit_end_waits : (stK fun k => { k with x := { k.x with run := .running } }).here.quiet = false := by decide +kernel

/-- A task with a handler at 0x2000. -/
def stTvec (inTrap : Bool) : State := stK fun k => { k with a := { k.a with inTrap := inTrap }, ctl := { k.ctl with tvec := 0x2000, tpc := 0x1004 } }
theorem wit_trap : (stTvec false).here.a.inTrap = false ∧ (stTvec false).here.ctl.tvec ≠ 0 ∧ (stTvec true).here.a.inTrap = true ∧
    (stTvec true).here.isSup = false ∧ st0.here.ctl.tvec = 0 := by decide +kernel
theorem wit_scall : st0.here.a.scall = none ∧ (stK fun k => { k with a := { k.a with scall := some 0x1000 } }).here.a.scall ≠ none := by decide +kernel
theorem wit_rdctl : ∃ (s t : State) (v : Word), s.readCtl 0x14 = some v ∧ s.clear [] [7#6] = true ∧ s.Writes 7 v t :=
  ⟨st0, _, _, rfl, by decide, writes_reg rfl⟩
theorem wit_wrctl : ∃ (s s1 : State) (x : Word), s.clear [5#6] [] = true ∧ s.Reads 5 x s1 ∧ Rmode.ofCode (x.setWidth 3) = some .sr ∧
    x.toNat < 2 ^ 56 ∧ (8 : Word).toNat % 8 = 0 ∧ Rmode.ofCode 6 = none :=
  ⟨stAB 5 0, _, _, by decide, reads_reg rfl, rfl, by decide, by decide, rfl⟩

/-- A supervisor core inside a handler or not. -/
def stInev (inev pend : Bool) : State := stSup.modPart 0 fun P => { P with sup := { P.sup with inev := inev, pend := pend } }
theorem wit_faults : ((st0.core 1).isSup = false ∧ (st0.core 1).hold = none) ∧ ((stInev false false).core 0).isSup = true ∧
    ((stInev false false).part ((stInev false false).partOf 0)).sup.inev = false ∧
    ((stInev false false).part ((stInev false false).partOf 0)).score = 0 ∧
    ((stInev true false).part ((stInev true false).partOf 0)).sup.inev = true := by decide +kernel
theorem wit_sret : (stInev true true).myPart.sup.inev = true ∧ (stInev true true).myPart.score = (stInev true true).cur ∧
    (stInev true true).myPart.sup.pend = true ∧ (stInev true false).myPart.sup.pend = false := by decide +kernel
/-- The supervisor core with s5 and s6. -/
def stSupAB (x y : Word) : State := (stSup.modHere (·.setReg 5 x)).modHere (·.setReg 6 y)
theorem wit_srdctl : ∃ (s t : State) (v : Word), s.supRead 0x102 = some v ∧ s.supRead 0x1FF = none ∧ s.clear [] [7#6] = true ∧ s.Writes 7 v t :=
  ⟨stSupAB 0 0, _, _, rfl, rfl, by decide +kernel, writes_reg rfl⟩
theorem wit_swrctl : ∃ (s s1 : State) (x : Word), (s.supRead 0x102).isSome = true ∧ s.clear [5#6] [] = true ∧ s.Reads 5 x s1 :=
  ⟨stSupAB 0x2000 0, _, _, rfl, by decide +kernel, reads_reg rfl⟩
theorem wit_tlbinv : ∃ (s s1 s2 : State) (v w : Word), s.clear [5#6, 6#6] [] = true ∧ s.Reads 5 v s1 ∧ s1.Reads 6 w s2 ∧ w.toNat < 2 ^ 34 :=
  ⟨stSupAB 0x2000 0x3FFFFFFFF, _, _, _, _, by decide +kernel, reads_reg rfl, reads_reg rfl, by decide +kernel⟩
theorem wit_snapt : ∃ (s s1 t : State) (v : Word), s.clear [5#6] [7#6] = true ∧ s.Reads 5 v s1 ∧ v.toNat < 2 ^ 16 ∧
    (s1.snapt (v.setWidth 16)).2.Writes 7 (s1.snapt (v.setWidth 16)).1 t :=
  ⟨stSupAB 0xFFFF 0, _, _, _, by decide +kernel, reads_reg rfl, by decide +kernel, writes_reg rfl⟩
theorem wit_corestop : ∃ (s s1 t : State) (v : Word), s.clear [5#6] [7#6] = true ∧ s.Reads 5 v s1 ∧ v.toNat < 2 ^ 8 ∧
    s1.myPart.isTaskCore (v.setWidth 8) = true ∧
    (s1.coreDone (v.setWidth 8) false).Writes 7 (if (s1.core (v.setWidth 8)).wasIn = true then 1 else 0) t :=
  ⟨stSupAB 63 0, _, _, _, by decide +kernel, reads_reg rfl, by decide +kernel, by decide +kernel, writes_reg rfl⟩
theorem wit_corestop_leaves : ∃ (s : State), 2 ^ 8 ≤ (0x13F : Word).toNat ∧ (0x13F : Word).toNat < 2 ^ 9 ∧ s.myPart.isTaskCore 63 = true ∧
    (s.core 63).occ ≠ .task ∧ s.myPart.isTaskCore 64 = false :=
  ⟨stSup, by decide, by decide, by decide +kernel, by decide +kernel, by decide +kernel⟩
/-- SRET's word. -/
theorem wit_privileged : (0x90000020#32).toNat / 2 ^ 26 = 0x24 ∧ 8 ≤ (0x90000020#32).toNat / 4 % 64 ∧ (0x90000020#32).toNat / 4 % 64 ≤ 14 := by decide

/-! ### Witnesses: the X-strand -/

/-- Vector registers v1 and v2. -/
def stV (x y : VReg) : State := (st0.modHere (·.setV 1 x)).modHere (·.setV 2 y)

theorem writesV_reg {s : State} {n : VNo} {w : Nat} {p : PReg} {v : VReg} (h : n.toNat < 56) :
    s.WritesV n w p v (s.modHere fun k => k.setV n ((v &&& byteMask (widen w p)) ||| (k.vreg n &&& ~~~byteMask (widen w p)))) := by
  unfold State.WritesV; rw [if_pos h]

/-- A store queue takes an entry while it and the scatters hold fewer than 3. -/
theorem writesV_store {s : State} {w : Nat} {p : PReg} {v : VReg}
    (h : (s.here.sq (sqOfPort 62)).length + s.here.heldSq (sqOfPort 62) < 3) :
    s.WritesV 62 w p v (s.modHere fun k => k.setSq (sqOfPort 62) (k.sq (sqOfPort 62) ++ [{ data := v &&& byteMask (widen w p), en := p }])) := by
  unfold State.WritesV
  rw [if_neg (by decide), if_neg (by decide), if_neg (by decide)]
  exact ⟨h, rfl⟩

theorem wit_vector_two_sources : ∃ (s s1 s2 t : State) (x y : VReg) (p : PReg) (v : VReg), s.ReadsV 1 x s1 ∧ s1.ReadsV 2 y s2 ∧
    (s2.raise 0#6).WritesV 3 32 p v t :=
  ⟨stV 5 6, _, _, _, _, _, BitVec.allOnes 512, 11, readsV_reg rfl, readsV_reg rfl, writesV_reg (by decide)⟩
theorem wit_vector_pushes : ∃ (s s1 t : State) (x : VReg) (p : PReg), s.ReadsV 1 x s1 ∧ s1.WritesV 62 32 p x t :=
  ⟨stV 5 6, _, _, _, BitVec.allOnes 512, readsV_reg rfl, writesV_store (by decide +kernel)⟩
/-- A saturating lane: 127 + 1 in INT8 clamps; −128 + 0 does not. -/
theorem wit_saturates : ∃ z : Nat → Int, z 0 = sgn 8 (lane 8 0x7F#4096 0) + sgn 8 (lane 8 1#4096 0) ∧ 2 ^ (8 - 1) ≤ z 0 ∧
    active (BitVec.allOnes 512) 8 0 = true ∧ -2 ^ (8 - 1) ≤ sgn 8 (lane 8 0x80#4096 0) :=
  ⟨fun k => sgn 8 (lane 8 0x7F#4096 k) + sgn 8 (lane 8 1#4096 k), rfl, by decide +kernel, by decide +kernel, by decide +kernel⟩
theorem wit_float_lane : ∃ r : Nat × Flags, r = fpAdd .fp32 .rne 0 0x3F800000 0x3F800000 ∧ r = (0x40000000, 0#6) :=
  ⟨_, rfl, by decide +kernel⟩
theorem wit_float_special : codeValue .fp32 0x7FC00000 = .nan ∧ codeValue .fp32 0x3F800000 ≠ .nan ∧
    (match codeValue .fp32 0xBF800000 with
      | .fin sg n _ => sg && n != 0
      | _ => false) = true := by decide +kernel
theorem wit_vtoa : (stV 5 6).here.q.xq.length < 8 ∧ 8 ≤ ((stV 5 6).modHere fun k => { k with q := { k.q with xq := [0, 1, 2, 3, 4, 5, 6, 7] } }).here.q.xq.length := by
  decide +kernel
theorem wit_convert : ∃ r : Nat × Flags, r = convert .fp16 true .rne 0 (codeValue .fp32 (lane (elemWidth .fp32) 0x4788B800#4096 0)) ∧ r.1 = 0x7BFF :=
  ⟨_, rfl, by decide +kernel⟩
theorem wit_reduction : (∀ k, k < 128 → active 0 32 k = false) ∧ active (BitVec.allOnes 512) 32 127 = true ∧
    codeValue .fp32 (lane 32 (0 : VReg) 127) ≠ .nan :=
  ⟨fun k h => by have : ∀ k : Fin 128, active 0 32 k.val = false := by decide +kernel
                 exact this ⟨k, h⟩, by decide +kernel, by decide +kernel⟩
theorem wit_first_lane : ∃ k : Core, (∀ i, i < 128 → (k.preg 1).getLsbD (4 * i) = false) ∧ (k.preg 0).getLsbD (4 * 0) = true :=
  ⟨{}, fun i _ => by show (0#512).getLsbD _ = false; simp, by decide +kernel⟩
theorem wit_xloop : (stK fun k => { k with x := { k.x with lc := 2 } }).here.x.lc ≠ 1 ∧ (stK fun k => { k with x := { k.x with lc := 1 } }).here.x.lc = 1 := by
  decide +kernel
theorem wit_accumulator : st0.here.accInUse 3 = false ∧ ((stNest none).here.accInUse 0) = true := by decide +kernel
theorem wit_vector_frame : ∃ (s t : State) (i : Instr), decode .x false 0xC03042B2#32 0 = .ok i ∧ exec i s = .next t :=
  ⟨stV 5 6, _, _, rfl, rfl⟩

/-! ### Witnesses: tasks -/

/-- Partition 0 changed; its context 1 has four save slots. The step's core is c. -/
def stP (c : CoreId) (f : Part → Part) : State :=
  { st0.modPart 0 (fun P => f { P with ctxs := [(1, { st := 1, root := .ofNat 64 bootL1, slots := 4 })] }) with ev := { core := c } }
/-- The continuation of record 3. -/
def cont3 : Cont := { ctx := 1, code := 0x1000 }
/-- A queued task of record 3. -/
def ent3 : REnt := { kind := .task { cont := cont3, lrec := 3 }, ctx := 1, lrec := 3 }
/-- Record 3 queued; core 2 takes it. -/
def stDisp : State := stP 2 fun P => { P with recs := [(3, { st := .queued, ctx := 1 })], rq := [(1, [ent3])] }

theorem wit_dispatch : ∃ (k : BitVec 2) (n : Nat) (e : REnt) (t : TaskInfo) (slot : BitVec 10) (l : List (BitVec 10)),
    stDisp.ev.core = 2 ∧ 0 = stDisp.partOf 2 ∧ (stDisp.reserve 0).freeCore 0 2 = true ∧
    ((stDisp.reserve 0).part 0).firstFor 2 = some (k, n, e) ∧ e.kind = .task t ∧ t.cont.startable = true ∧
    (((stDisp.reserve 0).part 0).ctx t.cont.ctx).freeSlots = slot :: l :=
  ⟨1, 0, ent3, { cont := cont3, lrec := 3 }, 0, [1, 2, 3], by decide +kernel⟩

/-- Gang record 3 of two members, group 7 its own. -/
def stGang : State := stP 2 fun P => { P with
  recs := [(3, { st := .queued, ctx := 1, kind := 1, ngang := 2, code := 0x1000, gvalid := 1, gids := 7 })]
  groups := [(7, { built := true, kind := 1 })]
  rq := [(1, [{ kind := .gang 3, ctx := 1, lrec := 3 }])] }

theorem wit_gang_start : stGang.ev.part = 0 ∧
    ((stGang.reserve 0).part 0).resvOrder.findSome? (fun i => (((stGang.reserve 0).part 0).canStart i).map fun e => (i, e)) =
      some (3, { kind := .gang 3, ctx := 1, lrec := 3 }) ∧
    (((stGang.reserve 0).part 0).lrec 3).cont.startable = true ∧ (((stGang.reserve 0).part 0).resvCores 3)[0]? = some 2 ∧
    (((stGang.reserve 0).part 0).ctx (((stGang.reserve 0).part 0).lrec 3).ctx).freeSlots[0]? = some 0 := by decide +kernel

/-- A stage of one item in and one item out. -/
def stage0 : StageEnt := { code := 0x1000, minc := 1, maxc := 1, inr := 0, outs := [(1, 1)], live := 0, spill := 0, wdog := 0 }
/-- Pipeline record 3 running with core 2 in its stage; its entry Rill holds item 0. -/
def stStage : State := stP 2 fun P => { P with
  recs := [(3, { st := .running, ctx := 1, kind := 2, rqbase := 16, pipe := { cores := 1, stages := [stage0], rills := [⟨4, 3, true, false⟩, ⟨4, 3, false, true⟩] } })]
  pipes := [(3, { cores := [(2, 0)] })]
  queues := [(16, { q9 with kind := .rill, pipe := some (3, 0), items := [{ num := 0, data := List.replicate 8 0, st := .ready }] }), (17, { q9 with kind := .rill, pipe := some (3, 1) })] }

theorem wit_stage_start : stStage.ev.core = 2 ∧ 0 = stStage.partOf 2 ∧ (stStage.part 0).stageOf 2 = some (3, 0) ∧
    (stStage.core 2).occ = .idle ∧ (stStage.core 2).out = false ∧ (stStage.part 0).stopped = false ∧
    ((stStage.part 0).ctx ((stStage.part 0).lrec 3).ctx).active = true ∧
    ((stStage.part 0).lrec 3).pipe.stages[(0#4).toNat]? = some stage0 ∧
    ((stStage.part 0).ctx ((stStage.part 0).lrec 3).ctx).freeSlots = [0, 1, 2, 3] ∧
    (stStage.part 0).stageItem 3 ((stStage.part 0).lrec 3) stage0 = some 0 := by decide +kernel

/-- Core 1 past the first step of its END. -/
def stEnd : State := { stK fun k => { k with atEnd := true } with ev := { core := 1 } }
theorem wit_end_commit : stEnd.ev.core = 1 ∧ stEnd.canCommit 1 = true ∧ (stEnd.core 1).info.inGang = false ∧
    ({ st0 with ev := { core := 1 } } : State).canCommit 1 = false := by decide +kernel
/-- Cores 1 and 2 as the members of a gang of two, in the standing that f gives. -/
def stTwo (f : Core → Core) : State :=
  let m (r : BitVec 8) : Core → Core := fun k => f { k with info := { k.info with gang := some 7, size := 2, rank := r } }
  { (st0.setCore 2 (m 1 (st0.core 1))).modCore 1 (m 0) with ev := { core := 1 } }
theorem wit_gang_commit : ∃ s : State, s = stTwo (fun k => { k with atEnd := true }) ∧ (s.core 1).info.inGang = true ∧
    (s.gangOn (s.partOf 1) (s.core 1).info).length = (s.core 1).gangSize ∧
    ∀ d ∈ s.gangOn (s.partOf 1) (s.core 1).info, s.canCommit d = true :=
  ⟨_, rfl, by decide +kernel⟩
theorem wit_gang_save : ∃ s : State, s = stTwo (fun k => { k with save := .stopped }) ∧
    ∀ d ∈ s.saveSet 1, s.drainedForSave d = true :=
  ⟨_, rfl, by decide +kernel⟩

theorem wit_preempt : (stK fun k => { k with save := .asked }).here.occ = .task ∧ (stK fun k => { k with save := .asked }).here.save = .asked ∧
    (stK fun k => { k with save := .asked }).here.a.begun = [] ∧ (stK fun k => { k with save := .asked }).here.eng.se = [] := by decide +kernel

/-! ### Witnesses: waits, stamps, traps at a boundary -/

/-- Core 1 in an A-strand wait for n clk, queue 9 bound to port q0. -/
def stWait (w : Wait) (n : Nat) : State :=
  { (stQ 0).modHere fun k => { k with a := { k.a with wait := some w, waitClk := n, ports := [(0, 9)] } } with ev := { core := 1 } }
theorem wit_wait_ends : (stWait (.reg 5) 0).ev.st = .a ∧ ((stWait (.reg 5) 0).core 1).a.wait = some (.reg 5) ∧
    (stWait (.reg 5) 0).waitOver 1 (.reg 5) = true := by decide +kernel
theorem wit_x_wait_ends : ∃ s : State, s.ev.st = .x ∧ (s.core 1).x.wait = some (.vpush .sq0) ∧ s.waitOver 1 (.vpush .sq0) = true :=
  ⟨{ stK fun k => { k with x := { k.x with wait := some (.vpush .sq0) } } with ev := { core := 1, st := .x } }, by decide +kernel⟩
theorem wit_qtimeout : (stWait (.qwait 0 100) 100).canRun 1 .a = true ∧
    ((stWait (.qwait 0 100) 100).core 1).a.wait = some (.qwait 0 100) ∧
    (100 : Word).toNat ≤ ((stWait (.qwait 0 100) 100).core 1).a.waitClk ∧ (stWait (.qwait 0 100) 100).waitOver 1 (.qwait 0 100) = false := by
  decide +kernel
theorem wit_fwait_timeout : (stWait (.fwait 3 2 100) 100).canRun 1 .a = true ∧ ((stWait (.fwait 3 2 100) 100).core 1).flag 3 < 2 := by
  decide +kernel
theorem wit_twait_timeout : ∃ s : State, s.canRun 1 .a = true ∧ (s.core 1).a.wait = some (.twait 1 100) ∧
    (100 : Word).toNat ≤ (s.core 1).a.waitClk ∧ ((s.core 1).tok (1#5).toNat).st = .pending :=
  ⟨(stWait (.twait 1 100) 100).modHere (·.setTok 1 { st := .pending }), by decide +kernel⟩
theorem wit_gwait_timeout : ∃ (s : State) (G : Group), s.canRun 1 .a = true ∧ (s.core 1).a.wait = some (.gwait 0 100) ∧
    (100 : Word).toNat ≤ (s.core 1).a.waitClk ∧ State.slotGroup { s with cur := 1 } 0 1#2 = some (7, G) ∧ G.phase < (s.core 1).phaseOf 0 :=
  ⟨(stGrp 1 1 0 0).modHere fun k => { k with a := { k.a with phase := [(0, 1)], wait := some (.gwait 0 100), waitClk := 100 } },
    { built := true, kind := 1, mask := 6, arrivals := 1 }, by decide +kernel⟩
theorem wit_watchdog : ∃ s : State, (s.core 1).occ = .task ∧ (s.core 1).hold = none ∧ (s.core 1).save ≠ .stopped ∧
    (s.core 1).dogLimit ≤ (s.core 1).a.dog :=
  ⟨stK fun k => { k with a := { k.a with dog := k.dogLimit } }, by decide +kernel⟩

/-- ME.MSK stamped 5 at 0x1000 with the frame counter at fc. -/
def stStamp (fc : BitVec 12) : State :=
  { (State.reset.placeWord (0x80000011 + 0x00518000 * 2 ^ 32)).modCore 1 fun k => { k with
      info := { k.info with cont := { k.info.cont with det := true } }
      a := { k.a with wait := some .stamp, ir := 0x80000011, ext := 0x00518000 }
      ctl := { k.ctl with fc := fc } } with cur := 1, ev := { core := 1 } }
theorem wit_stamp_issues : ∃ (i : Instr) (t : State), (stStamp 5).canRun 1 .a = true ∧ ((stStamp 5).core 1).a.wait = some .stamp ∧
    ((stStamp 5).core 1).ctl.fc = (Ext.ofWord ((stStamp 5).core 1).a.ext).stamp ∧ (stStamp 5).fetch 1 .a = .run i t ∧
    isLongWord (t.core 1).a.ir = true :=
  ⟨.meMsk 0 false { stamp := 5, prod := 3, cona := 0, conb := 0, conc := 0 }, _, by decide +kernel, by decide +kernel, by decide +kernel, rfl, by decide +kernel⟩
theorem wit_stamp_passed : ∃ x : Ext, x = Ext.ofWord ((stStamp 6).core 1).a.ext ∧ (stStamp 6).canRun 1 .a = true ∧
    isLongWord ((stStamp 6).core 1).a.ir = true ∧ ((stStamp 6).core 1).detm = true ∧ x.stamp ≠ 0xFFF#12 ∧
    x.stamp < ((stStamp 6).core 1).ctl.fc :=
  ⟨_, rfl, by decide +kernel⟩

/-- An X-strand trap waits for core 1's boundary. -/
def stXtrap (tvec : Word) : State :=
  { stK fun k => { k with x := { k.x with trap := some 7 }, ctl := { k.ctl with tvec := tvec } } with ev := { core := 1 } }
theorem wit_x_trap : (stXtrap 0x2000).xTrapReady 1 = true ∧ ((stXtrap 0x2000).core 1).x.trap = some 7 ∧
    ((stXtrap 0x2000).core 1).ctl.tvec ≠ 0 ∧ (stXtrap 0).xTrapReady 1 = true ∧ ((stXtrap 0).core 1).ctl.tvec = 0 ∧
    ((stXtrap 0).core 1).isSup = false := by decide +kernel

/-! ### Witnesses: the fault ring and the supervisor -/

/-- A record of a task in save slot 0 of context 1. -/
def rr (kind : BitVec 8) : RingRec := { kind := kind, code := 1, body := 0, ctx := 1, slots := [0] }
/-- A partition whose supervisor's registers are as given. -/
def stRing (S : Sup) (flag : Bool) : State :=
  { st0.modPart 0 fun P => { P with sup := { S with frbase := 0x8000 } } with ev := { core := 1, part := 0, flag := flag } }
theorem wit_record_written : ∃ s : State, s.ev.part = 0 ∧ (s.part 0).up = true ∧ s.ev.flag = false ∧ (s.part 0).sup.ring = [rr 0] ∧
    (∀ q, ([] : List RingRec).head? = some q → q.kind ≠ 4#8) ∧ (s.part 0).sup.room 1 = true ∧ (s.part 0).ringFits (s.part 0).sup = true ∧ s.mem.wf = true ∧
    (s.part 0).sup.inev = true ∧ (rr 0).kind.toNat ≤ 2 :=
  ⟨stRing { ring := [rr 0], inev := true } false, by decide +kernel, by decide +kernel, rfl, rfl, (fun _ h => by cases h), by decide +kernel⟩
theorem wit_record_no_memory : ∃ P : Part, P = bootPart ∧ P.ringFits { frbase := 0x17FFFFFF00 } = false ∧ P.ringFits { frbase := 0x8000 } = true :=
  ⟨_, rfl, by decide +kernel⟩
theorem wit_record_waits : ((stRing { ring := [rr 0], frpi := 256 } false).part 0).sup.room
    (firstGroup ((stRing { ring := [rr 0], frpi := 256 } false).part 0).sup.ring).1.length = false := by decide +kernel
theorem wit_report_written : ∃ s : State, s.ev.flag = true ∧ Tbl.get [] (s.part 0).sup.reports (dieOf s.ev.core).toNat = [rr 3] ∧
    (s.part 0).sup.room 1 = true ∧ (s.part 0).ringFits (s.part 0).sup = true :=
  ⟨stRing { reports := [(0, [rr 3])] } true, by decide +kernel⟩
theorem wit_supervisor_event : (stRing { arm := true, ee := true } false).eventReady 0 = true ∧
    (stRing {} false).eventReady 0 = false ∧ (stInev false false).ev.part = 0 ∧ ((stInev false false).part 0).score = 0 ∧
    ((stInev false false).part 0).up = true ∧ ((stInev false false).part 0).stopped = false ∧
    ((stInev false false).core 0).isSup = true ∧ (stInev false false).partOf 0 = 0 ∧ ((stInev false false).part 0).sup.inev = false ∧
    ((stInev true false).part 0).sup.inev = true := by decide +kernel
theorem wit_report_queue_full : ∃ s : State, s.ev.core = 1 ∧ 64 ≤ (Tbl.get [] (s.part (s.partOf 1)).sup.reports (dieOf 1).toNat).length :=
  ⟨stRing { reports := [(0, List.replicate 64 (rr 3))] } false, by decide +kernel⟩
theorem wit_operand_error : ∃ s : State, s.ev.flag = true ∧ s.ev.what = .operandSlot 2 ∧ ((s.core 1).slot 2).ready = true :=
  ⟨{ stK fun k => k.setSlot 2 tile8 with ev := { core := 1, flag := true, what := .operandSlot 2 } }, by decide +kernel⟩

/-- An outstanding record 5 of core 1's task. -/
def stAns (kind : BitVec 8) (seq : W32) : State :=
  { st0.modPart 0 fun P => { P with
      ctxs := [(1, { st := 1, root := .ofNat 64 bootL1, slots := 4, use := [(0, { core := some 1, info := { cont := cont3 } })] })]
      sup := { P.sup with out := [{ seq := 5, kind := kind, ctx := 1, slots := [0] }] } } with ev := { core := 1, part := 0, seq := seq } }
theorem wit_answer : ∃ o : Outst, (stAns 2 5).ev.part = 0 ∧ ((stAns 2 5).part 0).sup.out.find? (fun o => o.seq == (stAns 2 5).ev.seq) = some o ∧
    o.slots = [0] ∧ ((((stAns 2 5).part 0).ctx o.ctx).slotRec 0).core = some 1 ∧ o.kind = 2#8 ∧ ((stAns 2 5).core 1).occ = .task ∧
    ((stAns 2 5).core 1).info.inGang = false :=
  ⟨{ seq := 5, kind := 2, ctx := 1, slots := [0] }, by decide +kernel⟩
theorem wit_resume_answer : ∃ o : Outst, ((stAns 0 5).part 0).sup.out.find? (fun o => o.seq == (stAns 0 5).ev.seq) = some o ∧ o.kind = 0#8 :=
  ⟨{ seq := 5, kind := 0, ctx := 1, slots := [0] }, by decide +kernel⟩
theorem wit_no_answer : ((stAns 2 6).part 0).sup.out.find? (fun o => o.seq == (stAns 2 6).ev.seq) = none := by decide +kernel

/-! ### Witnesses: a save and a restore -/

/-- st0 with its leaf pinned, the save area of context 1 at 0x1000000, and core 1 changed; the step's core is c. -/
def stPin (c : CoreId) (f : Core → Core) (g : Part → Part) (hdr : Mem → Mem) : State :=
  { st0.modHere f with
    mem := hdr ((bootMem 0).put bootL2 16 (bootLeafEntry + 256))
    parts := [(0, g { bootPart with ctxs := [(1, { st := 1, root := .ofNat 64 bootL1, slots := 4, savebase := 0x1000000 })] })]
    ev := { core := c } }

/-- The partition takes the tables of stPin for those of its context 1. -/
def Roots (P : Part) : Prop :=
  (P.ctx 1#16).st = 1#8 ∧ (P.ctx 1#16).root = .ofNat 64 bootL1 ∧ P.ownsRange bootL1 0x40000 = true ∧
    checkTable P (.ofNat 128 bootTableEntry) 0x20000 = none ∧ checkLeaf P (.ofNat 128 (bootLeafEntry + 256)) true = none
/-- The tables of stPin stand in the state, and the partition is P. -/
def Stands (P : Part) (t : State) : Prop :=
  t.part 0 = P ∧ Roots P ∧ t.dead = 0 ∧ t.pteAt bootL1 = .ofNat 128 bootTableEntry ∧ t.pteAt bootL2 = .ofNat 128 (bootLeafEntry + 256)

theorem stands_savePa {P : Part} {t : State} (h : Stands P t) {va : Nat} (hv : va < 2 ^ 29) : t.savePa 0 1#16 va = some va := by
  obtain ⟨hp, ⟨hx, hc, ho, k1, k2⟩, hd, h1, h2⟩ := h
  have e0 : (BitVec.ofNat 64 va).toNat = va := by rw [BitVec.toNat_ofNat]; omega
  have b1 : bits (.ofNat 64 va) 55 42 = 0 := by simp only [bits, e0]; omega
  have b2 : bits (.ofNat 64 va) 41 29 = 0 := by simp only [bits, e0]; omega
  have b3 : bits (.ofNat 64 va) 28 0 = va := by simp only [bits, e0]; omega
  have hr : (if (1#16 : BitVec 16) = 0#16 then P.sroot.toNat else (P.ctx 1#16).root.toNat) = bootL1 := by
    rw [if_neg (by decide), hc]; rfl
  have f1 : pteFrame (.ofNat 128 bootTableEntry) = bootL2 := by decide
  have l2 : pteLeaf (.ofNat 128 (bootLeafEntry + 256)) = true := by decide
  have hw : t.walk (t.part 0) 1#16 (.ofNat 64 va) = .ok { pte := .ofNat 128 (bootLeafEntry + 256), big := true, addr := bootL2 } := by
    have hx0 : ¬ ((1#16 : BitVec 16) ≠ 0#16 ∧ (P.ctx 1#16).st = 0#8) := by rw [hx]; decide
    unfold State.walk
    rw [hp, hr, b1, b2]
    simp only [Nat.mul_zero, Nat.add_zero, h1]
    rw [if_neg hx0, ho, if_neg (by decide), if_neg (by decide), k1]
    simp only [f1, h2]
    rw [if_pos l2, k2]
  have f2 : pteFrame (.ofNat 128 (bootLeafEntry + 256)) = 0 := by decide
  have hf : pteTier (BitVec.ofNat 128 (bootLeafEntry + 256)) = 0 ∧ ptePin (BitVec.ofNat 128 (bootLeafEntry + 256)) = true ∧
      pteW (BitVec.ofNat 128 (bootLeafEntry + 256)) = true := by decide
  unfold State.savePa
  rw [hw]
  simp [leafPa, b3, f2, hf, hd]

theorem stands_write {P : Part} {t : State} (h : Stands P t) {pa : Nat} {bs : List Byte} (hp : 0x200000 ≤ pa) : Stands P (t.physWrite pa bs) := by
  obtain ⟨h0, hc, hd, h1, h2⟩ := h
  have q (a : Nat) (ha : a + 16 ≤ 0x200000) : (t.physWrite pa bs).pteAt a = t.pteAt a := by
    show BitVec.ofNat 128 (leNat ((t.mem.writeN pa bs).readN a 16)) = _
    rw [Mem.readN_writeN_out _ _ _ (by omega)]; rfl
  exact ⟨h0, hc, hd, by rw [q _ (by decide)]; exact h1, by rw [q _ (by decide)]; exact h2⟩

theorem fits_pieces {hi : Nat} : ∀ {fuel va n : Nat}, va + n ≤ hi → 0x200000 ≤ va → ∀ q ∈ pieces fuel va n, 0x200000 ≤ q.1 ∧ q.1 + q.2 ≤ hi := by
  intro fuel
  induction fuel with
  | zero => intro va n _ _ q hq; cases hq
  | succ m ih =>
    intro va n h1 h2 q hq
    rw [pieces] at hq
    split at hq
    · cases hq
    · rcases List.mem_cons.1 hq with rfl | hq
      · exact ⟨h2, by show va + Nat.min n _ ≤ hi; have hm : Nat.min n (65536 - va % 65536) ≤ n := Nat.min_le_left ..; omega⟩
      · have hm : Nat.min n (65536 - va % 65536) ≤ n := Nat.min_le_left ..
        exact ih (by omega) (by omega) q hq

theorem stands_pieces {P : Part} {bs : List Byte} {va : Nat} : ∀ (l : List (Nat × Nat)) {t : State}, Stands P t →
    (∀ q ∈ l, 0x200000 ≤ q.1 ∧ q.1 < 2 ^ 29) →
    ∃ u, l.foldl (fun o q => o.bind fun t => (t.savePa 0 1#16 q.1).map fun pa => t.physWrite pa ((bs.drop (q.1 - va)).take q.2)) (some t) =
      some u ∧ Stands P u
  | [], t, h, _ => ⟨t, rfl, h⟩
  | q :: l, t, h, hq => by
    have h1 := hq q (List.mem_cons_self ..)
    rw [List.foldl_cons, Option.bind_some, stands_savePa h h1.2]
    exact stands_pieces l (stands_write h h1.1) fun x hx => hq x (List.mem_cons_of_mem _ hx)

theorem nonempty_pieces : ∀ {fuel va n : Nat}, ∀ q ∈ pieces fuel va n, 0 < q.2 := by
  intro fuel
  induction fuel with
  | zero => intro va n q hq; cases hq
  | succ m ih =>
    intro va n q hq
    rw [pieces] at hq
    split at hq
    · cases hq
    · rcases List.mem_cons.1 hq with rfl | hq
      · show 0 < Nat.min n (65536 - va % 65536)
        exact Nat.lt_min.2 ⟨by omega, by omega⟩
      · exact ih q hq

theorem stands_putSave {P : Part} {t : State} (h : Stands P t) {va : Nat} {bs : List Byte} (h1 : 0x200000 ≤ va) (h2 : va + bs.length ≤ 2 ^ 29) :
    ∃ u, t.putSave 0 1#16 va bs = some u ∧ Stands P u :=
  stands_pieces _ h fun q hq => by
    have := fits_pieces h2 h1 q hq
    have := nonempty_pieces q hq
    exact ⟨by omega, by omega⟩

theorem stands_parts {P : Part} {b : Nat} (hb : 0x200000 ≤ b) : ∀ (l : List (Nat × List Byte)) {t : State}, Stands P t →
    (∀ q ∈ l, b + q.1 + q.2.length ≤ 2 ^ 29) →
    ∃ u, l.foldl (fun o q => o.bind fun t => t.putSave 0 1#16 (b + q.1) q.2) (some t) = some u ∧ Stands P u
  | [], t, h, _ => ⟨t, rfl, h⟩
  | q :: l, t, h, hq => by
    obtain ⟨u, hu, hs⟩ := stands_putSave (va := b + q.1) (bs := q.2) h (by omega) (by have := hq q (List.mem_cons_self ..); omega)
    rw [List.foldl_cons, Option.bind_some, hu]
    exact stands_parts hb l hs fun x hx => hq x (List.mem_cons_of_mem _ hx)

/-- A stopped core 1 with an empty task in slot 0. -/
def stSave : State := stPin 1 (fun k => { k with save := .stopped }) id id

theorem stands_stSave : Stands (stSave.part 0) stSave := by
  refine ⟨rfl, ⟨?_, ?_, ?_, ?_, ?_⟩, ?_, ?_, ?_⟩ <;> decide +kernel

theorem parts_fit {k : Core} (h1 : k.ownLines = []) (h2 : ((List.range 32).filter fun g => k.granulesPresent.testBit g) = [])
    (h3 : ((List.range 8).filter fun n => (k.slot (.ofNat 3 n)).ready && !(k.slot (.ofNat 3 n)).pairOdd) = []) :
    ∀ q ∈ k.parts, 0x1000000 + q.1 + q.2.length ≤ 2 ^ 29 := by
  have e (n m : Nat) (f : Nat → List Byte) (h : ∀ i, (f i).length = m) : ((List.range n).flatMap f).length = n * m := by
    rw [List.length_flatMap, List.map_congr_left (g := fun _ => m) (fun i _ => h i), List.map_const', List.length_range, List.sum_replicate_nat]
  intro q hq
  rw [Core.parts, h1, h2, h3] at hq
  have hz := Mem.readN_length (k.queueImage []) 0x9C00 0x4000
  generalize (k.queueImage []).readN 0x9C00 0x4000 = z at hq hz
  have hl : ∃ a n, q.1 = a ∧ q.2.length = n ∧ 0x1000000 + a + n ≤ 2 ^ 29 := by
    simp only [List.map_nil, List.append_nil, List.mem_cons, List.not_mem_nil, or_false] at hq
    rcases hq with h | h | h | h | h
    · exact ⟨0x1000, 64 * 512, by rw [h], by rw [h]; exact e _ _ _ fun _ => leBytes_length .., by decide⟩
    · exact ⟨0x9000, 16 * 64, by rw [h], by rw [h]; exact e _ _ _ fun _ => leBytes_length .., by decide⟩
    · exact ⟨0x9400, 128 * 16, by rw [h], by rw [h]; exact e _ _ _ fun _ => leBytes_length .., by decide⟩
    · exact ⟨0x9C00, 0x4000, by rw [h], by rw [h]; exact hz, by decide⟩
    · exact ⟨0xDC00, 512, by rw [h], by rw [h]; simp only [List.length_map, List.length_range], by decide⟩
  obtain ⟨a, n, ha, hn, hle⟩ := hl
  rw [ha, hn]; exact hle

theorem parts_before {k : Core} (h1 : k.ownLines = []) (h2 : ((List.range 32).filter fun g => k.granulesPresent.testBit g) = [])
    (h3 : ((List.range 8).filter fun n => (k.slot (.ofNat 3 n)).ready && !(k.slot (.ofNat 3 n)).pairOdd) = []) :
    ∀ q ∈ k.parts, q.1 < 0x50000 := by
  intro q hq
  rw [Core.parts, h1, h2, h3] at hq
  simp only [List.map_nil, List.append_nil, List.mem_cons, List.not_mem_nil, or_false] at hq
  rcases hq with h | h | h | h | h <;> rw [h] <;> simp

theorem no_lines : (stSave.core 1).ownLines = [] := by decide +kernel

theorem image_written {s : State} {P : Part} {c : CoreId} (hs : Stands P s) (hc : (s.core c).info.cont.ctx = 1#16)
    (hn : ((s.part 0).slotOf (s.core c).info).half = none) (hb : ((s.part 0).ctx 1#16).halfVa (s.core c).info.slot false = 0x1000000)
    (hq : ∀ q ∈ (s.core c).parts, 0x1000000 + q.1 + q.2.length ≤ 2 ^ 29) (ha : (s.core c).absent = []) :
    ∃ u, s.writeImage 0 c = some u := by
  have hb2 (q : Nat × List Byte) : s.partBytes 0 c q = some q.2 := by
    unfold State.partBytes
    rw [ha]; rfl
  unfold State.writeImage
  simp only [hc, hn, hb, hb2, Option.bind_some]
  obtain ⟨u, hu, su⟩ := stands_parts (b := 0x1000000) (by decide) (s.core c).parts hs hq
  rw [hu, Option.bind_some]
  generalize hh : ((s.headerImage c 1 _).put 0x10 4 _).readN 0 4096 = bs
  have hl : bs.length = 4096 := by rw [← hh, Mem.readN_length]
  obtain ⟨v, hv, sv⟩ := stands_putSave (va := 0x1000000) (bs := bs) su (by decide) (by rw [hl]; decide)
  rw [hv, Option.bind_some]
  obtain ⟨w, hw, sw⟩ := stands_putSave (va := 0x1000000 + 16) (bs := leBytes 4 (s.core c).tstate) sv (by decide)
    (by rw [leBytes_length]; decide)
  rw [hw]
  exact ⟨_, rfl⟩

theorem saved_alone {s u : State} {p : PartId} {c : CoreId} (hu : s.writeImage p c = some u) : ∃ t, s.saveCores p [c] = some t := by
  unfold State.saveCores
  simp only [List.foldl_cons, List.foldl_nil, Option.bind_some, hu]
  exact ⟨_, rfl⟩

theorem wit_save : ∃ t, stSave.ev.core = 1 ∧ (∀ d ∈ stSave.saveSet 1, stSave.drainedForSave d = true) ∧ stSave.ev.flag = false ∧
    stSave.saveCores (stSave.partOf 1) (stSave.saveSet 1) = some t := by
  have hs : stSave.saveSet 1 = [1#8] := by decide +kernel
  have hp : stSave.partOf 1 = 0 := by decide +kernel
  have hd : ∀ d ∈ [1#8], stSave.drainedForSave d = true := by decide +kernel
  obtain ⟨u, hu⟩ := image_written stands_stSave (c := 1#8) (by decide +kernel) (by decide +kernel) (by decide +kernel)
    (parts_fit no_lines (by decide +kernel) (by decide +kernel)) (by decide +kernel)
  obtain ⟨t, ht⟩ := saved_alone hu
  rw [hs, hp]
  exact ⟨t, rfl, hd, rfl, ht⟩

theorem stands_getSave {P : Part} {t : State} (h : Stands P t) (h0 : t.poison = []) (h1 : t.io.cxl = []) {va n : Nat} (hv : va + n ≤ 2 ^ 29)
    (hl : 0x200000 ≤ va) : ∃ l, t.getSave 0 1#16 va n = some l := by
  have hp (pa k : Nat) : t.poisonedIn pa k = false := by
    have hd : t.dead = 0 := h.2.2.1
    simp [State.poisonedIn, h0, h1, hd]
  have go (l : List (Nat × Nat)) (hq : ∀ q ∈ l, q.1 < 2 ^ 29) : ∃ b, l.foldr (fun q o => o.bind fun l => match t.savePa 0 1#16 q.1 with
      | none => none
      | some pa => if t.poisonedIn pa q.2 then none else some (t.physRead pa q.2 ++ l)) (some []) = some b := by
    induction l with
    | nil => exact ⟨_, rfl⟩
    | cons q l ih =>
      obtain ⟨b, hb⟩ := ih fun x hx => hq x (List.mem_cons_of_mem _ hx)
      rw [List.foldr_cons, hb, Option.bind_some, stands_savePa h (hq q (List.mem_cons_self ..))]
      simp only [hp, Bool.false_eq_true, if_false]
      exact ⟨_, rfl⟩
  exact go _ fun q hq => by
    have := fits_pieces hv hl q hq
    have := nonempty_pieces q hq
    omega

theorem stands_header {P : Part} {t : State} (h : Stands P t) (h0 : t.poison = []) (h1 : t.io.cxl = []) {va : Nat} (hv : va < 2 ^ 28)
    (ha : va % 65536 = 0) : t.getSave 0 1#16 va 4096 = some (t.mem.readN va 4096) := by
  have hp (pa k : Nat) : t.poisonedIn pa k = false := by
    have hd : t.dead = 0 := h.2.2.1
    simp [State.poisonedIn, h0, h1, hd]
  have hq : pieces (4096 / 65536 + 2) va 4096 = [(va, 4096)] := by
    simp [pieces, ha]
  unfold State.getSave
  rw [hq]
  simp only [List.foldr_cons, List.foldr_nil, Option.bind_some, stands_savePa h (show va < 2 ^ 29 by omega), hp, Bool.false_eq_true, if_false,
    State.physRead, List.append_nil]

theorem get_copy {m : Mem} {b n i k : Nat} (h : i + k ≤ n) : (Mem.writeN [] 0 (m.readN b n)).get i k = m.get (b + i) k := by
  have h0 (n b j : Nat) (hj : j < n) : (m.readN b n)[j]? = some (m.read (b + j)) := by
    induction n generalizing b j with
    | zero => omega
    | succ n ih =>
      cases j with
      | zero => rfl
      | succ j => rw [Mem.readN, List.getElem?_cons_succ, ih (b + 1) j (by omega), show b + 1 + j = b + (j + 1) by omega]
  have hr (j : Nat) (hj : j < n) : (Mem.writeN [] 0 (m.readN b n)).read j = m.read (b + j) := by
    have hl : j < (m.readN b n).length := by rw [Mem.readN_length]; exact hj
    have h1 := Mem.read_writeN_in Mem.wf_nil 0 (m.readN b n) hl
    have h2 := h0 n b j hj
    rw [List.getElem?_eq_getElem hl] at h2
    rw [Nat.zero_add] at h1
    exact h1.trans (Option.some.inj h2)
  unfold Mem.get
  congr 1
  induction k generalizing i with
  | zero => rfl
  | succ k ih => rw [Mem.readN, Mem.readN, hr i (by omega), ih (by omega)]; rfl

/-- Saves of the task of slot 0 stand in its first half; core 2 is free. -/
def stLoad : State := stPin 2 id (fun P => { P with
    ctxs := [(1, { st := 1, root := .ofNat 64 bootL1, slots := 4, savebase := 0x1000000
                   use := [(0, { half := some false, gen := 1, info := { cont := cont3 } })] })]
    rq := [(0, [{ kind := .resume 0, ctx := 1, lrec := 0 }])] })
  fun m => (m.put 0x1000000 8 1).put 0x1000010 4 1

theorem image_read {s : State} {P : Part} {r : SlotRec} {n : BitVec 10} {b : Nat} (hs : Stands P s) (h0 : s.poison = []) (h1 : s.io.cxl = [])
    (hh : r.half = some false) (hb : ((s.part 0).ctx 1#16).halfVa n false = b) (hb1 : 0x200000 ≤ b) (hb2 : b < 2 ^ 28) (hb3 : b % 65536 = 0)
    (hv : bitN (s.mem.get (b + 0x10) 4) 0 = 1) (hg : s.mem.get b 8 = r.gen.toNat) : ∃ m, s.readImage 0 1#16 n r = some m := by
  have hr := stands_header hs h0 h1 hb2 hb3
  have hr2 : s.readImage 0 1#16 n r = s.readHalf 0 1#16 b r.gen := by
    unfold State.readImage
    rw [hh, ← hb]
  have hn : ¬ (bitN ((Mem.writeN [] 0 (s.mem.readN b 4096)).get 0x10 4) 0 = 0 ∨
      (Mem.writeN [] 0 (s.mem.readN b 4096)).get 0 8 ≠ r.gen.toNat) := by
    rw [get_copy (by decide), get_copy (by decide), hv, Nat.add_zero, hg]
    simp
  obtain ⟨x, hx⟩ := stands_getSave hs h0 h1 (va := b + eagerRead.1) (n := eagerRead.2) (by unfold eagerRead; omega) (by omega)
  rw [hr2]
  unfold State.readHalf
  generalize s.getSave 0 1#16 b 4096 = g at hr
  subst hr
  simp only [if_neg hn]
  rw [hx]
  exact ⟨_, rfl⟩

theorem image_loads {s : State} {p : PartId} {ctx : BitVec 16} {n : BitVec 10} {c : CoreId} {m : Mem}
    (h : s.readImage p ctx n (((s.part p).ctx ctx).slotRec n) = some m) : ∃ t, State.loadTask s p ctx n c = some (t, m) := by
  unfold State.loadTask
  simp only [h, Option.map_some]
  exact ⟨_, rfl⟩

/-- stLoad with the resume entry taken from its queue. -/
def stLoad1 : State := (stLoad.reserve 0).modPart 0 (·.takeEntry 0 0)
theorem stands_stLoad1 : Stands (stLoad1.part 0) stLoad1 := by
  refine ⟨rfl, ⟨?_, ?_, ?_, ?_, ?_⟩, ?_, ?_, ?_⟩ <;> decide +kernel

theorem wit_restore : ∃ (e : REnt) (t : State) (m : Mem), stLoad.ev.core = 2 ∧ 0 = stLoad.partOf 2 ∧ (stLoad.reserve 0).mayRestore 0 2 = true ∧
    ((stLoad.reserve 0).part 0).firstFor 2 = some (0, 0, e) ∧ e.kind = .resume 0 ∧
    State.loadTask ((stLoad.reserve 0).modPart 0 (·.takeEntry 0 0)) 0 e.ctx 0 2 = some (t, m) := by
  obtain ⟨m, hm⟩ := image_read (r := ((stLoad1.part 0).ctx 1#16).slotRec 0) (n := 0) (b := 0x1000000) stands_stLoad1 (by decide +kernel)
    (by decide +kernel) (by decide +kernel) (by decide +kernel) (by decide) (by decide) (by decide) (by decide +kernel) (by decide +kernel)
  obtain ⟨t, ht⟩ := image_loads (c := 2) hm
  exact ⟨{ kind := .resume 0, ctx := 1, lrec := 0 }, t, m, rfl, by decide +kernel, by decide +kernel, by decide +kernel, rfl, ht⟩


/-! ### Witnesses: registers and commands -/

/-- Partition 0's supervisor about to command with operand n; the pool and the tables stand at the addresses given. -/
def stCmd (n : Nat) (ctx : BitVec 16) (f : Part → Part) (m : Mem → Mem) : State :=
  { st0.modPart 0 (fun P => f { P with lrpool := 0x10000, qtbase := 0x20000, ctxbase := 0x30000, nctx := 4 }) with
    mem := m st0.mem, ev := { part := 0, n := .ofNat 16 n, ctx := ctx } }
/-- Record 3's image: a TASK of one member for context 1 with its code at 0x1000. -/
def recImage (m : Mem) : Mem := ((m.put 0x10180 8 0x1000).put 0x101DC 2 1).put 0x101E8 2 1
theorem wit_build : ∃ b : LRec, (stCmd 3 0 id recImage).ev.part = 0 ∧ 3 = (stCmd 3 0 id recImage).ev.n.setWidth 12 ∧
    (stCmd 3 0 id recImage).mayCommand 0 .sup = true ∧ ((stCmd 3 0 id recImage).part 0).lrec 3 = {} ∧
    (stCmd 3 0 id recImage).buildCheck 0 3 = .ok b :=
  ⟨{ code := 0x1000, args := List.replicate 8 0, ctx := 1, ngang := 1 }, by decide +kernel, by decide +kernel, by decide +kernel, by decide +kernel,
    ok_of (by decide +kernel)⟩
theorem err_of {α β : Type} [DecidableEq α] {e : Except α β} {x : α} (h : (match e with | .error y => decide (y = x) | .ok _ => false) = true) :
    e = .error x := by
  cases e with
  | error y => simp at h; rw [h]
  | ok y => cases h
theorem wit_build_fails : (stCmd 3 0 id id).buildCheck 0 3 = .error (2 + 256 * 92) := err_of (by decide +kernel)
theorem wit_unbuild : ((stCmd 3 0 (fun P => { P with recs := [(3, { st := .idle, ctx := 1 })] }) id).part 0).lrec 3 = { st := .idle, ctx := 1 } ∧
    ((stCmd 3 0 (fun P => { P with recs := [(3, { st := .armed, ctx := 1 })] }) id).part 0).lrec 3 = { st := .armed, ctx := 1 } := by decide +kernel
theorem wit_drain : ∃ (e : RillEnt) (z : Queue), (stStage.part 0).lrec 3 = (stStage.part 0).lrec 3 ∧ ((stStage.part 0).lrec 3).st = .running ∧
    ((stStage.part 0).lrec 3).kind = kPipe ∧ ((stStage.part 0).lrec 3).pipe.rills[0]? = some e ∧ e.extin = true ∧
    (stStage.part 0).rill 3 ((stStage.part 0).lrec 3) (.ofNat 4 0) = some z :=
  ⟨⟨4, 3, true, false⟩, { q9 with kind := .rill, pipe := some (3, 0), items := [{ num := 0, data := List.replicate 8 0, st := .ready }] }, by decide +kernel⟩
/-- Entry 9 of the queue table: a table queue of 4 entries of one byte between context 1 and itself. -/
def qImage (m : Mem) : Mem := ((m.put 0x20120 4 0x00030004).put 0x20124 8 0x03030001)
theorem wit_queue_open : ((stCmd 9 0 id qImage).part 0).queue 9 = none ∧
    (((stCmd 9 0 id qImage).part 0).queueOf (fun o n => (stCmd 9 0 id qImage).ownGet 0 (((stCmd 9 0 id qImage).part 0).qentry 9 + o) n)).isSome = true ∧
    ((stCmd 9 0 id id).part 0).queueOf (fun o n => (stCmd 9 0 id id).ownGet 0 (((stCmd 9 0 id id).part 0).qentry 9 + o) n) = none := by
  decide +kernel
theorem wit_queue_close : ∃ s : State, (s.part 0).queue 9 = some q9 ∧ s.queueBound 0 9 = false := ⟨stQ 0, by decide +kernel⟩
theorem wit_queue_bound : ((stQ 0).modHere fun k => { k with a := { k.a with ports := [(1, 0x10009)] } }).queueBound 0 9 = true := by decide +kernel

/-- GRPARG names a mask of cores 1 and 2 in the supervisor's space. -/
def stGc (f : Part → Part) : State := stCmd (7 + 256) 0 (fun P => f { P with grparg := 0x4000 }) fun m => m.put 0x4000 8 6
theorem wit_group_build : (stGc id).ev.n.toNat % 1024 = (7#8).toNat + 256 * (1#2).toNat ∧ (((stGc id).part 0).group 7).built = false ∧
    (stGc id).grpMask 0 = some 6#256 ∧ ((stGc id).part 0).maskOk 6#256 = true := by decide +kernel
theorem wit_group_unbuild : ∃ s : State, ((s.part 0).group 7).built = true ∧ s.groupInUse 0 7 = false :=
  ⟨stGc fun P => { P with groups := [(7, { built := true, kind := 1, mask := 6 })] }, by decide +kernel⟩
theorem wit_group_used : (stGrp 1 0 0 0).groupInUse 0 7 = true := by decide +kernel

/-- Entry 2 of the context table: its root is context 1's, with one save slot at 0x1000000. -/
def ctxImage (m : Mem) : Mem :=
  (((m.put 0x30080 8 bootL1).put 0x30088 8 0x1000000).put 0x30090 2 1).put bootL2 16 (bootLeafEntry + 256)
theorem wit_ctx_create : ∃ x : Ctx, x = ctxOfEntry (fun o n => (stCmd 0 2 id ctxImage).mem.get (((stCmd 0 2 id ctxImage).part 0).ctxEntry 2 + o) n) ∧
    (stCmd 0 2 id ctxImage).ev.ctx = 2 ∧ 2 ≤ ((stCmd 0 2 id ctxImage).part 0).nctx ∧
    ((stCmd 0 2 id ctxImage).part 0).rangePinnable (((stCmd 0 2 id ctxImage).part 0).ctxEntry 2) 64 = true ∧ (((stCmd 0 2 id ctxImage).part 0).ctx 2).st = 0 ∧
    ((stCmd 0 2 id ctxImage).part 0).entryOk (fun o n => (stCmd 0 2 id ctxImage).mem.get (((stCmd 0 2 id ctxImage).part 0).ctxEntry 2 + o) n) x = true ∧
    (stCmd 0 2 id ctxImage).firstUnpinned
      { (stCmd 0 2 id ctxImage).part 0 with ctxs := Tbl.set ((stCmd 0 2 id ctxImage).part 0).ctxs (2#16).toNat x } 2 x = none ∧
    x.sigcap.toNat ≤ ((stCmd 0 2 id ctxImage).part 0).spillcap :=
  ⟨_, rfl, by decide +kernel⟩
theorem wit_ctx_destroy : ∃ s : State, ((s.part 0).ctx 2).st ≠ 0 ∧ s.ctxInUse 0 2 = false ∧
    (s.part 0).rangePinnable ((s.part 0).ctxEntry 2) 64 = true ∧ (2 : BitVec 16) ≤ (s.part 0).nctx :=
  ⟨stCmd 0 2 (fun P => { P with ctxs := P.ctxs ++ [(2, { st := 1 })] }) id, by decide +kernel⟩
theorem wit_ctx_used : (stCmd 0 1 id id).ctxInUse 0 1 = true := by decide +kernel

theorem wit_suspend : (stCmd 0 1 id id).mayCommand 0 (stCmd 0 1 id id).ev.agent = true ∧
    ((stCmd 0 1 id id).part 0).evBusy (stCmd 0 1 id id).ev.agent = false ∧ ((stCmd 0 1 id id).part 0).evrun = none ∧
    ((stCmd 0 1 id id).part 0).evwait = [] ∧ (((stCmd 0 1 id id).part 0).ctx 1).st = 1 ∧ (stCmd 0 1 id id).partOf 1 = 0 ∧
    ((stCmd 0 1 id id).core 1).occ = .task ∧ ((stCmd 0 1 id id).core 1).info.cont.ctx = 1 := by decide +kernel
theorem wit_resume : (((stCmd 0 2 (fun P => { P with ctxs := P.ctxs ++ [(2, { st := 2 })] }) id).part 0).ctx 2).st = 2 ∧
    (stCmd 0 1 id id).ctxEmpty 0 1 = false := by decide +kernel
theorem wit_export : ∃ (s : State) (r : EvRun), (s.part 0).evrun = some r ∧ r.op = 3 ∧ s.onCore 0 r.ctx = false ∧ r.failed = false :=
  ⟨stCmd 0 2 (fun P => { P with ctxs := P.ctxs ++ [(2, { st := 2 })], evrun := some { op := 3, ctx := 2, agent := .sup } }) id, _, rfl, by decide +kernel⟩

theorem wit_register_write : ({ st0 with ev := { target := .sup 0 0x101, v := 0x2000 } } : State).ev.target = .sup 0 0x101 ∧
    (st0.part 0).up = true ∧ ({ st0 with ev := { target := .window 1 0 0x101 } } : State).ev.target = .window 1 0 0x101 ∧
    st0.io.powered = true ∧ st0.io.held = false := by decide +kernel
theorem wit_host_memory : ∃ s : State, s.io.powered = true ∧ s.ev.va.toNat = 0x2000 ∧ s.mem.wf = true ∧ s.barOk s.ev.port 0x2000 = true ∧
    s.barOk s.ev.port 0x800000000000 = false ∧ s.poisoned 0x2000 = false ∧ s.ev.n = 4 :=
  ⟨{ st0 with io := { st0.io with hperm := 1 }, ev := { va := 0x2000, n := 4, bytes := [1, 2] } }, by decide +kernel⟩


/-! ### Witnesses: pages, the Weir, power, snapshots, the controller -/

theorem wit_walk : ({ st0 with ev := { core := 1, va := 0x2000 } } : State).walk (st0.part (st0.partOf 1)) (st0.core 1).ctx 0x2000 =
    .ok { pte := .ofNat 128 bootLeafEntry, big := true, addr := bootL2 } := by
  have h : (st0.walk (st0.part (st0.partOf 1)) (st0.core 1).ctx 0x2000).toOption = some { pte := .ofNat 128 bootLeafEntry, big := true, addr := bootL2 } := by
    decide +kernel
  exact ok_of h
theorem wit_walk_faults : st0.walk (st0.part (st0.partOf 1)) (st0.core 1).ctx 0x20000000 = .error .page := err_of (by decide +kernel)

/-- A CXL leaf at 0x140000 for the page of context 1 at 0x20000000: not resident, or in frame f of HBM. -/
def stTier (f : Nat) (P : Part → Part) : State :=
  { st0.modPart 0 (fun Q => P { Q with tmcfg := 4, cxlwin := 0x100000000 }) with
    mem := (st0.mem.put (bootL2 + 16) 16 (3 + 0x140000)).put 0x140000 16 (0x80000000000EF + f)
    ev := { part := 0, ctx := 1, va := 0x20000000, core := 1 } }
/-- The page as resident in frame 0xBFFFC. -/
def tpage (h : List Nat) : TierPage := { ctx := 1, va := 0x20000000, hframe := 0xBFFFC, pteAddr := 0x140000, holders := h }
/-- RSD and HFRAME of that frame. -/
def resident : Nat := 2 ^ 88 + 0xBFFFC * 2 ^ 92
theorem wit_page_out : ∃ s : State, s = stTier resident (fun P => { P with tierPages := [tpage []] }) ∧ s.mem.wf = true ∧
    (s.residents 0).find? (fun t => t.ctx == s.ev.ctx && t.va == unitVa s.ev.va) = some (tpage []) ∧
    pteV (s.pteAt 0x140000) = true ∧ pteTier (s.pteAt 0x140000) = 1 ∧ pteRsd (s.pteAt 0x140000) = true ∧
    pteHframe (s.pteAt 0x140000) = 0xBFFFC * 65536 ∧ 0x140000 + 16 ≤ 0xBFFFC * 65536 ∧ 0x140000 + 16 ≤ pteFrame (s.pteAt 0x140000) :=
  ⟨_, rfl, by decide +kernel⟩
theorem wit_page_out_held : ∃ s : State, s = stTier resident (fun P => { P with tierPages := [tpage [3]] }) ∧ (tpage [3]).holders ≠ [] ∧
    (s.residents 0).find? (fun t => t.ctx == s.ev.ctx && t.va == unitVa s.ev.va) = some (tpage [3]) := ⟨_, rfl, by decide +kernel⟩
/-- A page that the supervisor made resident itself is found too. -/
theorem wit_page_out_supervisor : ((stTier resident id).residents 0).find? (fun t => t.ctx == (stTier resident id).ev.ctx && t.va == unitVa (stTier resident id).ev.va) =
    some (tpage []) ∧ ((stTier 0 id).residents 0) = [] := by decide +kernel
theorem wit_page_in : ∃ (s : State) (l : Leaf) (f : Nat), s = stTier 0 (fun P => { P with tierReqs := [{ ctx := 1, va := 0x20000000 }] }) ∧
    s.mem.wf = true ∧ { ctx := 1, va := 0x20000000 } ∈ (s.part 0).tierReqs ∧ s.walk (s.part 0) 1 0x20000000 = .ok l ∧ notResident l.pte = true ∧
    s.freeFrame 0 (pteHome l.pte) = some f ∧ l.addr + 16 ≤ f * 65536 :=
  ⟨_, { pte := .ofNat 128 0x80000000000EF, big := false, addr := 0x140000 }, 0xBFFFC, rfl, by decide +kernel, by decide +kernel,
    ok_of (by decide +kernel), by decide +kernel, by decide +kernel, by decide⟩

/-- Partition 0 at a Weir boundary. -/
def stWeir (P : Part → Part) : State := stP 1 fun Q => P { Q with interval := 65536 }
theorem wit_weir : ∃ e : REnt, ((stWeir fun P => { P with rq := [(1, [e])] }).part 0).up = true ∧
    ((stWeir fun P => { P with rq := [(1, [e])] }).part 0).weirLen ≤ ((stWeir fun P => { P with rq := [(1, [e])] }).part 0).interval ∧
    e ∈ ((stWeir fun P => { P with rq := [(1, [e])] }).part 0).ready 1 ∧ e.multi = false ∧
    ((stWeir fun P => { P with rq := [(1, [e])] }).part 0).ages e = true :=
  ⟨{ ent3 with waited := 300000 }, by decide +kernel⟩
/-- A pipeline of two stages, both cores in the first; the second stage's Rill holds n of 4 items. -/
def stMove (n : Nat) : State := stWeir fun P => { P with
  recs := [(3, { st := .running, ctx := 1, kind := 2, rqbase := 16, pipe := { cores := 2, stages := [{ stage0 with maxc := 2 }, { stage0 with inr := 1, minc := 0, outs := [] }] } })]
  pipes := [(3, { cores := [(2, 0), (3, 0)], interval := 65536 })]
  queues := [(16, { q9 with kind := .rill, pipe := some (3, 0) }), (17, { q9 with kind := .rill, pipe := some (3, 1), items := (List.range n).map fun i => { num := i, data := [], st := .ready } })] }
theorem wit_weir_moves : ∃ (x : Pipe) (r : LRec) (hi lo : StageView), ((stMove 4).part 0).up = true ∧
    ((stMove 4).part 0).pipes.map (·.1) = [3] ∧ (3, x) ∈ ((stMove 4).part 0).pipes ∧
    r = ((stMove 4).part 0).lrec (.ofNat 12 3) ∧ ((stMove 4).part 0).weirLen ≤ x.interval ∧ (((stMove 4).part 0).ctx r.ctx).active = true ∧
    x.moves = [] ∧ r.pipe.stages.length ≤ 16 ∧ weirHi (((stMove 4).part 0).stageViews (.ofNat 12 3) r x) = some hi ∧
    weirLo (((stMove 4).part 0).stageViews (.ofNat 12 3) r x) = some lo ∧ hi.ix ≠ lo.ix ∧
    (hi.depth * lo.depth : Int) < 8 * ((hi.count * lo.depth : Int) - lo.count * hi.depth) :=
  ⟨{ cores := [(2, 0), (3, 0)], interval := 65536 }, ((stMove 4).part 0).lrec 3, ⟨1, 4, 4, 0, 0, 1⟩, ⟨0, 0, 4, 2, 1, 2⟩, by decide +kernel⟩
theorem wit_weir_keeps : ∃ (x : Pipe) (hi lo : StageView), (3, x) ∈ ((stMove 0).part 0).pipes ∧
    weirHi (((stMove 0).part 0).stageViews (.ofNat 12 3) (((stMove 0).part 0).lrec 3) x) = some hi ∧
    weirLo (((stMove 0).part 0).stageViews (.ofNat 12 3) (((stMove 0).part 0).lrec 3) x) = some lo ∧ hi.ix ≠ lo.ix ∧
    8 * ((hi.count * lo.depth : Int) - lo.count * hi.depth) ≤ (hi.depth * lo.depth : Int) :=
  ⟨{ cores := [(2, 0), (3, 0)], interval := 65536 }, ⟨1, 0, 4, 0, 0, 1⟩, ⟨0, 0, 4, 2, 1, 2⟩, by decide +kernel⟩

/-- Core 1 with a nest ready to step, the ring of die 0 as given. -/
def stBreeze (r : Ring) (w : Power) : State :=
  { stNest (some { ix := [0, 0, 0, 0, 0, 0], checked := true }) with power := { w with rings := [(0, r)] } }
theorem wit_token_waits : (stBreeze {} {}).waiting 0 = [0] ∧ 0 = dieOf (stBreeze {} {}).ev.core ∧ st0.waiting 0 = [] := by decide +kernel
theorem wit_token_passes : (stBreeze { holders := 2 } {}).waiting 0 ≠ [] ∧
    ((stBreeze { holders := 2 } {}).ring 0).holding.length ≤ (stBreeze { holders := 2 } {}).tokens 0 ∧
    ((stBreeze { holders := 2 } {}).ring 0).holding.find? (fun n => (clusterCores 0 n).all fun c => !((stBreeze { holders := 2 } {}).core c).hasNest) =
      some 1 := by decide +kernel
theorem wit_token_forced : ((stBreeze { holders := 2, held := [(1, 65536)] } {}).ring 0).holding.find?
    (fun n => decide (65536 ≤ Tbl.get 0 ((stBreeze { holders := 2, held := [(1, 65536)] } {}).ring 0).held n)) = some 1 := by decide +kernel
theorem wit_cap : ∃ s : State, 65536 ≤ s.power.since ∧ s.power.cap = 2 ∧ 1 < s.power.cut ∧ ∃ d, s.tokens d ≠ 1 :=
  ⟨{ st0 with power := { cap := 2, cut := 2 } }, by decide +kernel, by decide +kernel, by decide +kernel, 0, by decide +kernel⟩
theorem wit_cap_all_one : ∃ s : State, s.power.cap = 2 ∧ ∀ d, s.tokens d = 1 :=
  ⟨{ st0 with power := { cap := 2, cut := 7 } }, by decide +kernel, by decide +kernel⟩
theorem wit_cap_waits : ({ st0 with power := { since := 5 } } : State).power.since < 65536 := by decide
theorem wit_cap_steps : ∃ v w : Power, v.cap = 3 ∧ v.step < 12#4 ∧ 1#4 < v.step ∧ w.cap = 3 ∧ 12#4 ≤ w.step :=
  ⟨{ cap := 3, step := 5 }, { cap := 3, step := 12 }, by decide⟩
theorem wit_snapshot : ∃ s v : State, s.io.powered = true ∧ s.io.snap.host = true ∧ s.io.snap.lock = false ∧ s.io.snap.pin = false ∧
    v.io.snap.lock = true ∧ v.io.snap.atClk = v.clk :=
  ⟨st0, { st0 with io := { st0.io with snap := { st0.io.snap with lock := true } } }, by decide +kernel⟩
theorem wit_snapshot_missed : ∃ v : State, v.io.snap.lock = true ∧ v.io.snap.atClk ≠ v.clk :=
  ⟨{ st0 with clk := 7, io := { st0.io with snap := { st0.io.snap with lock := true } } }, by decide +kernel⟩

/-- Port 1 holds HSEM; the package is in phase ph. -/
def stHeld (ph : BitVec 3) (f : Io → Io) : State := { st0 with io := f { st0.io with held := true, owner := 1, phase := ph, mcarg := 0x40000 }, ev := { port := 1 } }
theorem wit_semaphore : (stHeld 2 id).io.held = true ∧ (stHeld 2 id).io.owner = (stHeld 2 id).ev.port ∧ (stHeld 2 id).io.phase ≠ 7 ∧
    (stHeld 2 id).io.powered = true ∧ st0.io.held = false ∧ st0.ev.tie = none := by decide +kernel
theorem wit_semaphore_tie : ∃ s : State, s.io.held = false ∧ s.ev.tie = some 3#8 ∧ s.io.owner ≠ 1 ∧ s.ev.port = 1 :=
  ⟨{ st0 with ev := { port := 1, tie := some 3 } }, by decide +kernel⟩
/-- A partition control block for die 1 at 0x40000, its root table in the die's first stack. -/
def stSetup : State :=
  { stHeld 2 id with mem := ((stHeld 2 id).mem.put 0x40000 2 0x4002).put 0x40008 8 0x1800000000 }
theorem wit_setup : ∃ P : Part, stSetup.io.mcarg.toNat = 0x40000 ∧ P = partOfBlock (fun o m => stSetup.mem.get (0x40000 + o) m) ∧
    stSetup.io.phase = 2 ∧ inHbm (0x40000 + 63) = true ∧ stSetup.poisonedIn 0x40000 64 = false ∧ stSetup.setupBad (lowestDie P.dies) P = false :=
  ⟨_, by decide +kernel, rfl, by decide +kernel⟩
theorem wit_setup_refused : ∃ P : Part, P = partOfBlock (fun o m => (stHeld 2 id).mem.get (0x40000 + o) m) ∧
    (stHeld 2 id).setupBad (lowestDie P.dies) P = true := ⟨_, rfl, by decide +kernel⟩
theorem wit_teardown : ((stHeld 2 id).part 0).up = true ∧ ((stHeld 2 id).part 0).hasCtx = true ∧
    (((stHeld 2 id).modPart 0 fun P => { P with ctxs := [] }).part 0).hasCtx = false := by decide +kernel

theorem wit_warm_reset : ∃ s : State, s.io.powered = true ∧ s.io.held = true ∧ s.io.owner = s.ev.port ∧ ∀ c, (s.core c).occ ≠ .task :=
  ⟨{ stHeld 2 id with cores := [] }, rfl, rfl, rfl, by intro c; show Occ.idle ≠ .task; decide⟩
/-- A warm reset has been made; partition 0 is to be started again. -/
def stWarm (f : Option Byte) : State :=
  { st0 with cores := [], io := { st0.io with phase := 1, warming := true }, parts := [(0, { bootPart with up := false })], ev := { fail := f } }
theorem wit_training : (stWarm none).io.powered = true ∧ (stWarm none).io.phase = 1 ∧ (stWarm none).ev.fail = none ∧ (stWarm none).io.warming = true ∧
    ((stWarm none).part 0).up = false ∧ ((stWarm none).part 0).dies.getLsbD (dieOf ((stWarm none).part 0).score).toNat = true ∧
    (stWarm (some 3)).ev.fail = some 3 := by decide +kernel
theorem wit_training_alone : ∀ q : PartId, q ≠ 0 → ((stWarm none).part q).dies &&& ((stWarm none).part 0).dies = 0#4 ∧
    (((stWarm none).part q).dies ≠ 0#4 → ((stWarm none).part q).score ≠ ((stWarm none).part 0).score) := by decide +kernel
/-- A CXL device at 0x8000000000000, on its link or not; a leaf of context 1 maps 0x20000000 into it. -/
def stDev (up : Bool) : State :=
  let t := stTier 0 id
  { t with io := { t.io with cxl := [{ base := 0x8000000000000, size := 0x10000, up := up }] }, ev := { t.ev with n := 0 } }
theorem wit_link_down : ∃ s v : State, (∃ e, s.io.cxl[s.ev.n.toNat]? = some e ∧ e.up = true) ∧ (∃ e, v.io.cxl[v.ev.n.toNat]? = some e ∧ e.up = false) :=
  ⟨stDev true, stDev false, ⟨_, rfl, rfl⟩, _, rfl, rfl⟩
/-- A store through that leaf meets the device that has dropped off. -/
theorem wit_store_link_down : ∃ l : Xl, (stDev false).xlate 1 1 .write 0x20000000 8 = .ok l ∧ (stDev false).linkDown l.pa 8 = true ∧
    (stDev true).linkDown l.pa 8 = false :=
  ⟨{ pa := 0x8000000000000, pte := .ofNat 128 0x80000000000EF }, ok_of (by decide +kernel), by decide +kernel, by decide +kernel⟩
theorem wit_failures : ∃ s v : State, s.ev.unit = .die 1 ∧ v.ev.unit = .stack 3 ∧ inHbm 0x2400000000 = true ∧ stackOf 0x2400000000 = (3 : BitVec 3).toNat :=
  ⟨{ st0 with ev := { unit := .die 1 } }, { st0 with ev := { unit := .stack 3 } }, rfl, rfl, by decide +kernel, by decide +kernel⟩


/-! ### Witnesses: the Sluice -/

/-- The Sluice's block at 0x50000, with context 1's entry: one slot, record 3, output queue 0x20, RELQ 0x30, the sequence record at
0x1000000, the token buffer at 0x1010000 and the root node at 0x70000. -/
def slImage (m : Mem) : Mem :=
  ((((((m.put 0x50000 24 (0x51000 + 2 ^ 64 + 0x60000 * 2 ^ 128)).put 0x50018 4 4).put 0x51040 16 (1 + 2 ^ 32 + 3 * 2 ^ 48 + 2 ^ 64 + 2 ^ 80
    + 0x20 * 2 ^ 96 + 0x30 * 2 ^ 112)).put 0x51050 8 0x1000000).put 0x51058 8 0x1010000).put 0x51060 16 (65536 + 0x70000 * 2 ^ 64)).put
    bootL2 16 (bootLeafEntry + 256)
/-- A vocabulary with one token, the string "a". -/
def voc1 : Vocab :=
  { byteId := List.replicate 256 0, cls := List.replicate 256 0, split := List.replicate 16 0, merges := [], strs := [[97]], specs := [] }
/-- Port 1 holds HSEM; context 1 may be served; vocabulary 0 may stand in its slot. -/
def stSl (z : Sluice → Sluice) (f : Part → Part) (m : Mem → Mem) : State :=
  { stP 1 f with
    mem := m (slImage st0.mem), sl := z { base := [(0, 0x50000)] }, io := { st0.io with held := true, owner := 1 }
    ev := { part := 0, ctx := 1, port := 1 } }
theorem wit_slbase : st0.io.powered = true ∧ bits (0xFFF00000000500FD : Word) 1 0 = 1 ∧ bits (0xFFF00000000500FD : Word) 51 6 * 64 = 0x500C0 := by
  decide
theorem wit_sluice_failed : (stSl id id id).io.held = true ∧ ({ stSl id id id with io := { (stSl id id id).io with phase := 7 } } : State).io.phase = 7 := by
  decide
theorem wit_enable : (stSl id id id).io.held = true ∧ (stSl id id id).io.owner = (stSl id id id).ev.port ∧ (stSl id id id).io.powered = true ∧
    (stSl id id id).slEntryOk 0 1 = true ∧ (stSl id id id).slQueuesOk 0 1 ((stSl id id id).readEntry 0 1) = true ∧
    (stSl id id id).sl.serves 0 1 = false ∧ (stSl id id id).ev.part = 0 := by decide +kernel
/-- An image of voc1 at 0x80000. -/
def vocImage (m : Mem) : Mem := ((((m.put 0x80000 4 1).put 0x80010 24 (0x1000 + 0x1000 * 2 ^ 64 + 0x1000 * 2 ^ 128)).put 0x80030 8 0x800).put 0x80800 8 (0x900 + 2 ^ 32)).put 0x80900 1 97
theorem wit_vload : (stSl (fun z => { z with arg := 0x80000 }) id vocImage).readVocab 0x80000 =
    some { voc1 with byteId := (List.range 256).map fun _ => 0, cls := (List.range 256).map fun _ => 0, split := (List.range 16).map fun _ => 0 } ∧
    Tbl.find? (stSl (fun z => { z with arg := 0x80000 }) id vocImage).sl.voc 0 = none ∧ (stSl id id id).readVocab 0 = none := by decide +kernel
/-- An accepted or admitted request of slot 0 with one prompt token. -/
def req1 (st : ReqSt) : Req :=
  { part := 0, ctx := 1, slot := 0, st := st, reqid := 9, flags := 0, vocab := 0, hdr := List.replicate 64 0, nprompt := 1, stops := [] }
theorem wit_vunload : ∃ (s v : State), Tbl.find? s.sl.voc 0 = some voc1 ∧ (∀ r ∈ s.sl.reqs, r.vocab.toNat ≠ 0) ∧
    Tbl.find? v.sl.voc 0 = some voc1 ∧ ∃ r ∈ v.sl.reqs, r.vocab.toNat = 0 :=
  ⟨stSl (fun z => { z with voc := [(0, voc1)] }) id id, stSl (fun z => { z with voc := [(0, voc1)], reqs := [req1 .accepted] }) id id,
    by decide +kernel, by decide +kernel, by decide +kernel, req1 .accepted, by decide +kernel, by decide +kernel⟩
/-- A tree of the root and one child at 0x60100 with the stamp given, in use or not. -/
def treeImage (stamp ref : Nat) (m : Mem) : Mem :=
  ((((m.put 0x700B0 8 0x60100).put 0x601A8 8 0x70000).put 0x601C0 4 ref).put 0x601C5 1 1).put 0x601C8 8 stamp
/-- Context 1's tree, with the node at 0x60100. -/
def tree1 : Tree := { part := 0, ctx := 1, entry := 0x51040, root := 0x70000, base := 0x60000, count := 4, nodes := [0x60100] }
/-- Context 1 is served. -/
def served (z : Sluice) : Sluice := { z with served := [{ part := 0, ctx := 1 }], trees := [tree1], voc := [(0, voc1)], arg := 10 }
/-- The tree of context 1 in a state. -/
def pool1 (s : State) : Pool := (s.slEntry 0 1).pool 0 1
theorem wit_prune : ∃ s : State, s = stSl served id (treeImage 5 0) ∧ s.sl.serves 0 1 = true ∧ s.mem.wf = true ∧ (pool1 s).root = 0x70000 ∧
    s.nodeChild (pool1 s) 0x70000 = 0x60100 ∧ s.isNode (pool1 s) 0x60100 = true ∧ s.nodeNext (pool1 s) 0x60100 = 0 ∧
    s.nodeParent (pool1 s) 0x60100 = 0x70000 ∧ s.nodeV (pool1 s) 0x60100 = true ∧
    s.nodeChild (pool1 s) 0x60100 = 0 ∧ s.nodeRef (pool1 s) 0x60100 = 0 ∧ s.nodeStamp (pool1 s) 0x60100 < s.sl.arg.toNat :=
  ⟨_, rfl, by decide +kernel⟩
theorem wit_prune_outside : ∃ s : State, s.sl.serves 0 1 = true ∧ s.nodeChild (pool1 s) (pool1 s).root = 0x3000000000 ∧
    s.isNode (pool1 s) 0x3000000000 = false ∧ s.isNode (pool1 s) 0x60080 = false :=
  ⟨stSl served id fun m => m.put 0x700B0 8 0x3000000000, by decide +kernel⟩
theorem wit_prune_kept : (stSl served id (treeImage 5 1)).nodeRef (pool1 (stSl served id (treeImage 5 1))) 0x60100 ≠ 0 ∧ (stSl id id id).sl.serves 0 1 = false := by decide +kernel

/-- A request message for context 1 with REQID 9 and the text "a". -/
def msg1 : List Byte :=
  leBytes 2 1 ++ leBytes 2 64 ++ leBytes 4 1 ++ leBytes 8 9 ++ leBytes 2 0 ++ leBytes 2 1 ++ leBytes 4 0 ++ leBytes 4 0 ++ leBytes 4 1 ++ leBytes 4 1
    ++ List.replicate 28 0 ++ [97]
/-- Its packet. -/
def pkt1 : Packet := { supported := true, job := 0, message := msg1 }
theorem wit_packet : pkt1.supported = true ∧ ({ pkt1 with supported := false } : Packet).supported = false ∧ (stSl id id id).sl.inbox = [] := by
  decide +kernel
/-- The request's packet waits. -/
def stReq (l : List Req) : State := stSl (fun z => { served z with inbox := [pkt1], reqs := l }) id id
theorem wit_request_taken : ∃ (t : State) (r : Req) (a : Nat) (w : State), (stReq []).sl.inbox = [pkt1] ∧
    t = (stReq []).modSl (fun z => { z with inbox := [] }) ∧ t.answer pkt1 = .take r [0] a ∧
    t.slWrite r.part r.ctx a ([0].flatMap (leBytes 4)) = some w :=
  ⟨_, { req1 .tokenised with hdr := msg1.take 64 }, 0x1010000, (stReq []).modSl (fun z => { z with inbox := [] }),
    by decide +kernel, rfl, by decide +kernel, by decide +kernel⟩
theorem wit_request_copy : ∃ r : Req, ((stReq [req1 .accepted]).modSl (fun z => { z with inbox := [] })).answer pkt1 = .copy ∧
    (stReq [req1 .accepted]).sl.reqs.find? (fun r => r.part.toNat == hdrGet pkt1.message 16 1 && r.ctx.toNat == hdrGet pkt1.message 18 2 &&
      r.reqid.toNat == hdrGet pkt1.message 8 8) = some r ∧ r.st ≠ .tokenised :=
  ⟨req1 .accepted, by decide +kernel⟩
theorem wit_request_rejected : formatOk ([] : List Byte) = false ∧ formatOk msg1 = true ∧
    (stSl id id id).sl.serves (.ofNat 2 (hdrGet msg1 16 1)) (.ofNat 16 (hdrGet msg1 18 2)) = false := by decide +kernel
theorem wit_accept : (stReq [req1 .tokenised]).sl.reqs.find? (fun r => r.st == .tokenised) = some (req1 .tokenised) ∧
    (stReq []).sl.reqs.find? (fun r => r.st == .tokenised) = none := by decide +kernel

/-- An output queue and a RELQ of context 1. -/
def zOut : Queue := { kind := .sluice, elog := 0, depth := 4, ctxA := 1, rightA := 2, ctxB := 0, rightB := 0 }
def zRelq : Queue := { zOut with rightA := 1 }
/-- Record 3 is IDLE, for context 1; the output queue and RELQ are open. -/
def slPart (items : List QItem) (P : Part) : Part :=
  { P with recs := [(3, { st := .idle, ctx := 1 })], queues := [(0x20, { zOut with items := items }), (0x30, zRelq)] }
theorem wit_admission : ∃ (s u : State), s = stSl (fun z => { served z with reqs := [req1 .accepted] }) (slPart []) id ∧
    s.sl.reqs.find? (fun r => r.part == 0 && r.ctx == s.ev.ctx && (r.st == .tokenised || r.st == .accepted)) = some (req1 .accepted) ∧
    (req1 .accepted).st = .accepted ∧ s.admitReq (req1 .accepted) = some u ∧ s.mem.wf = true := by
  obtain ⟨u, hu⟩ := Option.isSome_iff_exists.1 (by decide +kernel :
    ((stSl (fun z => { served z with reqs := [req1 .accepted] }) (slPart []) id).admitReq (req1 .accepted)).isSome = true)
  exact ⟨_, u, rfl, by decide +kernel, rfl, hu, by decide +kernel⟩
theorem wit_admission_waits : (req1 .tokenised).st = .tokenised ∧
    (stSl (fun z => { served z with reqs := [req1 .accepted] }) id id).admitReq (req1 .accepted) = none := by decide +kernel

/-- An output entry of 8 bytes in slot 0's queue. -/
def stOut (w : Nat) : State :=
  stSl (fun z => { served z with reqs := [req1 .admitted] }) (slPart [{ num := 0, data := leBytes 8 w, st := .ready }]) id
theorem wit_output : ∃ (z : Queue) (i : QItem), ((stOut 0).part 0).queue (((stOut 0).slEntry 0 (stOut 0).ev.ctx).oq (stOut 0).ev.slot) = some z ∧
    (stOut 0).ev.slot.toNat < ((stOut 0).slEntry 0 (stOut 0).ev.ctx).nslot ∧ z.isOutputOf (stOut 0).ev.ctx = true ∧ z.next none = some i ∧ (BitVec.ofNat 64 (leNat i.data)).getLsbD 31 = false ∧
    (stOut 0).sl.reqs.find? (fun r => r.part == 0 && r.ctx == (stOut 0).ev.ctx && r.slot == (stOut 0).ev.slot) = some (req1 .admitted) ∧
    (req1 .admitted).st = .admitted ∧ (req1 .admitted).stopped = false ∧ (req1 .admitted).stops = [] ∧
    ((Tbl.find? (stOut 0).sl.voc (req1 .admitted).vocab.toNat).bind fun v => v.strs[bits (BitVec.ofNat 64 (leNat i.data)) 23 0]?) = some [97] :=
  ⟨{ zOut with items := [{ num := 0, data := leBytes 8 0, st := .ready }] },
    { num := 0, data := leBytes 8 0, st := .ready }, by decide +kernel⟩
theorem wit_output_end : (BitVec.ofNat 64 (leNat (leBytes 8 0x80000001))).getLsbD 31 = true ∧ (req1 .accepted).st ≠ .admitted := by decide +kernel
theorem wit_relq : ∃ (s : State) (z : Queue), s.sl.relq = [(0, 1, 0x20000, none)] ∧ s.relqRoom 0 1 = true ∧
    (s.part 0).queue (BitVec.ofNat 16 (s.slEntry 0 1).relq) = some z :=
  ⟨stSl (fun z => { served z with relq := [(0, 1, 0x20000, none)] }) (slPart []) id, zRelq, by decide +kernel⟩
theorem wit_relq_full : ({ zRelq with depth := 0 } : Queue).room none = 0 ∧ (stSl id id id).relqRoom 0 1 = false ∧
    (stSl id id id).sl.relq = [] := by decide +kernel

/-! ### Witnesses: encoding, the step, fetching, every step -/

theorem wit_encode : (Instr.vqnt 4#6 32#6 .e2m1x .rne false).wf = true ∧ isEvent (Instr.vqnt 4#6 32#6 .e2m1x .rne false) = false := by decide +kernel
theorem wit_unassigned : majorUnassigned (fMajor 0xF8000000#32) = true ∧ majorUnassigned (fMajor 0xC03042B2#32) = false ∧
    Strand.a ≠ strandOfMajor (fMajor 0xC03042B2#32) := by decide +kernel
/-- The placed word's strand has its turn. -/
theorem wit_step : ∃ (s t : State) (w : W32) (i : Instr), s = State.reset.placeWord 0x24512346 ∧ s.agenda = .strand 1 .a :: [] ∧
    t = { s with agenda := [] } ∧ t.canRun 1 .a = true ∧ t.boundary 1 = none ∧ t.fetchWord 1 ((t.core 1).pcOf .a) = .ok w ∧
    isLongWord w = false ∧ decode .a (t.core 1).isSup w 0 = .ok i :=
  ⟨_, { State.reset.placeWord 0x24512346 with agenda := [] }, 0x24512346, .lih 5#6 0x091A3#19, rfl, by decide +kernel, by decide +kernel, by decide +kernel, by decide +kernel,
    ok_of (by decide +kernel), by decide +kernel, ok_of (by decide +kernel)⟩
theorem wit_step_long : ∃ (t : State) (w x : W32), t = { State.reset.placeWord (0x80000011 + 0xFFF18000 * 2 ^ 32) with agenda := [] } ∧
    t.fetchWord 1 ((t.core 1).pcOf .a) = .ok w ∧ isLongWord w = true ∧ t.fetchWord 1 ((t.core 1).pcOf .a + 4) = .ok x :=
  ⟨_, 0x80000011, 0xFFF18000, rfl, ok_of (by decide +kernel), by decide +kernel, ok_of (by decide +kernel)⟩
theorem wit_step_fetch_faults : ∃ f : Flt, ({ stK fun k => { k with a := { k.a with pc := 0x20000000 } } with agenda := [] } : State).fetchWord 1 0x20000000 = .error f := by
  have h : (match ({ stK fun k => { k with a := { k.a with pc := 0x20000000 } } with agenda := [] } : State).fetchWord 1 0x20000000 with
      | .error _ => true
      | .ok _ => false) = true := by decide +kernel
  split at h
  · exact ⟨_, by assumption⟩
  · cases h
theorem wit_fetch : ∃ l : Xl, st0.xlate 1 (st0.core 1).ctx .fetch 0x1000 4 = .ok l ∧ st0.poisoned l.pa = false ∧
    ({ st0 with poison := [32] } : State).poisoned 0x1000 = true :=
  ⟨xl0 0x1000, ok_of (by decide +kernel), by decide +kernel, by decide +kernel⟩
theorem wit_every_step : ∃ s s' : State, s.mem.wf = true ∧ step s = .next s' :=
  ⟨State.reset.placeWord 0x24512346, _, by decide +kernel, rfl⟩


/-! ### Results of one step, from the spec's tables and worked examples -/

/-- Scalar register r after an outcome. -/
def regOf (o : Host.Outcome State Fault Refusal) (r : Reg) : Option Word :=
  match o with
  | .next t => some (t.here.reg r)
  | _ => none
/-- The A-strand's PC after an outcome. -/
def pcOfA (o : Host.Outcome State Fault Refusal) : Option Word :=
  match o with
  | .next t => some t.here.a.pc
  | _ => none
/-- The code of the fault that holds the current core after an outcome. -/
def heldBy (o : Host.Outcome State Fault Refusal) : Option (BitVec 8) :=
  match o with
  | .next t => t.here.hold.map (·.code)
  | _ => none

/-- Table 07.1: arithmetic wraps modulo 2^64. -/
theorem test_add_wraps : regOf (exec (.add 7 5 6 false) (stAB 0xFFFFFFFFFFFFFFFF 2)) 7 = some 1 := by decide +kernel
theorem test_add_source_is_destination : regOf (exec (.add 5 5 5 false) (stAB 21 0)) 5 = some 42 := by decide +kernel
theorem test_sub_borrows : regOf (exec (.sub 7 5 6 false) (stAB 1 2)) 7 = some 0xFFFFFFFFFFFFFFFF := by decide +kernel
/-- (-1) x (-1) = 1: its upper half is 0 signed, 2^64 - 2 unsigned. -/
theorem test_mulh_signed : regOf (exec (.mulh 7 5 6 false) (stAB 0xFFFFFFFFFFFFFFFF 0xFFFFFFFFFFFFFFFF)) 7 = some 0 := by decide +kernel
theorem test_mulhu_unsigned : regOf (exec (.mulhu 7 5 6 false) (stAB 0xFFFFFFFFFFFFFFFF 0xFFFFFFFFFFFFFFFF)) 7 = some 0xFFFFFFFFFFFFFFFE := by
  decide +kernel
/-- Table 07.1: division by zero gives ones and the dividend. -/
theorem test_divu_by_zero : regOf (exec (.divu 7 5 6 false) (stAB 9 0)) 7 = some 0xFFFFFFFFFFFFFFFF := by decide +kernel
theorem test_remu_by_zero : regOf (exec (.remu 7 5 6 false) (stAB 9 0)) 7 = some 9 := by decide +kernel
theorem test_andn : regOf (exec (.andn 7 5 6 false) (stAB 0xFF 0x0F)) 7 = some 0xF0 := by decide +kernel
/-- A shift count takes only the low six bits. -/
theorem test_shl_count_is_six_bits : regOf (exec (.shl 7 5 6 false) (stAB 3 65)) 7 = some 6 := by decide +kernel
theorem test_sar_fills_sign : regOf (exec (.sar 7 5 6 false) (stAB 0x8000000000000000 63)) 7 = some 0xFFFFFFFFFFFFFFFF := by decide +kernel
theorem test_rotr : regOf (exec (.rotr 7 5 6 false) (stAB 1 1)) 7 = some 0x8000000000000000 := by decide +kernel
theorem test_min_is_signed : regOf (exec (.min 7 5 6 false) (stAB 0xFFFFFFFFFFFFFFFF 1)) 7 = some 0xFFFFFFFFFFFFFFFF := by decide +kernel
theorem test_sltu_is_unsigned : regOf (exec (.sltu 7 5 6 false) (stAB 0xFFFFFFFFFFFFFFFF 1)) 7 = some 0 := by decide +kernel
theorem test_clz_of_zero : regOf (exec (.clz 7 5 false) (stAB 0 0)) 7 = some 64 := by decide +kernel
/-- R142's worked example. -/
theorem test_bfxu_example : regOf (exec (.bfxu 7 5 6 false) (stAB 0xDEADBEEF 0x0810)) 7 = some 0xAD := by decide +kernel
theorem test_bfx_example : regOf (exec (.bfx 7 5 6 false) (stAB 0xDEADBEEF 0x0810)) 7 = some 0xFFFFFFFFFFFFFFAD := by decide +kernel
theorem test_bfxu_width_is_cut : regOf (exec (.bfxu 7 5 6 false) (stAB 0xDEADBEEF 0x003C)) 7 = some 0 := by decide +kernel
theorem test_selnz_reads_destination : regOf (exec (.selnz 5 6 7 false) (stAB 1 9)) 5 = some 9 := by decide +kernel
/-- s0 reads 0 and discards writes. -/
theorem test_s0_discards : regOf (exec (.add 0 5 6 false) (stAB 1 2)) 0 = some 0 := by decide +kernel
/-- Table 07.2 and the worked words of chapter 07: LIH shifts by 13, ADDI sign-extends. -/
theorem test_addi_negative : regOf (exec (.addi 7 5 0x1FFF) (stAB 0 0)) 7 = some 0xFFFFFFFFFFFFFFFF := by decide +kernel
/-- R144: the offset counts words from the branch. -/
theorem test_beq_taken_backwards : pcOfA (exec (.beq 5 6 0x1FFF) (stAB 4 4)) = some 0xFFC := by decide +kernel
theorem test_blt_is_signed : pcOfA (exec (.blt 5 6 4) (stAB 0xFFFFFFFFFFFFFFFF 0)) = some 0x1010 := by decide +kernel
theorem test_bltu_is_unsigned : pcOfA (exec (.bltu 5 6 4) (stAB 0xFFFFFFFFFFFFFFFF 0)) = some 0x1004 := by decide +kernel
/-- R148: a byte of ones loads as -1 and is delivered when it returns. -/
theorem test_ldb_sign_extends : (match exec (.ldb 7 5 0 0) { stAB 0x2000 0 with mem := (stAB 0x2000 0).mem.put 0x2000 1 0xFF } with
    | .next t => t.here.a.pend.map (·.val)
    | _ => []) = [0xFFFFFFFFFFFFFFFF] := by decide +kernel
/-- R3: the first byte in memory is the least significant. -/
theorem test_stw_is_little_endian : (match exec (.stw 6 5 0 0) (stAB 0x2000 0x0000000011223344) with
    | .next t => t.mem.readN 0x2000 5
    | _ => []) = [0x44, 0x33, 0x22, 0x11, 0] := by decide +kernel
/-- R148 steps 1 and 2: an address beyond 56 bits, and one that is not a multiple of the size. -/
theorem test_ldd_misaligned : heldBy (exec (.ldd 7 5 0 0) (stAB 0x2004 0)) = some (faultNum .align) := by decide +kernel
theorem test_ldd_beyond_56_bits : heldBy (exec (.ldd 7 5 0 0) (stAB 0x100000000002004 0)) = some (faultNum .prot) := by decide +kernel
theorem test_ldd_unmapped : heldBy (exec (.ldd 7 5 0 0) (stAB 0x20000000 0)) = some (faultNum .page) := by decide +kernel
/-- R153: scratchpad stores and loads are of the core's own bytes. -/
theorem test_spsth : (match exec (.spsth 6 5 0 false) (stAB 0x40 0xABCD) with
    | .next t => t.here.spm.mem.readN 0x40 3
    | _ => []) = [0xCD, 0xAB, 0] := by decide +kernel
/-- R165: a flag's sum saturates or adds as Table 07.6 says: 3 + 4. -/
theorem test_finc : (match exec (.finc 3 5 false) ((stAB 4 0).modHere (·.setFlag 3 3)) with
    | .next t => t.here.flag 3
    | _ => 0) = 7 := by decide +kernel
/-- R145: an instruction of the other strand faults WRONG_STRAND when its turn comes. -/
theorem test_wrong_strand_faults : (match step { stAB 0 0 with mem := bootMem 0xC03042B2, agenda := [.strand 1 .a] } with
    | .next t => (t.core 1).hold.map (·.code)
    | _ => none) = some (faultNum .wrongStrand) := by decide +kernel
/-- IEEE 754 arithmetic of one lane: 1 + 2 = 3, and 1 x 2 + 3 = 5. -/
theorem test_vaddf32_lane : (match exec (.vaddF32 3 1 2 0 false) (stV 0x3F800000 0x40000000) with
    | .next t => lane 32 (t.here.vreg 3) 0
    | _ => 0) = 0x40400000 := by decide +kernel
/-- R183: the wrapping form. -/
theorem test_vaddi8_wraps : (match exec (.vaddI8 3 1 2 0 false) (stV 0x7F 0x01) with
    | .next t => lane 8 (t.here.vreg 3) 0
    | _ => 0) = 0x80 := by decide +kernel

/-! ### Witnesses: further clauses -/

/-- A nest that drains one granule of accumulator 0 as INT8 codes and masks, and releases its slots at level 0. -/
def nestDr : List Word := [1 + 2 ^ 39 + 2 ^ 40 + 2 ^ 41, 0, 0, 0, 0, 0, 0x02010001 + 2 ^ 9 + 9 * 2 ^ 10, 0x80 + 2 ^ 26 + 2 ^ 34]
/-- A core whose nest r stands as run says, in a gang of two where i is given. -/
def stMe (r : List Word) (run : MeRun) (i : Option (BitVec 8)) : State :=
  let t := stNest none
  let k (k : Core) : Core := { k with
    eng := { k.eng with me := { k.eng.me with cmds := [{ op := .go r 0, tok := tk4 }], run := some run } }
    info := { k.info with gang := i, size := if i.isSome then 2 else 1, splitok := i.isSome } }
  t.modCore 1 k
/-- Between steps: level 0 is to be handled. -/
def runEx (e x d : Nat) (o : Bool) : MeRun :=
  { ix := [1, 0, 0, 0, 0, 0], steps := 1, checked := true, last := some (0, 1, 0), exits := e, exited := x, walked := o, drained := d }
theorem wit_level_exits : ∃ s : State, s = stMe nestDr (runEx 2 0 0 false) none ∧ s.engineOn 1 = true ∧ (s.core 1).hold = none ∧
    (s.core 1).eng.me.cmds = [{ op := .go nestDr 0, tok := tk4 }] ∧ (s.core 1).splitMode nestDr = .off ∧
    (s.core 1).eng.me.run = some (runEx 2 0 0 false) ∧ nestBit nestDr 0 39 = true ∧ nestBit nestDr 0 40 = true ∧ nestBit nestDr 0 41 = true ∧
    ((s.core 1).slot 0).ready = true ∧ ((s.core 1).slot 0).pairOdd = false := ⟨_, rfl, by decide +kernel⟩
theorem wit_last_exits : (drainList nestDr)[0]? = some 0 ∧ (drainList nestDr).length = 1 ∧ (drainList nest).length = 0 ∧
    (runEx 6 5 0 false).exited + 1 = (runEx 6 5 0 false).exits ∧ (runEx 6 5 0 false).drained < (drainList nestDr).length ∧
    (drainList nest).length ≤ (runEx 6 5 0 false).drained ∧ (runEx 2 1 0 false).exited + 1 = (runEx 2 1 0 false).exits := by decide +kernel
theorem wit_drain_granule : ∃ s : State, s = stMe nestDr (runEx 0 0 0 true) none ∧ (s.core 1).eng.me.run = some (runEx 0 0 0 true) ∧
    (s.core 1).splitMode nestDr = .off ∧ dstSetf nestDr = true ∧ (s.core 1).spm.mem.wf = true ∧
    (runEx 0 0 0 true).drained + 1 = (drainList nestDr).length ∧ 0 + 1 < (drainList (nestDr.set 7 (0x80 + 3 * 2 ^ 26))).length :=
  ⟨_, rfl, by decide +kernel⟩
/-- A SPLIT nest of level 0. -/
def nestSp : List Word := [1, 0, 0, 0, 0, 0, 0x02010011, 0]
theorem wit_split_claims : ∃ s : State, s = stMe nestSp { ix := [0, 0, 0, 0, 0, 0] } (some 7) ∧ s.engineOn 1 = true ∧
    (s.core 1).splitMode nestSp = .shared 7 ∧ ((s.part (s.partOf 1)).group 7).ctr 0 = {} ∧ ({} : SplitCtr).next ≤ nestTrip nestSp (cfgSplv nestSp) ∧
    cfgSplv nestSp < 6 := ⟨_, rfl, by decide +kernel⟩
theorem wit_split_over : ∃ s : State, s = (stMe nestSp { runEx 0 0 0 false with checked := true } (some 7)).modGroup 0 7 (·.setCtr 0 { next := 2 }) ∧
    (s.core 1).splitMode nestSp = .shared 7 ∧ nestTrip nestSp (cfgSplv nestSp) < (((s.part (s.partOf 1)).group 7).ctr 0).next ∧
    (runEx 0 0 0 false).last ≠ none := ⟨_, rfl, by decide +kernel⟩
/-- A pair of a scaled and an unscaled format in slots 0 and 1. -/
theorem wit_bad_pair : (((stMe nest { ix := [0, 0, 0, 0, 0, 0] } none).modCore 1 (·.setSlot 1 { tile8 with fmt := 0 })).core 1).badPair nest ≠ none := by
  decide +kernel
theorem wit_pair_claims_stop : (1#3).toNat % 2 = 1 ∧ ((stNest none).here.slot (0 + 1)).st ≠ .free ∧ 9 ≤ (9#12).toNat := by decide +kernel

/-- The record of `stCe` with INC set and flag 3. -/
def recInc : Rec := rec0 ||| 1#512 <<< 70 ||| 3#512 <<< 71
theorem wit_record_counts : rInc recInc = true ∧ rKind recInc ≠ 5 ∧ rNext recInc = 0 ∧
    (match (State.perform { stCe true with cur := 1 } recInc 0).1 with
      | .ok t n => t.cur == 1 && n == 0 && !(t.here.chan 2).abort && (t.here.chan 2).held == [{ first := 0x2000, tok := tk4 }]
      | _ => false) = true := by decide +kernel
theorem wit_record_poisoned : ∃ s : State, s = { stCe true with poison := [0x40] } ∧ ((s.core 1).chan 2).running = true ∧
    ((s.core 1).chan 2).abort = false ∧ s.xlate 1 (s.core 1).ctx .read ((s.core 1).chan 2).next 64 = .ok (xl0 0x2000) ∧
    s.poisoned (xl0 0x2000).pa = true := ⟨_, rfl, by decide +kernel, by decide +kernel, ok_of (by decide +kernel), by decide +kernel⟩

/-- Core 1's SE is about to run an operation on a context of two rows, with SIGCAP n. -/
def stSe (op : SeOp) (n : Nat) : State :=
  let t := stP 1 fun P => { P with rows := [{ ctx := 1, tag := 3, page := 7, sig := 5, loc := some 1 }, { ctx := 1, tag := 3, page := 9, sig := 6 }] }
  (t.modPart 0 fun P => { P with ctxs := [(1, { st := 1, root := .ofNat 64 bootL1, slots := 4, sigcap := .ofNat 32 n })] }).modCore 1 fun k =>
    { k with eng := { k.eng with se := [{ op := op, tok := tk4 }] } }
theorem wit_se_insert : ∃ s : State, s = stSe (.ins 0x40 3 8) 3 ∧ (s.core 1).mayStart tk4 = .go ∧ (s.core 1).spm.badIn (0x40#19).toNat 32 = false ∧
    (s.part (s.partOf 1)).rows.any (·.hasKey 1 3 8) = false ∧
    (s.part (s.partOf 1)).rows.countP (·.ctx == 1) < ((s.part (s.partOf 1)).ctx 1).sigcap.toNat ∧
    (s.part (s.partOf 1)).rows.countP (·.of 1 3) < 262144 := ⟨_, rfl, by decide +kernel⟩
theorem wit_se_replaces : ((stSe (.ins 0x40 3 7) 2).part 0).rows.any (·.hasKey 1 3 7) = true := by decide +kernel
theorem wit_se_capacity : ∃ s : State, s = stSe (.ins 0x40 3 8) 2 ∧ (s.part (s.partOf 1)).rows.any (·.hasKey 1 3 8) = false ∧
    ((s.part (s.partOf 1)).ctx 1).sigcap.toNat ≤ (s.part (s.partOf 1)).rows.countP (·.ctx == 1) := ⟨_, rfl, by decide +kernel⟩
theorem wit_se_age : ∃ s : State, s = stSe (.age 0x40 3) 2 ∧ (s.core 1).mayStart tk4 = .go ∧
    (s.core 1).spm.badIn (0x40#19).toNat (8 + 8 * ((s.core 1).spm.mem.get (0x40#19).toNat 1 % 128)) = false := ⟨_, rfl, by decide +kernel⟩
theorem wit_se_quota_runs : ∃ s : State, s = stSe .quota 2 ∧ (s.core 1).eng.se = [{ op := .quota, tok := tk4 }] ∧ (s.core 1).mayStart tk4 = .go ∧
    (s.core 1).ctl.sequota.toNat < arrayCount 1 (s.part 0).rows := ⟨_, rfl, by decide +kernel⟩
/-- A select descriptor of tag 3: one entry, 10 pages, the list at 0x800. -/
def selDesc : BitVec 512 := 10#512 <<< 256 ||| 3#512 <<< 288 ||| 1#512 <<< 320 ||| 0x800#512 <<< 448
theorem wit_se_select : selOk selDesc = true ∧ ∃ s : State, s = (stSe (.sel 0x40) 2).modCore 1 (fun k => { k with spm := k.spm.write 0x40 (leBytes 64 selDesc.toNat) }) ∧
    BitVec.ofNat 512 ((s.core 1).spm.mem.get (0x40#19).toNat 64) = selDesc ∧ (s.core 1).spm.mem.wf = true ∧ (s.core 1).spm.badIn (0x40#19).toNat 64 = false ∧
    ∀ r ∈ (s.part (s.partOf 1)).rows, r.bad = false := ⟨by decide +kernel, _, rfl, by decide +kernel⟩

theorem wit_snapt_illegal : ∃ (s s1 : State) (v : Word), s.clear [5#6] [7#6] = true ∧ s.Reads 5 v s1 ∧ 2 ^ 16 ≤ v.toNat ∧ 2 ^ 9 ≤ v.toNat :=
  ⟨stSupAB 0x10000 0, _, _, by decide +kernel, reads_reg rfl, by decide +kernel, by decide +kernel⟩
/-- CORESTOP of core 1, which runs a task. -/
theorem wit_corestop_begins : ∃ (s s1 : State) (v : Word), s.clear [5#6] [7#6] = true ∧ s.Reads 5 v s1 ∧ 2 ^ 8 ≤ v.toNat ∧ v.toNat < 2 ^ 9 ∧
    s1.myPart.isTaskCore (v.setWidth 8) = true ∧ (s1.core (v.setWidth 8)).occ = .task :=
  ⟨stSupAB 0x101 0, _, _, by decide +kernel, reads_reg rfl, by decide +kernel, by decide +kernel, by decide +kernel, by decide +kernel⟩
theorem wit_swrctl_user : ((stSupAB 0x2000 0).writeCtl 0x08 0x2000).toOption.isSome = true ∧
    ((stSupAB 0x2000 0).writeCtl 0x00 6).toOption.isSome = false ∧ ((stSupAB 0 0).supRead 0x08).isSome = true := by decide +kernel
theorem wit_lrpatch_unbuilt : ∃ (s s1 s2 s3 : State) (x f v : Word), s.clear [5#6, 6#6, 7#6] [] = true ∧ s.Reads 5 x s1 ∧ s1.Reads 6 f s2 ∧
    s2.Reads 7 v s3 ∧ x = (4#12).setWidth 64 ∧ (s3.myPart.lrec 4).st = .unbuilt :=
  ⟨stR .idle 4 12 3, _, _, _, _, _, _, by decide, reads_reg rfl, reads_reg rfl, reads_reg rfl, by decide, by decide +kernel⟩
theorem wit_scall_waits : ∃ s : State, s.here.a.scall = none ∧ s.here.a.bad = [] ∧
    [8#6, 9#6, 10#6, 11#6, 12#6, 13#6, 14#6, 15#6].find? s.here.isEmpty = some 9#6 :=
  ⟨stK (·.awaitReg { reg := 9, val := 1, pc := 0x1000 }), by decide, by decide, by decide⟩

/-- Core 1 held on a fault of its X-strand of this clk, whose record waits. -/
def stSameClk : State := (st0.modCore 1 fun k => { k with x := { k.x with run := .running } }).takeFault 1 .x { code := .illegal }
theorem wit_second_fault : ∃ h : Hold, (stSameClk.core 1).hold = some h ∧ h.kind = .fault ∧ h.strand = .x ∧ h.clk = stSameClk.clk ∧
    stSameClk.faultWaits 1 = true ∧ (stSameClk.core 1).isSup = false := ⟨{ kind := .fault, code := faultNum .illegal, strand := .x, clk := 0, left := [.a] }, by decide +kernel⟩
theorem wit_supervisor_within_atomic : ∃ s : State, (s.core 0).isSup = true ∧ (s.core 0).a.begun ≠ [] :=
  ⟨stSup.modCore 0 fun k => { k with a := { k.a with begun := [1] } }, by decide +kernel⟩
theorem wit_site : ∃ f : Flt, f.site = some (0x1000, 0) := ⟨{ code := .page, site := some (0x1000, 0) }, rfl⟩

/-- `stStage` with the stage's code at an address that is no multiple of 4 (R13). -/
def stStage2 : State := stStage.modPart 0 fun P => { P with
  recs := [(3, { st := .running, ctx := 1, kind := 2, rqbase := 16, pipe := { cores := 1, stages := [{ stage0 with code := 0x1002 }], rills := [⟨4, 3, true, false⟩, ⟨4, 3, false, true⟩] } })] }
theorem wit_stage_illegal : (stStage2.part 0).stageOf 2 = some (3, 0) ∧ (stStage2.core 2).occ = .idle ∧
    ((stStage2.part 0).stageItem 3 ((stStage2.part 0).lrec 3) { stage0 with code := 0x1002 }) = some 0 ∧
    (((stStage2.part 0).lrec 3).stageInfo 3 0 { stage0 with code := 0x1002 } 0).cont.startable = false ∧
    (((stStage.part 0).lrec 3).stageInfo 3 0 stage0 0).cont.startable = true := by decide +kernel

/-- Core 1's task, restored, with one granule absent; its save area is pinned, or not. -/
def stFill (pin : Bool) : State :=
  let t := stPin 1 (fun k => { k with absent := [(0x10000, 0x2000)] }) id id
  if pin then t else { t with mem := bootMem 0 }
theorem stands_stFill : Stands ((stFill true).part 0) (stFill true) := by
  refine ⟨rfl, ⟨?_, ?_, ?_, ?_, ?_⟩, ?_, ?_, ?_⟩ <;> decide +kernel
theorem wit_fill : ∃ bs, (stFill true).getSave ((stFill true).partOf 1) ((stFill true).core 1).info.cont.ctx
    ((stFill true).imageVa ((stFill true).partOf 1) 1 + 0x10000) 0x2000 = some bs ∧ ((stFill true).core 1).absent = [(0x10000, 0x2000)] := by
  have hp : (stFill true).partOf 1 = 0 := by decide +kernel
  have hc : ((stFill true).core 1).info.cont.ctx = 1#16 := by decide +kernel
  have hv : (stFill true).imageVa 0 1 = 0x1000000 := by decide +kernel
  rw [hp, hc, hv]
  obtain ⟨l, hl⟩ := stands_getSave stands_stFill (by decide +kernel) (by decide +kernel) (va := 0x1000000 + 0x10000) (n := 0x2000) (by decide) (by decide)
  exact ⟨l, hl, by decide +kernel⟩
theorem wit_fill_fails : (stFill false).getSave ((stFill false).partOf 1) ((stFill false).core 1).info.cont.ctx
    ((stFill false).imageVa ((stFill false).partOf 1) 1 + 0x10000) 0x2000 = none ∧ ((stFill false).core 1).absent = [(0x10000, 0x2000)] := by decide +kernel

/-- A stamped word at 0x1000 whose tick has come, s5 and the shadow of the descriptor register as given. -/
def stStampOf (w : Nat) (ir ext : W32) (x : Word) (sh : Tbl Word) : State :=
  { (State.reset.placeWord w).modCore 1 fun k => ({ k with
      info := { k.info with cont := { k.info.cont with det := true } }
      a := { k.a with wait := some .stamp, ir := ir, ext := ext }
      eng := { k.eng with me := { k.eng.me with shadow := sh } }
      ctl := { k.ctl with fc := 5 } } : Core).setReg 5 x with cur := 1, ev := { core := 1 } }
/-- ME.GO, ME.MSK s5, CE.GO channel 2 of s5 and SE.SEL s5, each with stamp 5 and produce token 3. -/
def stGoAt : State := stStampOf (0x80000009 + 0x00518000 * 2 ^ 32) 0x80000009 0x00518000 0 [(6, 0x02010000)]
def stMskAt : State := stStampOf (0x80014011 + 0x00518000 * 2 ^ 32) 0x80014011 0x00518000 0x7F800 []
def stCeAt : State := stStampOf (0x84214001 + 0x00518000 * 2 ^ 32) 0x84214001 0x00518000 0x2000 []
def stSelAt : State := stStampOf (0x8801400D + 0x00518000 * 2 ^ 32) 0x8801400D 0x00518000 0x40 []
def ext5 : Ext := { stamp := 5, prod := 3, cona := 0, conb := 0, conc := 0 }
theorem wit_stamped_go : ∃ t : State, stGoAt.canRun 1 .a = true ∧ (stGoAt.core 1).ctl.fc = (Ext.ofWord (stGoAt.core 1).a.ext).stamp ∧
    stGoAt.fetch 1 .a = .run .meGo t ∧ t.here.eng.me.cmds.length < 2 ∧ t.accepts (Ext.ofWord t.here.a.ext) = true ∧
    t.here.goCheck t.here.shadowAll = none := ⟨_, by decide +kernel, by decide +kernel, rfl, by decide +kernel, by decide +kernel, by decide +kernel⟩
theorem wit_stamped_mask : ∃ (t t1 : State) (v : Word), stMskAt.canRun 1 .a = true ∧ stMskAt.fetch 1 .a = .run (.meMsk 5 false ext5) t ∧
    t.clear [5#6] [] = true ∧ t.Reads 5 v t1 ∧ t1.accepts ext5 = true ∧ t1.here.eng.me.cmds.length < 2 ∧ v.toNat + 2048 ≤ 0x80000 ∧
    v.toNat % 128 = 0 := ⟨_, _, _, by decide +kernel, rfl, by decide +kernel, reads_reg rfl, by decide +kernel, by decide +kernel, by decide +kernel, by decide +kernel⟩
theorem wit_stamped_chain : ∃ (t t1 : State) (v : Word), stCeAt.canRun 1 .a = true ∧ stCeAt.fetch 1 .a = .run (.ceGo 2 5 false ext5) t ∧
    t.clear [5#6] [] = true ∧ t.Reads 5 v t1 ∧ t1.accepts ext5 = true ∧ (t1.here.chan 2).held.length < 2 ∧ v.toNat < 2 ^ 56 ∧
    v.toNat % 64 = 0 := ⟨_, _, _, by decide +kernel, rfl, by decide +kernel, reads_reg rfl, by decide +kernel, by decide +kernel, by decide +kernel, by decide +kernel⟩
theorem wit_stamped_select : ∃ (t t1 : State) (v : Word), stSelAt.canRun 1 .a = true ∧ stSelAt.fetch 1 .a = .run (.seSel 5 false ext5) t ∧
    t.clear [5#6] [] = true ∧ t.Reads 5 v t1 ∧ t1.accepts ext5 = true ∧ t1.here.eng.se.length < 4 ∧ v.toNat + 64 ≤ 0x80000 ∧
    v.toNat % 64 = 0 := ⟨_, _, _, by decide +kernel, rfl, by decide +kernel, reads_reg rfl, by decide +kernel, by decide +kernel, by decide +kernel, by decide +kernel⟩

/-- The members of a gang of two in save slots 0 and 1, a record of core 1's task outstanding. -/
def stGangAns : State :=
  let m (r : BitVec 8) (n : BitVec 10) : Core → Core := fun k => { k with info := { k.info with gang := some 7, size := 2, rank := r, slot := n } }
  { (((st0.setCore 2 (m 1 1 (st0.core 1))).modCore 1 (m 0 0)).modPart 0 fun P => { P with
      ctxs := [(1, { st := 1, root := .ofNat 64 bootL1, slots := 4, use := [(0, { core := some 1 }), (1, { core := some 2 })] })]
      sup := { P.sup with out := [{ seq := 5, kind := 2, ctx := 1, slots := [0] }] } }) with ev := { core := 1, part := 0, seq := 5 } }
theorem wit_gang_abandon : ∃ o : Outst, (stGangAns.part 0).sup.out.find? (fun o => o.seq == stGangAns.ev.seq) = some o ∧ o.slots = [0] ∧
    (((stGangAns.part 0).ctx o.ctx).slotRec 0).core = some 1 ∧ o.kind.toNat ≤ 2 ∧ (stGangAns.core 1).info.inGang = true ∧
    (stGangAns.core 1).info.slot = 0 ∧ (stGangAns.core 1).info.cont.ctx = o.ctx ∧ 2 ≤ (stGangAns.gangOn 0 (stGangAns.core 1).info).length ∧
    ∀ d ∈ stGangAns.gangOn 0 (stGangAns.core 1).info, (((stGangAns.part 0).ctx o.ctx).slotRec (stGangAns.core d).info.slot).core = some d :=
  ⟨{ seq := 5, kind := 2, ctx := 1, slots := [0] }, by decide +kernel⟩
/-- A fault of core 1 in a gang whose other member may still issue in this clk. -/
def stGangFault : State := ((stTwo id).modPart 0 fun P => { P with sup := { P.sup with frbase := 0x8000 } }).takeFault 1 .a { code := .illegal }
theorem wit_gang_record_waits : ∃ (r : RingRec) (l : List RingRec), (stGangFault.part 0).sup.ring = r :: l ∧ (∃ q, l.head? = some q ∧ q.kind = 4) ∧
    stGangFault.gangStands (stGangFault.gangOfRec 0 r) = false := by
  have h : ∃ r l, (stGangFault.part 0).sup.ring = r :: l := by
    cases e : (stGangFault.part 0).sup.ring with
    | nil => exact absurd (congrArg List.length e) (by decide +kernel)
    | cons r l => exact ⟨r, l, rfl⟩
  obtain ⟨r, l, e⟩ := h
  have h2 : (match (stGangFault.part 0).sup.ring with
    | r :: l => (match l.head? with | some q => q.kind == 4 | none => false) && !stGangFault.gangStands (stGangFault.gangOfRec 0 r)
    | [] => false) = true := by decide +kernel
  rw [e] at h2
  simp only [Bool.and_eq_true, Bool.not_eq_true'] at h2
  obtain ⟨h3, h4⟩ := h2
  refine ⟨r, l, e, ?_, h4⟩
  cases eh : l.head? with
  | none => rw [eh] at h3; cases h3
  | some q => rw [eh] at h3; exact ⟨q, rfl, of_decide_eq_true (by simpa using h3)⟩

theorem wit_build_again : ∃ (s : State) (b : LRec), s = stCmd 3 0 (fun P => { P with recs := [(3, { st := .idle, ctx := 1 })] }) recImage ∧
    (s.mayCommand 0 .sup = true) ∧ ((s.part 0).lrec 3).st = .idle ∧ (s.unbuild 0 3).buildCheck 0 3 = .ok b :=
  ⟨_, { code := 0x1000, args := List.replicate 8 0, ctx := 1, ngang := 1 }, rfl, by decide +kernel, by decide +kernel, ok_of (by decide +kernel)⟩
theorem wit_no_command : ({ stCmd 3 0 id id with ev := { part := 0, agent := .port 1 } } : State).mayCommand 0 (.port 1) = false := by decide +kernel
theorem wit_drain_refused : ((stCmd 3 0 id id).part 0).lrec 3 = {} ∧ ({} : LRec).st ≠ .running := by decide +kernel
theorem wit_drain_limit : q9.closed = false ∧ ((stStage.part 0).queue 16).map (fun z => (z.limit, z.seen)) = some (0, 0) := by decide +kernel
theorem wit_queue_open_busy : ((stQ 0).part 0).queue 9 = some q9 := by decide +kernel

theorem wit_lrpool : (0x40000 : Word).toNat % 65536 = 0 ∧ (st0.part 0).rangePinnable 0x40000 0x80000 = true ∧
    (st0.part 0).rangePinnable 0x17FFFF0000 0x80000 = false ∧ (st0.part 0).recs = [] ∧
    ((stR .idle 0 0 0).part 0).recs ≠ [] := by decide +kernel
theorem wit_tmcfg : st0.residents 0 = [] ∧ (stTier resident id).residents 0 ≠ [] := by decide +kernel
theorem wit_host_reads : ({ st0 with ev := { target := .io 1 0x28, n := 8 } } : State).ev.target = .io 1 0x28 ∧
    ({ st0 with ev := { target := .window 1 0 0x148 } } : State).ev.target = .window 1 0 0x148 ∧ (0x28 : BitVec 16).toNat % 8 = 0 := by decide
theorem wit_failed_package : ∃ s v : State, s.io.phase = 7 ∧ v.io.powered = true ∧ v.io.phase = 1 ∧ v.ev.fail = some 4 :=
  ⟨stHeld 7 id, stWarm (some 4), by decide +kernel, by decide +kernel, by decide +kernel, by decide +kernel⟩
theorem wit_base_die : ∃ s : State, s.ev.unit = .baseDie 3 ∧ ∀ p, (s.part p).up = true → (s.part p).schcfg.getLsbD 8 = true ∨ (s.part p).primaryHome ≠ 3 :=
  ⟨{ st0 with ev := { unit := .baseDie 3 } }, rfl, by decide +kernel⟩

/-- A message for a request that is not yet accepted waits for its ACCEPT; a context's full RELQ holds back no other. -/
theorem wit_copy_waits : ((stReq [req1 .tokenised]).modSl (fun z => { z with inbox := [] })).answer pkt1 = .copy ∧ (req1 .tokenised).st = .tokenised := by
  decide +kernel
theorem wit_relq_order : ∃ s : State, s = stSl (fun z => { served z with relq := [(0, 2, 0x10000, none), (0, 1, 0x20000, none)] }) (slPart []) id ∧
    s.relqRoom 0 2 = false ∧ s.relqRoom 0 1 = true :=
  ⟨_, rfl, by decide +kernel⟩
theorem wit_output_stopped : (req1 .admitted).stopped = false ∧ ({ req1 .admitted with stopped := true } : Req).stopped = true ∧
    ({ req1 .admitted with pend := [0xC3] } : Req).pend.length = 1 := by decide
theorem wit_absent_nowhere : (State.reset.placeWord 0x24512346).absentIn ((State.reset.placeWord 0x24512346).partOf 1) = [] := by decide +kernel

/-! ### Witnesses: empty registers, waits, stops -/

/-- A task with a handler; register s6 waits for its load. -/
def stEmpty : State := (stTvec false).modHere (·.awaitReg { reg := 6, val := 1, pc := 0x1000 })
theorem wit_empty_source : stEmpty.here.a.bad = [] ∧ [6#6, 7#6].find? stEmpty.here.isEmpty = some 6 ∧ stEmpty.here.a.inTrap = false ∧
    stEmpty.here.ctl.tvec ≠ 0 ∧ [5#6, 7#6].find? stEmpty.here.isEmpty = none ∧ [6#6].find? stEmpty.here.isEmpty = some 6 ∧
    isPort 5 = false ∧ ((stQ 0).modHere fun k => { k with a := { k.a with ports := [(1, 0x10009)] } }).here.portOk true 49 = true := by decide +kernel
/-- E of a source that is empty: the handler's PC and the register's number (R36); without E the strand waits. -/
theorem test_empty_source_traps : pcOfA (exec (.add 5 6 7 true) stEmpty) = some 0x2000 ∧ pcOfA (exec (.add 5 6 7 false) stEmpty) = some 0x1000 ∧
    (match exec (.add 5 6 7 true) stEmpty with | .next t => t.here.ctl.tinfo0 | _ => 0) = 6 := by decide +kernel

theorem wit_gbar_waits : ∃ (s v : State) (G H : Group), s.slotGroup 0 1#2 = some (7, G) ∧ s.here.a.gbar = some s.here.a.pc ∧ G.phase < s.here.phaseOf 0 ∧
    v.slotGroup 0 1#2 = some (7, H) ∧ v.here.a.gbar ≠ some v.here.a.pc ∧ v.here.phaseOf 0 = H.phase ∧ H.arrivals + 1 ≠ H.size :=
  ⟨(stGrp 1 1 0 100).modHere fun k => { k with a := { k.a with phase := [(0, 1)], gbar := some k.a.pc } }, stGrp 1 0 0 100,
    { built := true, kind := 1, mask := 6, arrivals := 1 }, { built := true, kind := 1, mask := 6 }, by decide +kernel⟩
theorem wit_gbar_turn : ∃ (s : State) (G : Group), s.slotGroup 0 1#2 = some (7, G) ∧ s.here.a.gbar ≠ some s.here.a.pc ∧ G.phase < s.here.phaseOf 0 :=
  ⟨(stGrp 1 1 0 100).modHere fun k => { k with a := { k.a with phase := [(0, 1)] } }, { built := true, kind := 1, mask := 6, arrivals := 1 },
    by decide +kernel⟩
theorem wit_qwait_waits : ∃ s : State, (Tbl.find? s.here.a.ports ((48#6).toNat - 48)).isSome = true ∧ s.portReady (portNo 48) = false ∧
    s.portReady (portNo 55) = false ∧ s.myPart.queue (descQid 9) = some q9 ∧ Tbl.find? s.here.a.ports 0 = some 9 :=
  ⟨(stQ 0).modHere fun k => { k with a := { k.a with ports := [(0, 9)] } }, by decide +kernel⟩
theorem wit_grammar_underflow : st0.here.eng.gstk = [] ∧ st0.clear [] [5#6] = true := by decide +kernel

/-- A drain whose granule lies on an uncorrectable word. -/
theorem wit_drain_poison : ∃ s : State, s = (stMe nestDr (runEx 0 0 0 true) none).modCore 1 (fun k => { k with spm := { k.spm with bad := [16] } }) ∧
    (s.core 1).eng.me.run = some (runEx 0 0 0 true) ∧ (drainList nestDr)[0]? = some 0 ∧
    (s.core 1).spm.badIn (dstAddr nestDr) (256 * elemWidth (drainElem nestDr)) = true := ⟨_, rfl, by decide +kernel⟩
/-- Member 0 has ended its nest on counter 0; member 1 has not. -/
theorem wit_split_waits : ∃ s : State, s = (stMe nestSp { ix := [0, 0, 0, 0, 0, 0] } (some 7)).modGroup 0 7 (·.setCtr 0 { next := 2, done := [0] }) ∧
    (s.core 1).splitMode nestSp = .shared 7 ∧ (s.core 1).info.rank ∈ (((s.part (s.partOf 1)).group 7).ctr 0).done := ⟨_, rfl, by decide +kernel⟩
theorem wit_split_done : ∃ G H : Group, (∃ j, j < 2 ∧ BitVec.ofNat 8 j ∉ (0#8) :: (G.ctr 0).done) ∧
    ∀ j, j < 2 → BitVec.ofNat 8 j ∈ (1#8) :: (H.ctr 0).done :=
  ⟨{}, ({} : Group).setCtr 0 { next := 2, done := [0] }, ⟨1, by decide⟩, by decide⟩
/-- The counter of a nest stays while member 1's nest on it is unfinished, however far member 0 is ahead (R216). -/
theorem test_split_counter_waits_for_every_member : ((({} : Group).setCtr 0 { next := 2 }).splitDone 0 2 0).ctr 0 = { next := 2, done := [0] } ∧
    (((({} : Group).setCtr 0 { next := 2 }).splitDone 0 2 0).splitDone 0 2 1).ctr 0 = {} := by decide

/-- Two chains wait on channel 2, or the first one runs, with a record in flight or between records. -/
theorem wit_ce_abort : ∃ s v w : State, (s.here.chan 2).running = false ∧ (s.here.chan 2).held ≠ [] ∧
    (v.here.chan 2).running = true ∧ (v.here.chan 2).busy = false ∧ (v.here.chan 2).held ≠ [] ∧
    (w.here.chan 2).running = true ∧ (w.here.chan 2).busy = true ∧ (w.here.chan 2).held.drop 1 ≠ [] ∧ tk4.ext.prod ≠ 0 ∧
    (st0.here.chan 2).running = false ∧ (st0.here.chan 2).held = [] :=
  ⟨stCe false, stCe true, (stCe true).modHere fun k => k.setChan 2 { k.chan 2 with busy := true, held := [⟨0x2000, tk4⟩, ⟨0x3000, tk4⟩] },
    by decide +kernel⟩

theorem wit_spovf_faults : (2 : Nat) ^ 56 ≤ (0x100000000000000 : Word).toNat ∧ (0x1004 : Word).toNat < 2 ^ 56 ∧ (0x1004 : Word).toNat % 8 ≠ 0 := by decide
/-- All lanes NaN; and no lane active. -/
theorem wit_reduce_nan : (∀ k, k < 128 → codeValue .fp32 (lane 32 (BitVec.ofNat 4096 (2 ^ 4096 - 1)) k) = .nan) ∧
    active ((stK fun k => k.setP 1 0).here.preg 1) 32 5 = false ∧ active (st0.here.preg 0) 32 5 = true := by decide +kernel

/-! ### Witnesses: what a commit does -/

/-- Core 1 at its END with these effects and this record 4; its own record is 3. -/
def stEff (r : LRec) (effs : List LrEff) : State :=
  { ((stK fun k => { k with atEnd := true, info := { k.info with lrec := 3 } }).modPart 0 fun P => { P with
      recs := [(3, { st := .running, ctx := 1, left := 1 }), (4, r)]
      ctxs := [(1, { st := 1, root := .ofNat 64 bootL1, slots := 4, use := [(0, { core := some 1, effs := effs })] })] }) with ev := { core := 1 } }
/-- The key of that task. -/
def hk : Nat := (stEff {} []).here.holder
theorem wit_commit_records : (∃ s : State, s = stEff { st := .held hk, ctx := 1, armed := true, jinit := 3 } [.patch 4 0 9, .dec 4, .dec 4] ∧ s.canCommit 1 = true ∧
      ((s.part 0).lrec 4).st = .held (s.core 1).holder ∧ ((s.part 0).lrec 4).armed = true ∧
      decsOn 4 ((s.part 0).slotOf (s.core 1).info).effs < ((s.part 0).lrec 4).jinit.toNat) ∧
    (∃ v : State, v = stEff { st := .held hk, ctx := 1, armed := true } [.dec 4] ∧
      ((v.part 0).lrec 4).jinit.toNat ≤ decsOn 4 ((v.part 0).slotOf (v.core 1).info).effs) ∧
    (∃ w : State, w = stEff { st := .armed, ctx := 1, join := 2 } [.dec 4] ∧ ((w.part 0).lrec 4).st = .armed ∧
      decsOn 4 ((w.part 0).slotOf (w.core 1).info).effs = 1) ∧
    (∃ x : State, x = stEff { st := .held hk, ctx := 1 } [] ∧ ((x.part 0).lrec 4).st = .held (x.core 1).holder ∧ ((x.part 0).lrec 4).armed = false) ∧
    ∃ y : State, y = stEff { st := .idle, ctx := 1 } [.dec 3] ∧ ((y.part 0).lrec 4).st = .idle ∧ ((y.part 0).lrec (y.core 1).info.lrec).st = .running ∧
      ((y.part 0).lrec 3).kind ≠ 2 ∧ 4 ≠ (y.core 1).info.lrec :=
  ⟨⟨_, rfl, by decide +kernel⟩, ⟨_, rfl, by decide +kernel⟩, ⟨_, rfl, by decide +kernel⟩, ⟨_, rfl, by decide +kernel⟩, ⟨_, rfl, by decide +kernel⟩⟩
/-- A record that its holder patched, armed and decremented twice of 3: it waits for one more, its argument patched (R27). -/
theorem test_commit_arms : (match exec .endCommit (stEff { st := .held hk, ctx := 1, armed := true, jinit := 3 } [.patch 4 0 9, .dec 4, .dec 4]) with
    | .next u => (((u.part 0).lrec 4).st, ((u.part 0).lrec 4).join, ((u.part 0).lrec 4).args.head?, ((u.part 0).lrec 3).st)
    | _ => (.unbuilt, 0, none, .unbuilt)) = (.armed, 1, some 9, .idle) := by decide +kernel
theorem wit_commit_queue : (([{ num := 0, data := [], st := .taken 5 }, { num := 1, data := [], st := .ready }, { num := 2, data := [], st := .prov 5 }] :
    List QItem).map (·.num)).Nodup ∧ q9.kind ≠ .rill := by decide
/-- A pop leaves, a push stands behind what was committed before it (R22). -/
theorem test_commit_queue : ((Queue.commit 5 { q9 with items := [{ num := 0, data := [], st := .taken 5 }, { num := 1, data := [], st := .prov 5 },
    { num := 2, data := [], st := .ready }] }).items.map fun i => (i.num, i.st)) = [(2, .ready), (1, .ready)] := by decide
/-- Both members of a gang at their ends, a decrement of record 4 by each. -/
def stGangEff : State := (stTwo fun k => { k with atEnd := true, info := { k.info with lrec := 3, slot := .ofNat 10 k.info.rank.toNat } }).modPart 0 fun P => { P with
  recs := [(3, { st := .running, ctx := 1, kind := 1, ngang := 2, left := 2 }), (4, { st := .armed, ctx := 1, join := 2 })]
  ctxs := [(1, { st := 1, root := .ofNat 64 bootL1, slots := 4, use := [(0, { core := some 1, effs := [.dec 4] }), (1, { core := some 2, effs := [.dec 4] })] })] }
theorem wit_gang_effects : ∃ s : State, s = (stGangEff.modCore 2 fun k => { k with info := { k.info with slot := 1 } }) ∧ (s.core 1).info.inGang = true ∧
    (s.gangOn (s.partOf 1) (s.core 1).info).length = (s.core 1).gangSize ∧ (∀ d ∈ s.gangOn (s.partOf 1) (s.core 1).info, s.canCommit d = true) ∧
    ((s.gangOn (s.partOf 1) (s.core 1).info).map fun d => (s.core d).holder).Nodup ∧
    ((s.gangOn (s.partOf 1) (s.core 1).info).map fun d => decsOn 4 ((s.part 0).slotOf (s.core d).info).effs).sum = 2 ∧
    ((s.part 0).lrec 4).st = .armed ∧ ((s.part 0).lrec 4).join.toNat ≤ 2 ∧ ((s.part 0).lrec (s.core 1).info.lrec).left = 2 ∧
    ((s.part 0).lrec 3).st = .running ∧ ((s.part 0).lrec 3).kind ≠ 2 := ⟨_, rfl, by decide +kernel⟩

/-! ### Witnesses: stamps, answers, records, a package that failed -/

/-- ME.MSK stamped 5 that met its stamp's overrun before, at FC = fc. -/
def stMissed (fc : BitVec 12) : State := (stStamp fc).modCore 1 fun k => { k with a := { k.a with missed := some k.a.pc } }
theorem wit_stamp_missed : ∃ x : Ext, x = Ext.ofWord ((stMissed 6).core 1).a.ext ∧ ((stMissed 6).core 1).a.late = false ∧
    ((stMissed 6).core 1).a.missed = some ((stMissed 6).core 1).a.pc ∧ x.stamp ≠ ((stMissed 6).core 1).ctl.fc ∧
    ((stMissed 6).core 1).ctl.flen = 0 := ⟨_, rfl, by decide +kernel⟩
/-- Its tick passed while it waited: the trap comes whatever FC shows now. -/
theorem wit_stamp_late : (((stStamp 2).modCore 1 fun k => { k with a := { k.a with late := true } }).core 1).a.late = true ∧
    ((stStamp 2).core 1).detm = true ∧ (Ext.ofWord ((stStamp 2).core 1).a.ext).stamp = 5 := by decide +kernel
theorem wit_resume_escalated : ∃ (o : Outst) (s : State) (h : Hold), s = (stAns 0 5).modCore 1 (fun k => { k with hold := some { kind := .escalated, code := 5, strand := .a, clk := 0, left := [] } }) ∧
    (s.part 0).sup.out.find? (fun o => o.seq == s.ev.seq) = some o ∧ o.slots = [0] ∧ o.kind = 0 ∧ (((s.part 0).ctx o.ctx).slotRec 0).core = some 1 ∧
    (s.core 1).hold = some h ∧ h.kind = .escalated :=
  ⟨{ seq := 5, kind := 0, ctx := 1, slots := [0] }, _, { kind := .escalated, code := 5, strand := .a, clk := 0, left := [] }, rfl, by decide +kernel⟩
theorem wit_return_in_handler : (∃ s : State, s = (stAns 2 5).modCore 1 (fun k => { k with
      a := { k.a with inTrap := true, scall := some 0x1004 }, ctl := { k.ctl with tpc := 0x1004 } }) ∧
    (s.core 1).a.scall = some (s.core 1).ctl.tpc ∧ (s.core 1).ctl.tpc ≠ (s.core 1).a.pc ∧ (s.core 1).a.inTrap = true) ∧
    ∃ v : State, v = (stAns 2 5).modCore 1 (fun k => { k with a := { k.a with scall := some k.a.pc } }) ∧ (v.core 1).a.scall = some (v.core 1).a.pc :=
  ⟨⟨_, rfl, by decide +kernel⟩, ⟨_, rfl, by decide +kernel⟩⟩
theorem wit_fault_record_waits : ∃ (s : State) (r : RingRec) (h : Hold), s = stSameClk ∧ (s.part 0).sup.ring = [r] ∧ r.kind = 0 ∧
    (s.core r.core).hold = some h ∧ h.left ≠ [] ∧ h.clk = s.clk := by
  have h : (match (stSameClk.part 0).sup.ring with
    | [r] => r.kind == 0#8 && ((stSameClk.core r.core).hold.map fun h => !h.left.isEmpty && h.clk == stSameClk.clk).getD false
    | _ => false) = true := by decide +kernel
  split at h
  · rename_i r e
    simp only [Bool.and_eq_true] at h
    obtain ⟨h1, h2⟩ := h
    cases e2 : (stSameClk.core r.core).hold with
    | none => rw [e2] at h2; cases h2
    | some g =>
      rw [e2] at h2
      simp only [Option.map_some, Option.getD_some, Bool.and_eq_true, Bool.not_eq_true'] at h2
      exact ⟨_, r, g, rfl, e, by simpa using h1, e2, ⟨fun e3 => by rw [e3] at h2; exact Bool.noConfusion h2.1, by simpa using h2.2⟩⟩
  · cases h
theorem wit_foreign_queue : ∃ (s : State) (z : Queue), s = stStage.modPart 0 (fun P => P.setQueue 16 q9) ∧ (s.part 0).queue 16 = some z ∧
    (∀ j, z.pipe ≠ some (3, j)) ∧ ((s.part 0).lrec 3).rillId 0 = 16 := ⟨_, q9, rfl, by decide +kernel, by decide, by decide +kernel⟩
theorem wit_failed_windows : ∃ s : State, s.io.phase = 7#3 ∧ s.io.powered = true ∧ s.ev.target = .window 1 0 0x13D :=
  ⟨{ stHeld 7 id with ev := { port := 1, target := .window 1 0 0x13D } }, by decide +kernel⟩
theorem wit_accepting : ∃ s : State, s.accepting = true ∧ s.ev.target = .window 1 0 0x13D ∧ (s.part 0).up = true :=
  ⟨{ st0 with ev := { target := .window 1 0 0x13D } }, by decide +kernel⟩

/-! ### Witnesses: a dropped device, the rings, a round trip -/

/-- The device that holds the page of `stTier` has dropped off its link. -/
def dropped (s : State) : State := { s with io := { s.io with cxl := [{ base := pteFrame (.ofNat 128 0x80000000000EF), size := 0x10000, up := false }] } }
theorem wit_page_down : ∃ (s v : State) (l : Leaf), s = dropped (stTier resident (fun P => { P with tierPages := [tpage []] })) ∧
    s.pageDown (s.pteAt (tpage []).pteAddr) = true ∧ (stTier resident id).pageDown ((stTier resident id).pteAt 0x140000) = false ∧
    (s.residents 0).find? (fun t => t.ctx == s.ev.ctx && t.va == unitVa s.ev.va) = some (tpage []) ∧
    v = dropped (stTier 0 id) ∧ v.walk (v.part 0) 1 0x20000000 = .ok l ∧ notResident l.pte = true ∧ v.pageDown l.pte = true :=
  ⟨_, _, { pte := .ofNat 128 0x80000000000EF, big := false, addr := 0x140000 }, rfl, by decide +kernel, by decide +kernel, by decide +kernel, rfl,
    ok_of (by decide +kernel), by decide +kernel, by decide +kernel⟩
/-- Three clusters hold tokens and one is left: 1 and 7, the furthest along after the last holder 7, lose theirs (R322). -/
theorem wit_urgent : ∃ s : State, s = { stBreeze { holders := 0x8A, last := 7 } { cut := 7 } with ev := { core := 1, flag := true } } ∧
    s.tokens 0 < (s.ring 0).holding.length ∧ ((s.ring 0).urgent (s.tokens 0)).holding = [1] ∧
    (stBreeze { holders := 2 } {}).ev.flag = false := ⟨_, rfl, by decide +kernel⟩

theorem savePa_of {P : Part} {u : State} (hp : u.part 0 = P) (hc : Roots P)
    (hd : u.dead = 0) (hm : ∀ a, a < 0x1000000 → u.mem.read a = stSave.mem.read a) {va : Nat} (hv : va < 2 ^ 29) :
    u.savePa 0 1#16 va = some va := by
  have hr (n : Nat) : ∀ a, a + n ≤ 0x1000000 → u.mem.readN a n = stSave.mem.readN a n := by
    induction n with
    | zero => intro a _; rfl
    | succ n ih => intro a h; rw [Mem.readN, Mem.readN, hm a (by omega), ih (a + 1) (by omega)]
  have q (a : Nat) (ha : a + 16 ≤ 0x1000000) : u.pteAt a = stSave.pteAt a := by
    show BitVec.ofNat 128 (leNat (u.mem.readN a 16)) = BitVec.ofNat 128 (leNat (stSave.mem.readN a 16))
    rw [hr 16 a ha]
  obtain ⟨-, -, -, h1, h2⟩ := stands_stSave
  exact stands_savePa ⟨hp, hc, hd, by rw [q _ (by decide)]; exact h1, by rw [q _ (by decide)]; exact h2⟩ hv

/-- The image of `stSave` stands, in partition 0 with the slot's record changed and nothing else. -/
theorem image_of_stSave : ∃ (t : State) (f : SlotRec → SlotRec), stSave.writeImage 0 1 = some t ∧ (∀ r, (f r).half = some false) ∧
    t.part 0 = (stSave.part 0).modSlot 1 0 f := by
  have h0 : (stSave.core 1).info.cont.ctx = 1#16 := by decide +kernel
  have h1 : ((stSave.part 0).slotOf (stSave.core 1).info).half = none := by decide +kernel
  have h2 : ((stSave.part 0).ctx 1#16).halfVa 0 false = 0x1000000 := by decide +kernel
  have h3 : (stSave.core 1).absent = [] := by decide +kernel
  have h4 : (stSave.core 1).info.slot = 0 := by decide +kernel
  have hb2 (q : Nat × List Byte) : stSave.partBytes 0 1 q = some q.2 := by unfold State.partBytes; rw [h3]; rfl
  unfold State.writeImage
  simp only [h0, h1, h2, hb2, h4, Option.bind_some]
  obtain ⟨u, hu, su⟩ := stands_parts (b := 0x1000000) (by decide) (stSave.core 1).parts stands_stSave
    (parts_fit no_lines (by decide +kernel) (by decide +kernel))
  rw [hu, Option.bind_some]
  generalize hh : ((stSave.headerImage 1 1 _).put 0x10 4 _).readN 0 4096 = bs
  have hl : bs.length = 4096 := by rw [← hh, Mem.readN_length]
  obtain ⟨v, hv, sv⟩ := stands_putSave (va := 0x1000000) (bs := bs) su (by decide) (by rw [hl]; decide)
  rw [hv, Option.bind_some]
  obtain ⟨w, hw, sw⟩ := stands_putSave (va := 0x1000000 + 16) (bs := leBytes 4 (stSave.core 1).tstate) sv (by decide)
    (by rw [leBytes_length]; decide)
  rw [hw]
  refine ⟨_, fun r => { r with half := some false, gen := 1, info := (stSave.core 1).info, hold := (stSave.core 1).hold, marks := (stSave.core 1).marks },
    rfl, fun _ => rfl, ?_⟩
  show (w.modPart 0 _).part 0 = _
  rw [State.part_modPart_same, sw.1]
  rfl

theorem wit_round_trip : ∃ (t : State) (f : Nat → Nat), stSave.writeImage 0 1 = some t ∧
    ((t.part 0).ctx 1#16).halfVa (stSave.core 1).info.slot ((((t.part 0).slotOf (stSave.core 1).info).half).getD false) = 0x1000000 ∧
    (∀ u : State, u.parts = stSave.parts ∨ u.parts = t.parts → u.dead = stSave.dead →
      (∀ a, (∀ o, o < 0x110000 → f o ≠ a) → u.mem.read a = stSave.mem.read a) →
      ∀ o, o < 0x110000 → u.savePa 0 (stSave.core 1).info.cont.ctx (0x1000000 + o) = some (f o)) ∧
    (∀ o o', o < 0x110000 → o' < 0x110000 → f o = f o' → o = o') ∧ (∀ o, f (o + 1) = f o + 1) ∧
    (∀ a n, stSave.poisonedIn a n = false) ∧ stSave.mem.wf = true ∧
    (∀ q ∈ (stSave.core 1).parts, q.1 < 0x50000 ∨ 0x90000 ≤ q.1 ∨ q.1 + q.2.length ≤ 0x90000) := by
  obtain ⟨t, f, ht, hf, hp⟩ := image_of_stSave
  have h0 : (stSave.core 1).info.cont.ctx = 1#16 := by decide +kernel
  have h4 : (stSave.core 1).info.slot = 0 := by decide +kernel
  have hc (g : SlotRec → SlotRec) : ((stSave.part 0).modSlot 1 0 g).ctx 1#16 =
      { (stSave.part 0).ctx 1#16 with use := Tbl.set ((stSave.part 0).ctx 1#16).use 0 (g (((stSave.part 0).ctx 1#16).slotRec 0)) } := by
    exact Tbl.get_set_same ..
  refine ⟨t, (0x1000000 + ·), ht, ?_, ?_, fun o o' _ _ h => by simp only at h; omega, fun o => rfl, ?_, by decide +kernel, ?_⟩
  · have hs : (t.part 0).slotOf (stSave.core 1).info = f (((stSave.part 0).ctx 1#16).slotRec 0) := by
      unfold Part.slotOf
      rw [h0, h4, hp, hc]
      unfold Ctx.slotRec
      exact Tbl.get_set_same ..
    rw [hs, hf, hp, hc, h4]
    have h2 : ((stSave.part 0).ctx 1#16).halfVa 0 false = 0x1000000 := by decide +kernel
    exact h2
  · intro u hu hd hm o ho
    rw [h0]
    have hm2 : ∀ a, a < 0x1000000 → u.mem.read a = stSave.mem.read a := fun a ha => hm a fun o _ => by simp only; omega
    obtain ⟨-, ⟨x1, r1, o1, k1, k2⟩, kd, -, -⟩ := stands_stSave
    have hpart (v : State) (h : u.parts = v.parts) : u.part 0 = v.part 0 := by unfold State.part; rw [h]
    rcases hu with hu | hu
    · exact savePa_of (hpart _ hu) ⟨x1, r1, o1, k1, k2⟩ (hd.trans kd) hm2 (by omega)
    · exact savePa_of (P := (stSave.part 0).modSlot 1 0 f) ((hpart _ hu).trans hp) ⟨by rw [hc]; exact x1, by rw [hc]; exact r1, o1, k1, k2⟩ (hd.trans kd) hm2 (by omega)
  · intro a n
    have e0 : stSave.poison = [] := by decide +kernel
    have e1 : stSave.io.cxl = [] := by decide +kernel
    have e2 : stSave.dead = 0 := by decide +kernel
    simp [State.poisonedIn, e0, e1, e2]
  · intro q hq
    have h := parts_before no_lines (by decide +kernel) (by decide +kernel) q hq
    exact .inl h

/-! ### Witnesses: contexts that move -/

/-- Context 2, SUSPENDED, with record 5 in a ready queue, an item in queue 9, a signature row and a saved task in slot 1. An EXPORT
of it is in progress, its EVARG as given. -/
def stExp (arg : Word) : State := stCmd 0 2 (fun P => { P with
    ctxs := P.ctxs ++ [(2, { st := 2, root := .ofNat 64 bootL1, slots := 4, savebase := 0x1000000, use := [(1, { half := some false, gen := 3, info := { lrec := 5 } })] })]
    recs := [(5, { st := .queued, ctx := 2, code := 0x1000, ngang := 1 })]
    rq := [(1, [{ kind := .task { cont := { ctx := 2, code := 0x1000 }, lrec := 5 }, ctx := 2, lrec := 5 }])]
    queues := [(9, { q9 with ctxA := 2, items := [{ num := 0, data := [7], st := .ready }], backing := 0x24000 })]
    rows := [{ ctx := 2, tag := 3, page := 7, sig := 5 }]
    evarg := arg, evrun := some { op := 3, ctx := 2, agent := .sup, arg := arg } }) fun m => (qImage m).put 0x20130 8 0x24000
/-- What that EXPORT finds, and its block. -/
def expOf (arg : Word) : Export := ((stExp arg).part 0).exportOf 2
def blockOf (arg : Word) : List Nat := (expOf arg).words ((stExp arg).part 0)
theorem wit_export_done : ∃ (r : EvRun) (z : Queue), ((stExp 0x200001).part 0).evrun = some r ∧ r.op = 3 ∧ (stExp 0x200001).onCore 0 r.ctx = false ∧ r.failed = false ∧
    8 * (blockOf 0x200001).length ≤ evSize r.arg ∧ ((stExp 0x200001).part 0).rangePinnable (evAddr r.arg) (8 * (blockOf 0x200001).length) = true ∧
    (∀ q ∈ (expOf 0x200001).queues, ((stExp 0x200001).part 0).backed q.2.backing.toNat q.2 = true) ∧ (stExp 0x200001).mem.wf = true ∧
    (((stExp 0x200001).part 0).lrec 5).ctx = r.ctx ∧ (expOf 0x200001).queues = [(9, z)] ∧ z.items ≠ [] ∧ (blockOf 0x200001)[0]? = some 1 :=
  ⟨{ op := 3, ctx := 2, agent := .sup, arg := 0x200001 }, { q9 with ctxA := 2, items := [{ num := 0, data := [7], st := .ready }], backing := 0x24000 },
    by decide +kernel⟩
/-- The block lies beside the records and the context's entry, the queue's store beside all three. -/
theorem wit_export_apart : evAddr 0x200001 = 0x200000 ∧ 8 * (blockOf 0x200001).length < 0x1000 ∧ ((stExp 0x200001).part 0).ctxEntry 2 + 24 = 0x30098 ∧
    ((stExp 0x200001).part 0).lrpool.toNat = 0x10000 := by decide +kernel
theorem wit_export_space : ((stExp 0x17FFFFFFF0001).part 0).rangePinnable (evAddr 0x17FFFFFFF0001) (8 * (blockOf 0x17FFFFFFF0001).length) = false := by
  decide +kernel
/-- The state after that EXPORT: the context is ABSENT, its block in memory. -/
def stImp : State := match exec .exportBlockWrite (stExp 0x200001) with
  | .next u => u
  | _ => st0
theorem wit_import : ∃ (x : Export) (recs : List LRec) (qs : List Queue), stImp.mayCommand 0 stImp.ev.agent = true ∧
    (stImp.part 0).evBusy stImp.ev.agent = false ∧ (stImp.part 0).evrun = none ∧ (stImp.part 0).evwait = [] ∧
    stImp.ctxEmpty 0 2 = true ∧ (stImp.readBlockWords 0 (stImp.part 0).evarg).bind (readExport 2) = some x ∧ stImp.idsOk 0 2 x = true ∧
    x.slots.toNat ≤ ((stImp.part 0).ctx 2).slots.toNat ∧ ((stImp.part 0).ctx 2).savebase = x.savebase ∧
    allSome (x.recs.map fun r => stImp.importRec 0 r.2) = some recs ∧ allSome (x.queues.map fun q => stImp.importQueue 0 q.1 q.2) = some qs ∧
    (x.recs.map (·.1)).Nodup ∧ (x.queues.map (·.1)).Nodup ∧ (x.groups.map (·.1)).Nodup ∧ (x.use.map (·.1)).Nodup ∧
    x.recs.length = 1 ∧ x.queues.length = 1 ∧ x.rows.length = 1 ∧ x.use.length = 1 ∧ x.ents.length = 1 := by
  obtain ⟨x, hx⟩ := Option.isSome_iff_exists.1 (by decide +kernel :
    ((stImp.readBlockWords 0 (stImp.part 0).evarg).bind (readExport 2)).isSome = true)
  have h : (match (stImp.readBlockWords 0 (stImp.part 0).evarg).bind (readExport 2) with
    | some x => decide (stImp.idsOk 0 2 x = true ∧ x.slots.toNat ≤ ((stImp.part 0).ctx 2).slots.toNat ∧ ((stImp.part 0).ctx 2).savebase = x.savebase ∧
        (allSome (x.recs.map fun r => stImp.importRec 0 r.2)).isSome = true ∧ (allSome (x.queues.map fun q => stImp.importQueue 0 q.1 q.2)).isSome = true ∧
        (x.recs.map (·.1)).Nodup ∧ (x.queues.map (·.1)).Nodup ∧ (x.groups.map (·.1)).Nodup ∧ (x.use.map (·.1)).Nodup ∧
        x.recs.length = 1 ∧ x.queues.length = 1 ∧ x.rows.length = 1 ∧ x.use.length = 1 ∧ x.ents.length = 1)
    | none => false) = true := by decide +kernel
  rw [hx] at h
  obtain ⟨h1, h2, h3, h4, h5, h6⟩ := of_decide_eq_true h
  obtain ⟨recs, hr⟩ := Option.isSome_iff_exists.1 h4
  obtain ⟨qs, hq⟩ := Option.isSome_iff_exists.1 h5
  exact ⟨x, recs, qs, by decide +kernel, by decide +kernel, by decide +kernel, by decide +kernel, by decide +kernel, hx, h1, h2, h3, hr, hq, h6⟩
/-- The item of queue 9 and record 5 come back; the context is SUSPENDED (R343). -/
theorem test_import : (match exec .evImport stImp with
    | .next u => (((u.part 0).ctx 2).st, ((u.part 0).lrec 5).st, ((u.part 0).queue 9).map fun z => z.items.map (·.data), (u.part 0).rows.length)
    | _ => (0, .unbuilt, none, 0)) = (2, .queued, some [[7]], 1) := by decide +kernel
theorem wit_import_refused : (stCmd 0 1 id id).ctxEmpty 0 1 = false ∧ ((stCmd 0 3 id id).part 0).ctx 3 = {} ∧ ({} : Ctx).st ≠ 1 ∧ ({} : Ctx).st ≠ 2 := by
  decide +kernel
theorem wit_export_waits : ∃ (s : State) (r : EvRun), s = stCmd 0 1 (fun P => { P with evrun := some { op := 3, ctx := 1, agent := .sup } }) id ∧
    (s.part 0).evrun = some r ∧ s.onCore 0 r.ctx = true := ⟨_, { op := 3, ctx := 1, agent := .sup }, rfl, by decide +kernel⟩
theorem wit_block_words : (∀ r ∈ [({ ctx := 2, tag := 3, page := 7, sig := 5 } : SigRow)], r.ctx = 2 ∧ r.loc = none) ∧
    ({ built := true, kind := 1 } : Group).split = [] ∧ ({ half := some false, gen := 3 } : SlotRec).marks = {} := by decide +kernel

/-! ### Witnesses: pre-emption, timeouts, stages, errors -/

/-- A BATCH-ATOMIC record of channel 2 at 0x2000 has three elements performed; its task is asked to stop. -/
def stBatch : State :=
  let t := st0.physWrite 0x2000 (leBytes 64 (rec0 ||| 4#512 <<< 65).toNat)
  { t.modHere fun k => { (k.setChan 2 { held := [{ first := 0x2000, tok := tk4 }], running := true, busy := true, next := 0x2000, last := 0x2000, elem := 3 }) with
      save := .asked } with ev := { core := 1, n := 2 } }
theorem wit_batch_stops : (stBatch.core 1).occ = .task ∧ (stBatch.core 1).save = .asked ∧ (stBatch.core 1).a.begun = [] ∧ (stBatch.core 1).eng.se = [] ∧
    stBatch.mem.wf = true ∧ (∀ d : BitVec 2, d ≠ 2 → ((stBatch.core 1).chan d).busy = false) ∧ ((stBatch.core 1).chan 2).running = true ∧
    ((stBatch.core 1).chan 2).busy = true ∧ stBatch.xlate 1 (stBatch.core 1).ctx .read ((stBatch.core 1).chan 2).last 64 = .ok (xl0 0x2000) ∧
    pteTier (xl0 0x2000).pte = 0 ∧ stBatch.poisoned (xl0 0x2000).pa = false ∧ rKind (.ofNat 512 (stBatch.mem.get (xl0 0x2000).pa 64)) = kBatch :=
  ⟨by decide +kernel, by decide +kernel, by decide +kernel, by decide +kernel, by decide +kernel, by decide +kernel, by decide +kernel, by decide +kernel,
    ok_of (by decide +kernel), by decide +kernel, by decide +kernel, by decide +kernel⟩
/-- R229: the stop leaves the count in the record, at byte 60. -/
theorem test_batch_count : (match exec .preemptStop stBatch with
    | .next t => t.mem.get (0x2000 + 60) 4
    | _ => 0) = 3 := by decide +kernel
/-- The A-strand's limit has passed in the clk in which the X-strand has faulted. -/
theorem wit_late_timeout : ∃ (s : State) (h : Hold), s = { (stSameClk.modCore 1 fun k => { k with a := { k.a with dog := k.dogLimit } }) with ev := { core := 1, st := .a } } ∧
    (s.core 1).hold = some h ∧ s.ev.st ∈ h.left ∧ h.clk = s.clk ∧ (s.core 1).occ = .task ∧ (s.core 1).save ≠ .stopped ∧
    (s.part (s.partOf 1)).stopped = false ∧ (s.core 1).dogLimit ≤ (s.core 1).a.dog :=
  ⟨_, { kind := .fault, code := faultNum .illegal, strand := .x, clk := 0, left := [.a] }, rfl, by decide +kernel⟩
theorem wit_stage_down : (stStage.part 0).up = true ∧ ∃ s : State, s = stStage.modPart 0 (fun P => { P with up := false }) ∧ (s.part (s.partOf 2)).up = false ∧
    s.ev.core = 2 := ⟨by decide +kernel, _, rfl, by decide +kernel⟩
theorem wit_record_waits_for_atomic : ∃ (s : State) (r : RingRec) (h : Hold),
    s = (stRing { ring := [{ rr 0 with body := 1#512 <<< 64 }] } false).modCore 1 (fun k => { k with a := { k.a with begun := [1] }, hold := some { kind := .fault, code := 1, strand := .x } }) ∧
    (s.part 0).sup.ring = [r] ∧ r.kind = 0 ∧ (s.core r.core).hold = some h ∧ (s.core r.core).a.begun ≠ [] ∧ (s.core r.core).aFaulted = false :=
  ⟨_, { rr 0 with body := 1#512 <<< 64 }, { kind := .fault, code := 1, strand := .x }, rfl, by decide +kernel⟩
theorem wit_translation_error : ∃ s v : State, s.ev.what = .cache ∧ v.ev.what = .dieTlb ∧ s.ev.flag = true ∧ v.ev.flag = true :=
  ⟨{ st0 with ev := { core := 1, flag := true, what := .cache } }, { st0 with ev := { core := 1, flag := true, what := .dieTlb } }, by decide⟩
/-- A port bound to a queue that has since been closed, and one whose buffer leaves the scratchpad. -/
theorem wit_unreachable_queue : ∃ s : State, Tbl.find? s.here.a.ports (48 - 48) = some 8 ∧ s.myPart.queue (descQid 8) = none ∧
    q9.openTo 1 (descPush 9) = true ∧ descBuf 9 = false :=
  ⟨(stQ 0).modHere fun k => { k with a := { k.a with ports := [(0, 8)] } }, by decide +kernel⟩
/-- R51: a flag raised in the clk of the write stays set. -/
theorem test_flag_of_the_same_clk : (match exec (.wrctl 5 0 false) ((stAB 0 0).modHere fun k => k.raise 1) with
    | .next t => t.here.ctl.flags
    | _ => 0) = 1 := by decide +kernel
/-- A GATHER of one run of 4 bytes. -/
def recGather : Rec := 3#512 <<< 64 ||| 0x3000#512 <<< 128 ||| 0x4000#512 <<< 192 ||| 3#512 <<< 256 ||| 0x2000#512 <<< 384
/-- R221: OVR of a GATHER or SCATTER, whose text never uses it, must be 0. -/
theorem test_gather_uses_no_ovr : recordOk recGather = true ∧ recordOk (recGather ||| 1#512 <<< 81) = false ∧
    recordOk ((recGather ||| 1#512 <<< 81) ^^^ 3#512 <<< 65) = false := by decide +kernel

/-! ### Witnesses: commands and requests of the Sluice -/

/-- A PRUNE's pages are on their way. -/
theorem wit_command_waits : ∃ s : State, s = stSl (fun z => { served z with run := some 0x100000000, relq := [(0, 1, 0x20000, none)] }) (slPart []) id ∧
    s.sl.run.isSome = true ∧ s.io.held = true ∧ s.io.owner = s.ev.port ∧ s.io.phase ≠ 7 ∧ s.relqRoom 0 1 = true ∧ s.sl.waits = [] ∧
    s.sl.relq = [] ++ (0, 1, 0x20000, none) :: [] := ⟨_, rfl, by decide +kernel⟩
/-- Its last page completes it (R372). -/
theorem test_prune_completes : (match exec .relqPush (stSl (fun z => { served z with run := some 0x100000000, relq := [(0, 1, 0x20000, none)] }) (slPart []) id) with
    | .next t => (t.sl.run, t.sl.res, ((t.part 0).queue 0x30).map fun z => z.items.length)
    | _ => (none, 0, none)) = (none, 0x100000000, some 1) := by decide +kernel
theorem wit_output_none : ((stSl served (slPart []) id).slEntry 0 1).nslot ≤ (1 : BitVec 10).toNat ∧ zOut.next none = none ∧ zRelq.isOutputOf 1 = false := by
  decide +kernel
/-- The stop string "bc" after the text "ab" and the token's "cd"; its start after "ab" alone. -/
theorem wit_stop_string : (1 < [97, 98, 99, 100].length ∧ (∃ q ∈ [([98, 99] : List Byte)], q <+: ([97, 98, 99, 100] : List Byte).drop 1) ∧
      ∀ m, m < 1 → ∀ q ∈ [([98, 99] : List Byte)], ¬ q <+: ([97, 98, 99, 100] : List Byte).drop m) ∧
    ∀ m, m < ([97, 98] : List Byte).length → ∀ q ∈ [([98, 99] : List Byte)], ¬ q <+: ([97, 98] : List Byte).drop m := by decide
/-- A token that completes the stop string: what stands before it goes out (R371). -/
theorem test_stop_string : (({ req1 .admitted with stops := [[98, 99]], hold := [98] }.token (some [99, 100]) 0).out,
    ({ req1 .admitted with stops := [[98, 99]], hold := [98] }.token (some [99, 100]) 0).stopped,
    ({ req1 .admitted with stops := [[98, 99]] }.token (some [97, 98]) 0).hold) = ([], true, [98]) := by decide +kernel
/-- A page of 32 tokens 0. -/
def page0 : AdoptPage := { key := List.replicate 32 0, page := 0x80000, sig := List.replicate 32 0 }
theorem wit_adopt : ∃ (s : State) (f m : Nat), s = stSl served id (treeImage 5 0) ∧ s.childWith (pool1 s) 0x70000 7 page0.key = none ∧
    s.childWith (pool1 s) 0x70000 0 page0.key = some m ∧
    s.freeNode (pool1 s) = some f ∧ s.isNode (pool1 s) 0x70000 = true ∧ f + 256 ≤ 0x70000 ∧ s.mem.wf = true ∧ page0.key.length = 32 ∧
    (∀ k ∈ page0.key, k < 2 ^ 32) ∧ page0.sig.length = 32 := ⟨_, 0x60000, 0x60100, rfl, by decide +kernel⟩
theorem wit_adopt_full : ∃ s : State, s = stSl (fun z => { served z with trees := [{ tree1 with count := 1 }] }) id (fun m => (treeImage 5 0 m).put 0x600C5 1 1) ∧
    s.childWith (pool1 s) 0x70000 7 page0.key = none ∧ s.freeNode (pool1 s) = none := ⟨_, rfl, by decide +kernel⟩
/-- R85, R190: -Inf becomes -Fmax, for INT8 the code of -127. -/
theorem test_quantise_negative_infinity : (quantElem .int8 .rne 0 254 (.inf true)).1 = 0x81 ∧ (quantElem .int8 .rne 0 254 (.inf false)).1 = 0x7F := by
  decide +kernel

/-! ### Witnesses: widened statements -/

theorem wit_permit_above_sixteen : ∃ (s s1 : State) (x : Word), s.Reads 5 x s1 ∧ s.clear [5#6] [7#6] = true ∧ 16 < x.toNat :=
  ⟨stAB 17 0, _, _, reads_reg rfl, by decide, by decide⟩
theorem wit_permit_det : ((stK fun k => { k with info := { k.info with cont := { k.info.cont with det := true } } }).here.detm, st0.here.detm) = (true, false) := by
  decide +kernel

/-- Cores 1 and 2 as one gang whose member 1 has chosen core 2 through group 7, a peer group. -/
def stPeer : State := (((stTwo fun k => { k with info := { k.info with cont := { k.info.cont with gvalid := 1, gids := 7 } } }).modPart 0 fun P => { P with
  groups := [(7, { built := true, kind := 2, mask := 6 })] }).modCore 1 fun k => { k with a := { k.a with peer := some 2, peerGroup := 7 } })
theorem wit_peer_lines : stPeer.here.a.peer = some 2 ∧ (stPeer.core 2).runsTask = true ∧ stPeer.sharesPeerGroup 2 = true ∧
    (stPeer.core 2).hold = none ∧ (0x800080 : Word).toNat = 0x800000 + 0x80 ∧ 0x80 + 512 ≤ 0x80000 ∧ (5#6 : Reg) ≠ 63#6 := by decide +kernel
theorem wit_global_lines : ∃ l0 l1 l2 l3 : Xl, st0.xlate st0.cur st0.here.ctx .read 0x2000 128 = .ok l0 ∧
    st0.xlate st0.cur st0.here.ctx .read (0x2000 + 128) 128 = .ok l1 ∧ st0.xlate st0.cur st0.here.ctx .read (0x2000 + 256) 128 = .ok l2 ∧
    st0.xlate st0.cur st0.here.ctx .read (0x2000 + 384) 128 = .ok l3 :=
  ⟨xl0 0x2000, xl0 0x2080, xl0 0x2100, xl0 0x2180, ok_of (by decide +kernel), ok_of (by decide +kernel), ok_of (by decide +kernel), ok_of (by decide +kernel)⟩
/-- SPCO at line 2 of the four, and above them all. -/
theorem wit_overflow_lines : (stK fun k => { k with info := { k.info with cont := { k.info.cont with spill := 1 } } }).here.spco.toNat =
    (0x7FB00 : Word).toNat + 128 * 2 ∧ (0x7FB00 : Word).toNat + 512 ≤ 0x80000 ∧ (0x7FB00 : Word).toNat + 384 < st0.here.spco.toNat := by decide +kernel
theorem wit_lines_read : (∀ c o, LineAt.sp c o ∈ [LineAt.sp 1 0x200, .glob 0x2000 0x2000] → (st0.core c).spm.badIn o 128 = false) ∧
    ((stK fun k => { k with spm := { bad := [0x40] } }).core 1).spm.badIn 0x200 128 = true ∧
    ({ st0 with poison := [0x40] } : State).poisoned 0x2000 = true := by
  refine ⟨fun c o h => ?_, by decide +kernel, by decide +kernel⟩
  simp only [List.mem_cons, LineAt.sp.injEq, reduceCtorEq, List.not_mem_nil, or_false] at h
  obtain ⟨rfl, rfl⟩ := h; decide +kernel
theorem wit_lines_written : ∃ (ls : List LineAt) (bs : List (Byte × Bool)), bs.length = 128 * ls.length ∧ ls[1]? = some (.glob 0x2000 0x2000) ∧
    bs[128 * 1 + 5]? = some (7, true) ∧ bs[5]? = some (7, true) ∧ ls[0]? = some (.sp 1 0x200) ∧ st0.mem.wf = true ∧ (st0.core 1).spm.mem.wf = true :=
  ⟨[.sp 1 0x200, .glob 0x2000 0x2000], List.replicate 256 (7, true), by decide +kernel⟩
theorem wit_decoded : ([3#8] : List Byte)[0]? = some 3#8 ∧ leNat [0xFF#8] / 2 ^ (elemWidth .int8 * 0) % 2 ^ elemWidth .int8 = 255 ∧
    (0x387F#16).toNat % 256 ≠ 255 ∧ (0x38FF#16).toNat % 256 = 255 := by decide
theorem wit_lane_in : ∃ (k : Core) (y z : LqEnt), (k.lq (gs3 false).lq)[1]? = some y ∧ y.gather = some (.ofNat 3 3) ∧
    (k.lq (gs3 false).lq)[0]? = some z ∧ z.gather ≠ some (.ofNat 3 3) :=
  ⟨({} : Core).setLq 0 [{ data := 0 }, { data := 0, gather := some 3 }], { data := 0, gather := some 3 }, { data := 0 }, by decide +kernel⟩
theorem wit_port_counts : (55#12).toNat = 55 ∧ Tbl.find? st0.here.a.ports (48 - 48) = none ∧
    (st0.here.q.xq = [] ∧ (stK fun k => { k with q := { k.q with xq := [7] } }).here.q.xq ≠ []) := by decide +kernel
theorem wit_rill_counts : ∃ q : Queue, q.kind = .rill ∧ q.avail none = 1 ∧ q.avail none < q.items.length ∧ q9.kind ≠ .rill ∧
    (∃ i ∈ q.items, i.num = q.cursor + 1 ∧ i.st = .resvIn 5) ∧ q.avail (some 5) = 2 :=
  ⟨{ q9 with kind := .rill, items := [{ num := 0, data := [], st := .ready }, { num := 1, data := [], st := .resvIn 5 }] }, by decide +kernel⟩

theorem wit_record_faults : ∃ (s s1 s2 s3 : State) (x f v : Word), s.clear [5#6, 6#6, 7#6] [] = true ∧ s.Reads 5 x s1 ∧ s1.Reads 6 f s2 ∧
    s2.Reads 7 v s3 ∧ x = (3#12).setWidth 64 ∧ (s3.here.isSup = true ∨ (s3.myPart.lrec 3).ctx = s3.here.ctx) ∧ (s3.myPart.lrec 3).st ≠ .unbuilt ∧
    10 ≤ f.toNat ∧ s.clear [5#6] [] = true ∧ s.clear [5#6, 6#6] [8#6] = true :=
  ⟨stR .idle 3 10 3, _, _, _, _, _, _, by decide, reads_reg rfl, reads_reg rfl, reads_reg rfl, by decide, by decide +kernel, by decide +kernel, by decide,
    by decide, by decide⟩
theorem wit_record_wrong_state : (4096 ≤ (4096 : Word).toNat) ∧ ((stR .queued 3 8 3).myPart.lrec 3).st ≠ .idle ∧ (stR .queued 3 8 3).here.isSup = false ∧
    ((stR .queued 3 8 3).myPart.lrec 3).st ≠ .armed ∧ ((stR .queued 3 8 3).myPart.lrec 3).st ≠ .held (stR .queued 3 8 3).here.holder ∧
    ((3 : Word).toNat < 2 ^ 56) := by decide +kernel
/-- Record 3 in state st with JOIN j and the initial count n, its pool at 0x10000. -/
def stRec3 (st : LSt) (j n : W32) : State := stCmd 3 0 (fun P => { P with recs := [(3, { st := st, ctx := 1, jinit := n, join := j, prio := 1 })] }) recImage
theorem wit_patched_record : ((stRec3 .idle 0 0).part 0).recAddr 3 = 0x10180 ∧ (stRec3 .idle 0 0).mem.wf = true ∧
    (∀ k, k < 128 → ((stRec3 .idle 0 0).part 0).ownsHbm (0x10180 + k) = true) := by decide +kernel
theorem wit_armed_record : ((stRec3 .idle 0 2).part 0).lrec 3 = { st := .idle, ctx := 1, jinit := 2, prio := 1 } ∧
    ((stRec3 .idle 0 0).part 0).lrec 3 = { st := .idle, ctx := 1, prio := 1 } ∧ ((stRec3 .armed 2 2).part 0).lrec 3 = { st := .armed, ctx := 1, jinit := 2, join := 2, prio := 1 } ∧
    ((stRec3 .armed 1 2).part 0).lrec 3 = { st := .armed, ctx := 1, jinit := 2, join := 1, prio := 1 } := by decide +kernel

theorem wit_slot_pairs : ∃ k : Core, (k.slot 3).pairOdd = true ∧ (k.slot (3 - 1)).pairEven = true ∧ (k.slot 2).pairOdd = false ∧
    (k.slot 2).pairEven = true ∧ (k.slot 0).pairOdd = false ∧ (k.slot 0).pairEven = false ∧ 2 ∈ k.slotGroup 3 ∧ 0 ∉ k.slotGroup 3 :=
  ⟨(({} : Core).setSlot 2 { st := .full, pairEven := true }).setSlot 3 { st := .full, pairOdd := true }, by decide +kernel⟩
theorem wit_step_due : ∃ (s : State) (n : MeRun), s.here.eng.me.cmds.length ≤ 2 ∧ s.here.eng.me.cmds = [{ op := .go nest 0, tok := tk4 }] ∧
    s.here.eng.me.run = some n ∧ s.here.stepDue = true := ⟨stNest (some { ix := [0, 0, 0, 0, 0, 0] }), _, by decide +kernel, rfl, rfl, by decide +kernel⟩
/-- A nest whose consumed token 3 is FAULTED, shared in group 7 or not. -/
def stFailed (r : List Word) (i : Option (BitVec 8)) : State :=
  let m (m : Me) : Me := { m with run := none, cmds := [{ op := .go r 0, tok := { ext := ⟨0xFFF#12, 4#5, 3#5, 0#5, 0#5⟩ } }] }
  (stMe r { ix := [0, 0, 0, 0, 0, 0] } i).modCore 1 fun k => (k.modMe m).setTok 3 { st := .faulted, sub := 7 }
theorem wit_go_fails : ((stFailed nest none).core 1).mayStart { ext := ⟨0xFFF#12, 4#5, 3#5, 0#5, 0#5⟩ } = .fail 7 ∧
    ((stFailed nest none).core 1).splitMode nest = .off ∧ (stFailed nest none).engineOn 1 = true ∧ ((stFailed nest none).core 1).hold = none := by decide +kernel
theorem wit_shared_go_fails : ((stFailed nestSp (some 7)).core 1).mayStart { ext := ⟨0xFFF#12, 4#5, 3#5, 0#5, 0#5⟩ } = .fail 7 ∧
    ((stFailed nestSp (some 7)).core 1).splitMode nestSp = .shared 7 ∧ (stFailed nestSp (some 7)).engineOn 1 = true := by decide +kernel
theorem wit_accepts_token : (ext4.prod ≠ 0#5 ∧ ext0.prod = 0#5) := by decide
/-- The last step of level 0, and a step of a claimed index below the shared level 1. -/
def nestSp1 : List Word := [1, 1, 0, 0, 0, 0, 0x02010011 + 2 ^ 5, 0]
theorem wit_step_to_exits : ∃ (s : State) (n : MeRun), s = stMe nest n none ∧ (s.core 1).splitMode nest = .off ∧ n.ix.length = 6 ∧
    n.ix.getD 0 0 = nestTrip nest 0 ∧ n.ix.getD 0 0 = 1 ∧ (s.core 1).stepCheck nest (stepAt nest n.ix) = none ∧ n.exits = 0 ∧ n.walked = false :=
  ⟨_, { ix := [1, 0, 0, 0, 0, 0], checked := true }, rfl, by decide +kernel⟩
theorem wit_claimed_step : ∃ (s : State) (n : MeRun), s = stMe nestSp1 n (some 7) ∧ (s.core 1).splitMode nestSp1 = .shared 7 ∧ cfgSplv nestSp1 = 1 ∧
    n.claimed ≠ none ∧ n.ix.getD 0 0 ≠ nestTrip nestSp1 0 ∧ ((s.core 1).slot (stepAt nestSp1 n.ix).sa).ready = true ∧
    ((s.core 1).slot (stepAt nestSp1 n.ix).sb).ready = true :=
  ⟨_, { ix := [0, 1, 0, 0, 0, 0], checked := true, claimed := some 1 }, rfl, by decide +kernel⟩
/-- A member of rank r of a DET gang of two, about to take its next index. -/
def stFixed (r : BitVec 8) (n : MeRun) : State := (stMe nestSp n (some 7)).modCore 1 fun k => { k with
  info := { k.info with rank := r, cont := { k.info.cont with det := true } } }
theorem wit_fixed_split : ((stFixed 0 { ix := [0, 0, 0, 0, 0, 0] }).core 1).splitMode nestSp = .fixed ∧
    ((stFixed 0 { ix := [0, 0, 0, 0, 0, 0] }).core 1).info.size ≠ 0 ∧ nestTrip nestSp (cfgSplv nestSp) = 1 ∧ cfgSplv nestSp < 6 ∧ drainList nestSp = [] := by
  decide +kernel
/-- Index 0 is within the level; index 2, after 0, and index 3, a first one, are not. -/
theorem wit_fixed_indices : 0 ≤ nestTrip nestSp (cfgSplv nestSp) ∧ nestTrip nestSp (cfgSplv nestSp) < 0 + 2 ∧
    (runEx 0 0 0 false).last ≠ none ∧ nestTrip nestSp (cfgSplv nestSp) < (3#8).toNat := by decide +kernel
theorem wit_row_sums : ∃ f : Nat → Nat, (∀ j, j < 0 ∨ 0 + 1 ≤ j → f j = lane 32 (5#4096) j) ∧ f 0 = 11 ∧ cfgInt (nest.set 6 0x02010401) = true :=
  ⟨fun j => if j = 0 then 11 else lane 32 (5#4096) j, fun j h => by simp [show ¬ j = 0 by omega], rfl, by decide +kernel⟩
theorem wit_chunks : ([.nan, .nan, .nan] : List Machine.Num).length = [Machine.Num.nan, .nan, .nan].length ∧ 0 < 2 ∧ 2 < ([.nan, .nan, .nan] : List Machine.Num).length := by decide
theorem wit_channel_word : ((stCe true).here.chan 2).held.length ≤ 2 := by decide +kernel

/-- FILL of the 4 bytes of AUX64 at 0x4000, a COPY of them to the members of the group in slot 0, a ROUTE of two tokens to one place
each and a FILTER-WRITE of a row of accumulator 0 to 0x500 of the scratchpad. -/
def recFill : Rec := 7#512 <<< 64 ||| 0x4000#512 <<< 192 ||| 3#512 <<< 256 ||| 0x11223344#512 <<< 384
def recCast : Rec := rec0 ^^^ 0x4000#512 <<< 192 ||| 3#512 <<< 79 ||| 0x100#512 <<< 192
def recScatter : Rec := recGather ^^^ 3#512 <<< 65
def recRoute : Rec := 13#512 <<< 64 ||| 0x3000#512 <<< 128 ||| 0x4000#512 <<< 192 ||| 3#512 <<< 256 ||| 1#512 <<< 272 |||
  4#512 <<< 304 ||| 8#512 <<< 336 ||| 1#512 <<< 368 ||| 0x100#512 <<< 416
def recRow : Rec := 15#512 <<< 64 ||| 0x500#512 <<< 192 ||| 4#512 <<< 304
theorem wit_record_kinds : (recordOk recFill = true ∧ rKind recFill = 3 ∧ rDkind recFill ≤ 1) ∧ (recordOk recScatter = true ∧ rKind recScatter = 2) ∧
    recordOk recGather = true ∧ rKind recGather = 1 ∧ (rAux64 recGather).toNat % 4 = 0 ∧ (rAux64 recGather).toNat + 4 * rN1 recGather ≤ 0x80000 ∧
    st0.here.spm.badIn (rAux64 recGather).toNat (4 * rN1 recGather) = false := by decide +kernel
/-- A multicast to group 7, of kind 3, in the task's slot 0. -/
theorem wit_multicast : ∃ G : Group, recordOk recCast = true ∧ rDkind recCast = 3 ∧ rKind recCast = 0 ∧ bits (rDadr recCast) 63 34 = 0 ∧ bits (rDadr recCast) 31 19 = 0 ∧
    (stGrp 3 0 0 0).slotGroup ((rDadr recCast).extractLsb' 32 2) 3#2 = some (7, G) ∧ G.mask.getLsbD 1 = true ∧ ((stGrp 3 0 0 0).core 1).runsTask = true ∧
    ((stGrp 3 0 0 0).core 1).holdsGroup 7 = true := ⟨{ built := true, kind := 3, mask := 6 }, by decide +kernel⟩
theorem wit_route : recordOk recRoute = true ∧ rKind recRoute = 6 ∧ rN1 recRoute = 2 ∧ rN2 recRoute = 1 ∧ bits (rAux64 recRoute) 18 0 + 2 * rN1 recRoute ≤ 0x80000 ∧
    st0.here.spm.badIn (bits (rAux64 recRoute) 18 0) (2 * rN1 recRoute) = false ∧ bits (rAux64 recRoute) 50 32 = 0x100 ∧
    (∀ t, t < rN1 recRoute → st0.here.spm.mem.get (bits (rAux64 recRoute) 18 0 + 2 * t) 2 < rN2 recRoute) ∧ (rAux16 recRoute).toNat = 1 := by decide +kernel
theorem wit_filter_write : recordOk recRow = true ∧ rKind recRow = 7 ∧ st0.here.accInUse ((rSadr recRow).setWidth 2) = false ∧
    ((stNest none).here.accInUse 0 = true) ∧
    ∀ i, i < rN1 recRow → (stWin (some { win0 with desc := 0x500#512 ||| 128#512 <<< 64 ||| 1#512 <<< 96 ||| 1#512 <<< 112 ||| 0x30000#512 <<< 320 })).here.inWindow
      (rDadr recRow + (rStr1 recRow).signExtend 64 * .ofNat 64 i) = true := by decide +kernel
/-- One run of the copy `rec0`. -/
def move0 : Move := Move.mk (.inl 0x3000) 0x4000 64
theorem wit_run_moves : ∃ (a d : Placed) (bs : List Byte), st0.moveMiss rec0 move0 = false ∧ st0.place rec0 [] move0 = .ok (a, d) ∧
    st0.moveData move0 a = .ok bs ∧ (∀ p ∈ a.places, ∀ q ∈ d.places, p.meets q = false) ∧ (∀ p ∈ putsOn d.places bs, st0.putBad p = false) ∧
    (∀ p ∈ d.places, ∃ pa n, p = .mem pa n) ∧ bs.length = 64 := by
  refine ⟨{ places := [.mem 0x3000 64] }, { places := [.mem 0x4000 64] }, List.replicate 64 0, by decide +kernel, ok_of (by decide +kernel), ok_of (by decide +kernel),
    by decide +kernel, by decide +kernel, ?_, by decide⟩
  intro p h; simp only [List.mem_singleton] at h; exact ⟨_, _, h⟩
/-- A batch of two additions at 0x4000, its operands at 0x100, its old values to 0x200. -/
def recBatch : Rec := 9#512 <<< 64 ||| 1#512 <<< 78 ||| 0x100#512 <<< 128 ||| 0x4000#512 <<< 192 ||| 1#512 <<< 272 ||| 8#512 <<< 304 ||| 0x200#512 <<< 384
theorem wit_batch : ∃ (op : AmoOp) (w : Word), recordOk recBatch = true ∧ rKind recBatch = 4 ∧ rN1 recBatch = 2 ∧ 2 ≤ rN1 recBatch ∧
    0x100 = (rSadr recBatch).toNat + 8 * 0 ∧ 0x200 = (rAux64 recBatch).toNat + 8 * 0 ∧ st0.here.spm.badIn 0x100 8 = false ∧ st0.here.spm.badIn 0x200 8 = false ∧
    st0.xlate st0.cur st0.here.ctx .atomic 0x4000 8 = .ok (xl0 0x4000) ∧ notResident (xl0 0x4000).pte = false ∧ st0.poisoned (xl0 0x4000).pa = false ∧
    AmoOp.ofCode (rAop recBatch) = some op ∧ amoNew op 0 (.ofNat 64 (st0.here.spm.mem.get 0x100 8)) 0 = some w :=
  ⟨.add, 0, by decide +kernel, by decide +kernel, by decide +kernel, by decide +kernel, by decide +kernel, by decide +kernel, by decide +kernel, by decide +kernel,
    ok_of (by decide +kernel), by decide +kernel, by decide +kernel, by decide +kernel, by decide +kernel⟩
/-- A copy of an 8 x 8 INT8 tile at 0x30000 into slot 2, plain or scaled with its scales at 0x30100. -/
def recSlot (o : BitVec 512) : Rec := 1#512 <<< 64 ||| 2#512 <<< 79 ||| (9#512 ||| 32#512 ||| 3#512 <<< 6 ||| 3#512 <<< 9 ||| o) <<< 81 ||| 0x30000#512 <<< 128 ||| 2#512 <<< 192
def stSlot : State := stK (·.setSlot 2 { st := .claimed })
theorem wit_slot_fill : ∃ d : BitVec 24, recordOk (recSlot 0) = true ∧ rKind (recSlot 0) = 0 ∧ rDkind (recSlot 0) = 2 ∧ stSlot.globMiss (rSadr (recSlot 0)) 1 = false ∧
    stSlot.xlate stSlot.cur stSlot.here.ctx .read (rSadr (recSlot 0)) 1 = .ok (xl0 0x30000) ∧ (rOvr (recSlot 0)).getLsbD 5 = true ∧ d = rOvr (recSlot 0) ∧
    descCheck d (rSadr (recSlot 0)) = none ∧ stSlot.here.slotTakes 2 ((rDadr (recSlot 0)).getLsbD 3) d = true ∧ st0.here.slotTakes 2 ((rDadr (recSlot 0)).getLsbD 3) d = false ∧
    stSlot.poisonedIn 0x30000 (tileBytes d) = false ∧ d.getLsbD 4 = false :=
  ⟨_, by decide +kernel, by decide +kernel, by decide +kernel, by decide +kernel, ok_of (by decide +kernel), by decide +kernel, rfl, by decide +kernel, by decide +kernel,
    by decide +kernel, by decide +kernel, by decide +kernel⟩
theorem wit_scaled_slot_fill : ∃ d : BitVec 24, d = rOvr (recSlot 0x1010) ∧ d.getLsbD 4 = true ∧ recordOk (recSlot 0x1010) = true ∧
    descCheck d (rSadr (recSlot 0x1010)) = none ∧ stSlot.here.slotTakes 2 ((rDadr (recSlot 0x1010)).getLsbD 3) d = true ∧
    stSlot.xlate stSlot.cur stSlot.here.ctx .read ((rSadr (recSlot 0x1010) &&& ~~~0xFFFF#64) +
      .ofNat 64 ((d.extractLsb' 12 8).toNat * 256 + 256 * (bits (rSadr (recSlot 0x1010)) 15 0 / tileBytes d))) 1 = .ok (xl0 0x30100) ∧
    stSlot.poisonedIn 0x30100 (2 * 8 + 8) = false ∧ descCheck (d ^^^ 32#24) (rSadr (recSlot 0x1010)) ≠ none :=
  ⟨_, rfl, by decide +kernel, by decide +kernel, by decide +kernel, by decide +kernel, ok_of (by decide +kernel), by decide +kernel, by decide +kernel⟩

/-- END of a stage task that has popped nothing, and of one that has popped its item and owes nothing. -/
theorem wit_end_of_stage : ∃ s v : State, s.here.isSup = false ∧ s.here.info.stage ≠ none ∧ (s.myPart.slotOf s.here.info).popped = false ∧
    v.here.isSup = false ∧ v.here.info.stage ≠ none ∧ (v.myPart.slotOf v.here.info).popped = true ∧ v.here.quiet = true ∧
    ∀ kv ∈ v.myPart.queues, ∀ i ∈ kv.2.items, i.st ≠ .resvOut v.here.info.key :=
  ⟨(stP 1 id).modCore 1 fun k => { k with info := { k.info with stage := some 0 } },
   ((stP 1 id).modPart 0 fun P => P.modSlot 1 0 fun r => { r with popped := true }).modCore 1 fun k => { k with info := { k.info with stage := some 0, slot := 0 } }, by decide +kernel⟩
/-- INV entries of context 1 in core 1's TLB; a capture held in this clk or from before. -/
theorem wit_tlb_drop : ∃ s : State, s.partOf 1 = 0 ∧ (s.part 0).hasDie 0 = true ∧ (s.core 1).tlb ≠ [] ∧ s.partOf 200 ≠ 0 :=
  ⟨st0.modCore 1 fun k => { k with tlb := [tlbOf 1 0x2000 { pte := 0xE7, big := true, addr := 0 }] }, by decide +kernel⟩
theorem wit_snapt_held : ∃ s v : State, s.io.snap.instr = true ∧ s.io.snap.lock = true ∧ s.io.snap.atClk = s.clk ∧
    v.io.snap.instr = true ∧ v.io.snap.lock = true ∧ v.io.snap.atClk ≠ v.clk ∧ st0.io.snap.lock = false :=
  ⟨{ st0 with io := { st0.io with snap := { st0.io.snap with lock := true, atClk := st0.clk } } },
   { st0 with clk := 7, io := { st0.io with snap := { st0.io.snap with lock := true, atClk := 3 } } }, by decide +kernel⟩
theorem wit_stop_core : (st0.core 1).occ = .task ∧ (st0.core 1).info.inGang = false ∧ ((stTwo id).core 1).info.inGang = true := by decide +kernel
theorem wit_reopened : ((stWin (some { win0 with closing := true, done := 1 })).here.window? 1).map (fun w => (w.closing, w.done)) = some (true, 1) := by
  decide +kernel

theorem wit_exact_value : 65535 < 65536 ∧ 0x3F800000 < 2 ^ elemWidth .fp32 ∧ numEq (.fin false 4 (-2)) (codeValue .fp32 0x3F800000) = true ∧
    (Machine.Num.fin false 4 (-2)).isNeg = (codeValue .fp32 0x3F800000).isNeg := by decide +kernel
/-- 2^24 + 1 lies midway between two FP32 values; 2^129 exceeds twice the largest. -/
theorem wit_rounded_value : (convert .fp32 false .rne 0 (.fin false (2 ^ 24 + 1) 0)).2 &&& (flOF ||| flSAT) = 0#6 ∧
    (convert .fp32 false .rne 0 (.fin false (2 ^ 24 + 1) 0)).1 = 0x4B800000 ∧ codeValue .fp32 0x4B800000 = .fin false (2 ^ 23) 1 ∧
    (fpFmt .fp32).map (fun k => magGt 1 129 (2 * k.maxM) k.maxE) = some true := by decide +kernel
theorem wit_exact_arithmetic : codeValue .fp32 0x3FC00000 = .fin false (3 * 2 ^ 22) (-23) ∧ codeValue .fp32 0xBFC00000 = .fin true (3 * 2 ^ 22) (-23) ∧
    codeValue .fp32 0x40000000 = .fin false (2 ^ 23) (-22) ∧
    toIntAt false 7 (-1) (-45) = toIntAt false (3 * 2 ^ 22) (-23) (-45) + toIntAt false (2 ^ 23) (-22) (-45) ∧
    toIntAt false (3 * 2 ^ 22) (-23) (-45) + toIntAt true (3 * 2 ^ 22) (-23) (-45) = 0 ∧
    toIntAt false 5 0 (-45) = toIntAt false (2 ^ 23) (-22) (-45) + toIntAt (false != (false != false)) (3 * 2 ^ 22 * 2 ^ 23) (-23 + -22) (-45) ∧
    codeValue .fp32 0x7F800000 = .inf false ∧ codeValue .fp32 0xFF800000 = .inf (!false) ∧ (codeValue .fp32 0x80000000).isZero = true := by decide +kernel
theorem test_exact_arithmetic : fpAdd .fp32 .rne 0 0x3FC00000 0x40000000 = (0x40600000, 0#6) ∧ fpMul .fp32 .rd 0 0x3FC00000 0x40000000 = (0x40400000, 0#6) ∧
    fpFma .fp32 false .rne 0 0x3FC00000 0x40000000 0x40000000 = (0x40A00000, 0#6) ∧ fpAdd .fp32 .rd 0 0x3FC00000 0xBFC00000 = (0x80000000, 0#6) := by decide +kernel
theorem wit_quantised_row : ∃ k : FpFmt, fpFmt .e4m3 = some k ∧ (∀ y, y ∈ ([.nan, .fin true 0 0] : List Machine.Num) → y = .nan ∨ y.isZero = true) ∧
    (∃ y, y ∈ ([.nan, .fin true 3 0] : List Machine.Num) ∧ y ≠ .nan ∧ y.isZero = false) :=
  ⟨{ x := 4, m := 3, bias := 7, hasInf := false, maxM := 14, maxE := 5, nan := some 0x7F }, rfl, by decide +kernel, .fin true 3 0, by decide +kernel⟩

/-- A pipeline IDLE with its Rills open: an entry and an exit. -/
def stPipeIdle : State := stStage.modPart 0 fun P => { P with recs := P.recs.map fun q => (q.1, { q.2 with st := .idle }) }
theorem wit_rebuild_fails : ∃ (e : Nat), ((stCmd 3 0 (fun P => { P with recs := [(3, { st := .idle, ctx := 1 })] }) id).part 0).lrec 3 = { st := .idle, ctx := 1 } ∧
    ((stCmd 3 0 (fun P => { P with recs := [(3, { st := .idle, ctx := 1 })] }) id).unbuild 0 3).buildCheck 0 3 = .error e :=
  ⟨2 + 256 * 92, by decide +kernel, err_of (by decide +kernel)⟩
theorem wit_unbuilt_rills : ∃ (e x : RillEnt) (z y : Queue), ((stPipeIdle.part 0).lrec 3).st = .idle ∧ ((stPipeIdle.part 0).lrec 3).pipe.rills[0]? = some e ∧
    ((stPipeIdle.part 0).lrec 3).pipe.rills[1]? = some x ∧ e.extout = false ∧ x.extout = true ∧ ((stPipeIdle.part 0).lrec 3).pipe.rills.length ≤ 16 ∧
    (stPipeIdle.part 0).rill 3 ((stPipeIdle.part 0).lrec 3) (.ofNat 4 0) = some z ∧ (stPipeIdle.part 0).rill 3 ((stPipeIdle.part 0).lrec 3) (.ofNat 4 1) = some y :=
  ⟨⟨4, 3, true, false⟩, ⟨4, 3, false, true⟩, { q9 with kind := .rill, pipe := some (3, 0), items := [{ num := 0, data := List.replicate 8 0, st := .ready }] },
    { q9 with kind := .rill, pipe := some (3, 1) }, by decide +kernel⟩
/-- A write of LRCMD or EVCMD by the port that holds HSEM, through partition 0's window. -/
def stWindow (n : BitVec 12) (v : Word) (c : BitVec 16) : State :=
  let t := stCmd 3 c id recImage
  { t with io := { t.io with held := true, owner := 1, phase := 2 }, ev := { t.ev with target := .window 1 0 n, v := v, agent := .port 1, port := 1 } }
theorem wit_window_build : ∃ b : LRec, (stWindow 0x141 0x1003 0).io.held = true ∧ (stWindow 0x141 0x1003 0).io.owner = 1 ∧ (stWindow 0x141 0x1003 0).accepting = true ∧
    ((stWindow 0x141 0x1003 0).part 0).up = true ∧ bits (stWindow 0x141 0x1003 0).ev.v 14 12 = 1 ∧ 3 = (stWindow 0x141 0x1003 0).ev.v.setWidth 12 ∧
    (((stWindow 0x141 0x1003 0).part 0).lrec 3).st = .unbuilt ∧ (stWindow 0x141 0x1003 0).buildCheck 0 3 = .ok b ∧
    (stWindow 0x141 0x1003 0).ev.n.toNat % 4096 = bits (stWindow 0x141 0x1003 0).ev.v 11 0 ∧ (stWindow 0x141 0x1003 0).ev.part = 0 :=
  ⟨{ code := 0x1000, args := List.replicate 8 0, ctx := 1, ngang := 1 }, by decide +kernel, by decide +kernel, by decide +kernel, by decide +kernel,
    by decide +kernel, by decide +kernel, by decide +kernel, ok_of (by decide +kernel), by decide +kernel, by decide +kernel⟩
theorem wit_window_suspend : (stWindow 0x13E 0x10001 1).ev.v.toNat = (stWindow 0x13E 0x10001 1).ev.ctx.toNat + 2 ^ 16 ∧
    ((stWindow 0x13E 0x10001 1).part 0).evBusy (.port 1) = false ∧ ((stWindow 0x13E 0x10001 1).part 0).evrun = none ∧
    ((stWindow 0x13E 0x10001 1).part 0).evwait = [] ∧ (((stWindow 0x13E 0x10001 1).part 0).ctx 1).st = 1 := by decide +kernel
theorem test_window_suspend : (match exec .registerWrite (stWindow 0x13E 0x10001 1) with
    | .next u => ((u.part 0).ctx 1).st
    | _ => 0) = 2 := by decide +kernel
theorem wit_sluice_idle : stSetup.sl.run = none ∧ (stHeld 2 id).sl.run = none := by decide +kernel
/-- A block of record 3 of context 2 is none of context 1. -/
theorem wit_foreign_block : ∃ r ∈ ({ recs := [(3, { ctx := 2 })] } : Export).recs, r.2.ctx ≠ 1 := ⟨(3, { ctx := 2 }), by decide⟩
/-- A record of a task saved in half 0 of slot 0, whose image has the answer to another. -/
def stSaved : State :=
  let t := stPin 1 id (fun P => { P with
      ctxs := P.ctxs.map fun q => (q.1, { q.2 with use := [(0, { half := some false, info := { cont := cont3 } })] })
      sup := { P.sup with out := [{ seq := 5, kind := 0, ctx := 1, slots := [0] }] } }) fun m => (m.put 0x1000048 8 (3 + 2 ^ 34)).put 0x1000010 4 (2 ^ 11)
  { t with ev := { core := 1, part := 0, seq := 5 } }
theorem wit_answer_of_saved : ∃ o : Outst, (stSaved.part 0).sup.out.find? (fun o => o.seq == stSaved.ev.seq) = some o ∧ o.slots = [0] ∧ o.ctx ≠ 0#16 ∧ o.kind = 0#8 ∧
    (((stSaved.part 0).ctx o.ctx).slotRec 0).core = none ∧ (stSaved.part 0).evrun = none ∧ stSaved.mem.wf = true ∧
    (((stSaved.part 0).ctx o.ctx).halfVa 0 ((((stSaved.part 0).ctx o.ctx).slotRec 0).half.getD false)) = 0x1000000 ∧
    (stSaved.mem.get (0x1000000 + 0x10) 4).testBit 11 = true :=
  ⟨{ seq := 5, kind := 0, ctx := 1, slots := [0] }, by decide +kernel⟩
theorem wit_saved_area : stSaved.savePa 0 1#16 0x1000000 = some 0x1000000 := by
  have h : Stands (stSaved.part 0) stSaved := by refine ⟨rfl, ⟨?_, ?_, ?_, ?_, ?_⟩, ?_, ?_, ?_⟩ <;> decide +kernel
  exact stands_savePa h (by decide)
/-- R297: the RETURN of a call stays pending beside the RESUME of a fault. -/
theorem test_two_answers : (match exec .ccmdResume stSaved with
    | .next u => ((((u.part 0).ctx 1).slotRec 0).marks.cmds, u.mem.get 0x1000048 8)
    | _ => ([], 0)) = ([0x400000003#64], 5 + 2 ^ 32) := by decide +kernel

end Sys2Proof.Tests
end

section
/-! PROOFS. A strand's turn: what comes before it, the fetch of its words, and the instruction that they decode to
(R120, R121, R148). -/
namespace Sys2Proof.Machine

section Turn

variable {s : State} {c : CoreId} {st : Strand}

/-! #### The fetch of a word -/

/-- The four bytes of a word, the first the least significant (R3). -/
theorem Mem.get_four (m : Mem) (a : Nat) : m.get a 4 = (m.read a).toNat + 2 ^ 8 * (m.read (a + 1)).toNat
    + 2 ^ 16 * (m.read (a + 2)).toNat + 2 ^ 24 * (m.read (a + 3)).toNat := by
  simp only [Mem.get, Mem.readN, leNat, Nat.add_assoc, Nat.reduceAdd]
  omega

theorem Mem.get_four_lt (m : Mem) (a : Nat) : m.get a 4 < 2 ^ 32 := by
  rw [Mem.get_four]
  omega

theorem State.fetchWord_of_xlate {va : Word} {l : Xl} (hl : s.xlate c (s.core c).ctx .fetch va 4 = .ok l) :
    s.fetchWord c va =
      if s.poisoned l.pa then .error { poisonFlt va with fetch := true } else .ok (.ofNat 32 (s.mem.get l.pa 4)) := by
  simp only [State.fetchWord, hl]

theorem State.fetchWord_of_clean {va : Word} {l : Xl} (hl : s.xlate c (s.core c).ctx .fetch va 4 = .ok l)
    (hp : s.poisoned l.pa = false) : ∃ w, s.fetchWord c va = .ok w ∧
      w.toNat = (s.mem.read l.pa).toNat + 2 ^ 8 * (s.mem.read (l.pa + 1)).toNat
        + 2 ^ 16 * (s.mem.read (l.pa + 2)).toNat + 2 ^ 24 * (s.mem.read (l.pa + 3)).toNat := by
  refine ⟨.ofNat 32 (s.mem.get l.pa 4), by simp [State.fetchWord_of_xlate hl, hp], ?_⟩
  rw [BitVec.toNat_ofNat, Nat.mod_eq_of_lt (Mem.get_four_lt ..), Mem.get_four]

theorem State.fetchWord_of_poisoned {va : Word} {l : Xl} (hl : s.xlate c (s.core c).ctx .fetch va 4 = .ok l)
    (hp : s.poisoned l.pa = true) : ∃ f, s.fetchWord c va = .error f ∧ f.code = .poison :=
  ⟨{ poisonFlt va with fetch := true }, by simp [State.fetchWord_of_xlate hl, hp], rfl⟩

/-! #### The fetch of an instruction -/

theorem State.fetchExt_short {w : W32} (h : st = .x ∨ isLongWord w = false ∨ fL w = false) :
    s.fetchExt c st w = .ok 0 := by
  rcases h with rfl | h | h
  · rfl
  · simp [State.fetchExt, h]
  · simp [State.fetchExt, h]

theorem State.fetchExt_long {w : W32} (hw : isLongWord w = true) (hl : fL w = true) :
    s.fetchExt c .a w = s.fetchWord c ((s.core c).pcOf .a + 4) := by
  simp [State.fetchExt, hw, hl]

theorem State.fetch_of_word_error {f : Flt} (hf : s.fetchWord c ((s.core c).pcOf st) = .error f) :
    s.fetch c st = .flt (s.modCore c (·.latch st 0 0)) f := by
  simp only [State.fetch, hf]

theorem State.fetch_of_ext_error {w : W32} {f : Flt} (hw : s.fetchWord c ((s.core c).pcOf st) = .ok w)
    (hf : s.fetchExt c st w = .error f) : s.fetch c st = .flt (s.modCore c (·.latch st w 0)) f := by
  simp only [State.fetch, hw, hf]

theorem State.fetch_of_decode_ok {w x : W32} {i : Instr} (hw : s.fetchWord c ((s.core c).pcOf st) = .ok w)
    (hx : s.fetchExt c st w = .ok x) (hi : decode st (s.core c).isSup w x = .ok i) :
    s.fetch c st = .run i { s.modCore c (·.latch st w x) with cur := c } := by
  simp only [State.fetch, hw, hx, hi]

/-- A word that does not decode faults with the decoder's code (R133). -/
theorem State.fetch_of_decode_error {w x : W32} {f : FCode} (hw : s.fetchWord c ((s.core c).pcOf st) = .ok w)
    (hx : s.fetchExt c st w = .ok x) (hf : decode st (s.core c).isSup w x = .error f) :
    ∃ g : Flt, g.code = f ∧ s.fetch c st = .flt { s.modCore c (·.latch st w x) with cur := c } g := by
  simp only [State.fetch, hw, hx, hf]
  exact ⟨_, rfl, rfl⟩

/-! #### What comes before the instruction (R339, R381) -/

theorem State.before_of_boundary {u : State} (hb : s.boundary c = some u) : s.before c .a = some u := by
  simp [State.before, hb]

theorem State.firstAccess_of_nothing_absent (h : s.absentIn (s.partOf c) = []) : s.firstAccess c st = none := by
  simp only [State.firstAccess, h]

theorem State.before_eq_none (h : s.absentIn (s.partOf c) = []) (hb : st = .a → s.boundary c = none) :
    s.before c st = none := by
  cases st with
  | a => simp [State.before, hb rfl, State.firstAccess_of_nothing_absent h]
  | x => exact State.firstAccess_of_nothing_absent h

/-! #### The turn -/

theorem runInstr_of_run {i : Instr} {t : State} (h : s.fetch c st = .run i t) : runInstr s c st = exec i t := by
  simp only [runInstr, h]

theorem runInstr_of_flt {t : State} {f : Flt} (h : s.fetch c st = .flt t f) :
    runInstr s c st = .next (t.takeFault c st f) := by
  simp only [runInstr, h]

theorem runStrand_of_stopped (h : s.canRun c st = false) : runStrand s c st = .next s := by
  simp [runStrand, h]

theorem runStrand_of_before {u : State} (h : s.canRun c st = true) (hb : s.before c st = some u) :
    runStrand s c st = .next u := by
  simp [runStrand, h, hb]

theorem runStrand_eq_runInstr (h : s.canRun c st = true) (hb : s.before c st = none) :
    runStrand s c st = runInstr s c st := by
  simp [runStrand, h, hb]

theorem step_of_strand {r : List Turn} (h : s.agenda = .strand c st :: r) :
    step s = runStrand { s with agenda := r } c st := by
  simp only [step, stepTurn, h, runTurn]

end Turn

/-- Settles O58: by the turn's branches (may it issue, what comes before) and then by the fetch's (the word, its
extension, what they decode to). -/
theorem aStepRunsTheDecodedInstruction : Obligations.AStepRunsTheDecodedInstruction := by
  refine ⟨?_, fun s c va l hl => ⟨State.fetchWord_of_clean hl, State.fetchWord_of_poisoned hl⟩⟩
  intro s t c st r hs ht
  have hstep : step s = runStrand t c st := ht ▸ step_of_strand hs
  simp only [hstep]
  refine ⟨runStrand_of_stopped, fun hrun => ⟨fun u => runStrand_of_before hrun, ?_, State.before_eq_none, fun hb => ?_⟩⟩
  · rintro u rfl hb
    exact State.before_of_boundary hb
  rw [runStrand_eq_runInstr hrun hb]
  refine ⟨fun f hf => runInstr_of_flt (State.fetch_of_word_error hf), fun w hw => ⟨fun x hx => ?_, ?_⟩⟩
  · have hext : t.fetchExt c st w = .ok x := by
      rcases hx with ⟨hshort, rfl⟩ | ⟨rfl, hlong, hl, hword⟩
      · exact State.fetchExt_short hshort
      · rw [State.fetchExt_long hlong hl, hword]
    refine ⟨fun i hi => runInstr_of_run (State.fetch_of_decode_ok hw hext hi), fun f hf => ?_⟩
    obtain ⟨g, hg, hfetch⟩ := State.fetch_of_decode_error hw hext hf
    exact ⟨g, hg, runInstr_of_flt hfetch⟩
  · rintro f rfl hlong hl hword
    exact runInstr_of_flt (State.fetch_of_ext_error hw (State.fetchExt_long hlong hl ▸ hword))

end Sys2Proof.Machine
end

section
/-! PROOFS. The scalar accesses of the scratchpad: what an address names, the routes of a load and a store, and the lines
that a full-bit instruction reaches (R55, R57, R59, R153). -/
namespace Sys2Proof.Machine

section Scratchpad

variable {s : State} {a : Reg} {ea : Word} {size align o : Nat}

/-! #### What an address names (Table 03.1) -/

theorem spDecode_own (h : ea.toNat < 0x80000) : spDecode ea = some (.own ea.toNat) := by
  have hspace : bits ea 63 19 = 0 := by simp only [bits]; omega
  have hoff : bits ea 18 0 = ea.toNat := by simp only [bits]; omega
  rw [spDecode, if_pos hspace, hoff]

theorem spDecode_peer (h : ea.toNat = 0x800000 + o) (ho : o < 0x80000) : spDecode ea = some (.peer o) := by
  have hspace : bits ea 63 19 ≠ 0 := by simp only [bits]; omega
  have hpeer : bits ea 63 24 = 0 ∧ bits ea 23 23 = 1 ∧ bits ea 22 19 = 0 := by simp only [bits]; omega
  have hoff : bits ea 18 0 = o := by simp only [bits]; omega
  rw [spDecode, if_neg hspace, if_pos hpeer, hoff]

theorem spCheck_own {peerOk : Bool} (hs : 0 < size) (hend : ea.toNat + size ≤ 0x80000) (hal : ea.toNat % align = 0) :
    spCheck ea size align peerOk = .ok (.own ea.toNat) := by
  simp [spCheck, spDecode_own (ea := ea) (by omega), hal, Nat.not_lt.2 hend]

theorem spCheck_peer (hs : 0 < size) (h : ea.toNat = 0x800000 + o) (hend : o + size ≤ 0x80000) (hal : o % align = 0) :
    spCheck ea size align true = .ok (.peer o) := by
  simp [spCheck, spDecode_peer h (by omega), hal, Nat.not_lt.2 hend]

theorem spOwn_of_inside (hs : 0 < size) (hend : ea.toNat + size ≤ 0x80000) (hal : ea.toNat % align = 0) :
    spOwn ea size align = .ok ea.toNat := by
  rw [spOwn, spCheck_own hs hend hal]

/-! #### The routes of an access (R59) -/

theorem Core.route_window {k : Core} (ha : a = 63#6) (hlo : ea.toNat < k.spco.toNat) :
    k.route a ea = .window (k.ctl.spovf + ea) := by
  simp [Core.route, ha, hlo]

theorem State.fullOwn_local (hr : s.here.route a ea = .local_) (hs : 0 < size) (hend : ea.toNat + size ≤ 0x80000)
    (hal : ea.toNat % align = 0) : s.fullOwn a ea size align = .ok ea.toNat := by
  simp only [State.fullOwn, hr, spOwn_of_inside hs hend hal]

theorem State.spLoad_own (hr : s.here.route a ea = .local_) (hs : 0 < size) (hend : ea.toNat + size ≤ 0x80000)
    (hal : ea.toNat % size = 0) (hgood : s.here.spm.badIn ea.toNat size = false) :
    s.spLoad a ea size = .ok (s.here.spm.mem.get ea.toNat size) := by
  have hgood' : (s.core s.cur).spm.badIn ea.toNat size = false := hgood
  simp only [State.spLoad, hr, spCheck_own hs hend hal, State.spCore, hgood', Bool.false_eq_true, if_false]
  rfl

theorem State.spLoad_peer {c : CoreId} (hr : s.here.route a ea = .local_) (hs : 0 < size)
    (hea : ea.toNat = 0x800000 + o) (hend : o + size ≤ 0x80000) (hal : o % size = 0) (hc : s.peerCore ea false = .ok c)
    (hgood : (s.core c).spm.badIn o size = false) : s.spLoad a ea size = .ok ((s.core c).spm.mem.get o size) := by
  simp only [State.spLoad, hr, spCheck_peer hs hea hend hal, State.spCore, hc, Except.map, hgood, Bool.false_eq_true,
    if_false]

theorem State.spLoad_window {l : Xl} (ha : a = 63#6) (hlo : ea.toNat < s.here.spco.toNat)
    (hl : s.xlate s.cur s.here.ctx .read (s.here.ctl.spovf + ea) size = .ok l) (hp : s.poisoned l.pa = false) :
    s.spLoad a ea size = .ok (s.mem.get l.pa size) := by
  simp only [State.spLoad, Core.route_window ha hlo, hl, hp, Bool.false_eq_true, if_false]

theorem State.spStore_own {v : Nat} (hr : s.here.route a ea = .local_) (hs : 0 < size)
    (hend : ea.toNat + size ≤ 0x80000) (hal : ea.toNat % size = 0) (hgood : s.here.spm.badIn ea.toNat size = false) :
    s.spStore a ea size v = .ok (s.modSpm s.cur (·.write ea.toNat (leBytes size v))) := by
  simp only [State.spStore, hr, spOwn_of_inside hs hend hal, hgood, Bool.false_eq_true, if_false]

theorem State.spStore_window {v : Nat} {l : Xl} (ha : a = 63#6) (hlo : ea.toNat < s.here.spco.toNat)
    (hl : s.xlate s.cur s.here.ctx .write (s.here.ctl.spovf + ea) size = .ok l) (hup : s.linkDown l.pa size = false) :
    s.spStore a ea size v = .ok (s.physWrite l.pa (leBytes size v)) := by
  simp only [State.spStore, Core.route_window ha hlo, hl, hup, Bool.false_eq_true, if_false]

/-! #### The lines of a full-bit instruction (R57) -/

theorem getLsbD_lineMask {k c n : Nat} (hn : n < 4096) :
    (lineMask k c).getLsbD n = (decide (k ≤ n) && decide (n < k + c)) := by
  have hin : k ≤ n → (n - k < c ↔ n < k + c) := by omega
  rw [lineMask, BitVec.getLsbD_ofNat, Nat.testBit_mul_two_pow, Nat.testBit_two_pow_sub_one]
  by_cases h : k ≤ n <;> simp [h, hn, hin]

theorem Spm.getLsbD_markFull (m : Spm) {k c n : Nat} (hn : n < 4096) :
    (m.markFull k c).full.getLsbD n = (m.full.getLsbD n || (decide (k ≤ n) && decide (n < k + c))) := by
  rw [Spm.markFull, BitVec.getLsbD_or, getLsbD_lineMask hn]

theorem Spm.getLsbD_markEmpty (m : Spm) {k c n : Nat} (hn : n < 4096) :
    (m.markEmpty k c).full.getLsbD n = (m.full.getLsbD n && !(decide (k ≤ n) && decide (n < k + c))) := by
  rw [Spm.markEmpty, BitVec.getLsbD_and, BitVec.getLsbD_not, getLsbD_lineMask hn]
  simp [hn]

/-! #### The instructions (R153) -/

variable {s1 s2 s3 t : State} {d b : Reg} {e : Bool} {x y z : Word} {i : Instr}

theorem exec_spLoad (hi : (i, size) ∈ [(Instr.spldb d a b e, 1), (.spldh d a b e, 2), (.spldw d a b e, 4), (.spldd d a b e, 8)]) :
    0 < size ∧ exec i s = issueA s (spLoadEff s d a b e size) := by
  simp only [List.mem_cons, Prod.mk.injEq, List.not_mem_nil, or_false] at hi
  obtain ⟨rfl, rfl⟩ | ⟨rfl, rfl⟩ | ⟨rfl, rfl⟩ | ⟨rfl, rfl⟩ := hi <;> exact ⟨by decide, rfl⟩

theorem exec_spStore (hi : (i, size) ∈ [(Instr.spstb d a b e, 1), (.spsth d a b e, 2), (.spstw d a b e, 4), (.spstd d a b e, 8)]) :
    0 < size ∧ exec i s = issueA s (spStoreEff s d a b e size) := by
  simp only [List.mem_cons, Prod.mk.injEq, List.not_mem_nil, or_false] at hi
  obtain ⟨rfl, rfl⟩ | ⟨rfl, rfl⟩ | ⟨rfl, rfl⟩ | ⟨rfl, rfl⟩ := hi <;> exact ⟨by decide, rfl⟩

theorem spLoadEff_ok {v : Nat} (hc : s.clear [a, b] [d] = true) (ha : s.Reads a x s1) (hb : s1.Reads b y s2)
    (hv : s2.spLoad a (x + y) size = .ok v) (hw : s2.Writes d (.ofNat 64 v) t) : spLoadEff s d a b e size = .ok t := by
  rw [spLoadEff, State.gate_clear hc, State.rd_reads ha, State.rd_reads hb]
  simp only [hv, State.wr_writes hw]

theorem spStoreEff_ok (hc : s.clear [a, b, d] [] = true) (ha : s.Reads a x s1) (hb : s1.Reads b y s2)
    (hd : s2.Reads d z s3) (ht : s3.spStore a (x + y) size (z.toNat % 2 ^ (8 * size)) = .ok t) :
    spStoreEff s d a b e size = .ok t := by
  rw [spStoreEff, with3_go hc ha hb hd]
  simp only [ht]

/-- A full-bit instruction leaves the scratchpad as its operation on the lines does. -/
theorem markEff_ok {f : Spm → Nat → Nat → Spm} (hc : s.clear [a, b] [] = true) (ha : s.Reads a x s1)
    (hb : s1.Reads b y s2) (hr : s2.here.route a x = .local_) (hx : x.toNat < 0x80000) (hal : x.toNat % 128 = 0)
    (hlines : x.toNat / 128 + y.toNat ≤ 4096) :
    markEff s a b e f = .ok (s2.modSpm s2.cur fun m => f m (x.toNat / 128) y.toNat) := by
  have hown : s2.fullOwn a x 128 128 = .ok x.toNat := State.fullOwn_local hr (by omega) (by omega) hal
  rw [markEff, with2_go hc ha hb]
  simp only [hown, Nat.not_lt.2 hlines, if_false]

theorem exec_sptestf_ok (hc : s.clear [a, b] [d] = true) (ha : s.Reads a x s1) (hb : s1.Reads b y s2)
    (hr : s2.here.route a (x + y) = .local_) (hx : (x + y).toNat < 0x80000)
    (hw : s2.Writes d (if s2.here.spm.isFull ((x + y).toNat / 128) then 1 else 0) t) :
    exec (.sptestf d a b e) s = .next (s.pastA t 4) := by
  have hown : s2.fullOwn a (x + y) 1 1 = .ok (x + y).toNat := State.fullOwn_local hr (by omega) hx (Nat.mod_one _)
  change execSptestf d a b e s = _
  rw [execSptestf, State.gate_clear hc, State.rd_reads ha, State.rd_reads hb]
  simp only [hown, State.wr_writes hw, issueA_ok]

end Scratchpad

/-- Settles O9: by the route of the address (own, peer, overflow window) for the loads and stores, and by the mask of the
lines for the full bits. -/
theorem scratchpadAccesses : Obligations.ScratchpadAccesses := by
  refine ⟨?loads, ?stores, ?fullBits⟩
  case loads =>
    intro s s1 s2 t d a b e x y size v i hc ha hb hi hv hw
    obtain ⟨hs, hexec⟩ := exec_spLoad (s := s) hi
    have hload : s2.spLoad a (x + y) size = .ok v := by
      obtain ⟨hr, hend, hal, hgood, rfl⟩ | ⟨o, c, hr, hea, hend, hal, hpeer, hgood, rfl⟩ | ⟨l, hsp, hlo, hl, hp, rfl⟩ := hv
      · exact State.spLoad_own hr hs hend hal hgood
      · exact State.spLoad_peer hr hs hea hend hal hpeer hgood
      · exact State.spLoad_window hsp hlo hl hp
    rw [hexec, spLoadEff_ok hc ha hb hload hw, issueA_ok]
  case stores =>
    intro s s1 s2 s3 d a b e x y z size i hc ha hb hd hi
    obtain ⟨hs, hexec⟩ := exec_spStore (s := s) hi
    refine ⟨fun hr hend hal hgood => ?_, fun l hsp hlo hl hup => ?_⟩
    · rw [hexec, spStoreEff_ok hc ha hb hd (State.spStore_own hr hs hend hal hgood), issueA_ok]
    · rw [hexec, spStoreEff_ok hc ha hb hd (State.spStore_window hsp hlo hl hup), issueA_ok]
  case fullBits =>
    intro s s1 s2 t d a b e x y n ha hb
    refine ⟨fun hc hr hx hal hlines hn => ⟨?_, ?_⟩, fun hc hr hx hw => exec_sptestf_ok hc ha hb hr hx hw⟩
    · exact ⟨(s2.here.spm.markFull (x.toNat / 128) y.toNat).full,
        congrArg (issueA s) (markEff_ok (f := Spm.markFull) hc ha hb hr hx hal hlines), Spm.getLsbD_markFull _ hn⟩
    · exact ⟨(s2.here.spm.markEmpty (x.toNat / 128) y.toNat).full,
        congrArg (issueA s) (markEff_ok (f := Spm.markEmpty) hc ha hb hr hx hal hlines), Spm.getLsbD_markEmpty _ hn⟩

end Sys2Proof.Machine
end
